-- ==== Sys2Proof/Word.lean ====
section
/-! DEFINITION. Bytes, two-byte fields, the index types of the part's objects, fixed-size tables and the plain
arithmetic of 00_scope.md section 4.1. -/

namespace Sys2Proof

/-- One byte of a frame (11, Table 11-1). -/
abbrev Byte := BitVec 8

/-- A two-byte field of a request or an item, high byte first on the line (11, R180). -/
abbrev Half := BitVec 16

/-- C0 to C3 (00, Table 4-2). -/
abbrev ChanId := Fin 4

/-- B0 to B11. -/
abbrev BankId := Fin 12

/-- L0 to L63. -/
abbrev LampId := Fin 64

/-- P0 to P95. -/
abbrev PointId := Fin 96

/-- A position of the south arbiter's cycle: lamp slots L0 to L63, then wiper slots B0 to B11 (08, R146). -/
abbrev SlotId := Fin 76

/-- A timer: stopped, or running with the instant at which it expires on the millisecond time base
(00, section 4.5). -/
abbrev Timer := Option Nat

/-- The table whose entry at `i` is `f i`. -/
def build {n : Nat} {α : Type} (f : Fin n → α) : Vector α n :=
  ⟨⟨(List.finRange n).map f⟩, by simp⟩

/-- The table `v` with entry `i` replaced by `x`. -/
def put {n : Nat} {α : Type} (v : Vector α n) (i : Fin n) (x : α) : Vector α n :=
  v.set i.1 x i.2

/-- clamp(x, lo, hi) of 00_scope.md section 4.1 on naturals: `lo` below `lo`, `hi` above `hi`, else `x`. -/
def clampNat (x lo hi : Nat) : Nat :=
  if x < lo then lo else if hi < x then hi else x

/-- clamp(x, lo, hi) of 00_scope.md section 4.1 on integers. -/
def clampInt (x lo hi : Int) : Int :=
  if x < lo then lo else if hi < x then hi else x

end Sys2Proof
end

