-- ==== Sys2Proof/Syntax.lean ====
section
/-! DEFINITION. The syntax of the part: frames, management requests with their arguments, and `Instr`, one
constructor for each row of spec/opcode_table.json. The names of settings, alarm kinds and enumerated values that
requests and state share are declared here too. -/

namespace Sys2Proof

/-- The two chain ports (08, section 8.1). -/
inductive Port where
  | north
  | south
  deriving DecidableEq, Repr

/-- A frame of the station chain without its length byte and frame check, which follow from it (11, Table 11-1).
Bytes 0 and 1 are kept whole, bit 7 included (R180). -/
structure Frame where
  dst     : Byte
  src     : Byte
  kind    : Byte
  payload : List Byte
  deriving DecidableEq, Repr

/-- The station's own judgment of a reading (02, Table 2-3), coded 0 to 3 in this order (11, Table 11-4). -/
inductive Quality where
  | good
  | suspect
  | bad
  | unavailable
  deriving DecidableEq, Repr

/-- One sample item of a SAMPLE frame (02, Table 2-3). -/
structure SampleItem where
  index   : Nat
  quality : Quality
  raw     : Nat
  deriving DecidableEq, Repr

/-- The three programs of a bank (06, R100). -/
inductive ProgKind where
  | strike
  | quench
  | wipe
  deriving DecidableEq, Repr

/-- The settings of a channel, in the order 11 (R183) numbers them: Tables 1-2, 2-6, 4-2, 5-2, 7-3 and 10-3. -/
inductive ChanSetting where
  | dtarget | qmin | qmax | failFlow | failUvt | doseLowPasses | passFallback | pulseVolume
  | uvtHold
  | kp | ki | rampUp | decelHalf | pmin
  | stageUpPasses | stageDownPasses | stageDownLevel | minBanks
  | strikeWindow | retryDelay | longMult | firstSetRetries | runSetRetries | maxSets | dropoutMode | dropoutClear
  | friction | damping | inertia | warmShift | restrikeLevel
  | pulseWidth | pulseGap
  deriving DecidableEq, Repr

/-- The settings of a bank record, but for owner and wiper station: Kvol and Tables 3-2, 5-5 and 6-4. -/
inductive BankSetting where
  | kvol
  | filtShift | refShift | settleTime | haltPct | sagPct | sagHys | sagEnter | sagExit | sagTimeout | sagStage
  | expected | lowPct | warmPct
  | position | minLampsLit | warmLimit | faultRest
  | wipeInterval | wipeLimit
  deriving DecidableEq, Repr

/-- A field of a bank record as WRITE ENTRY names it (11, R183). -/
inductive BankField where
  | setting (x : BankSetting)
  | owner
  | wiperStation
  deriving DecidableEq, Repr

/-- The alarm kinds of Table 10-1, in number order. -/
inductive AlarmKind where
  | restarted | editLapsed | flowStale | uvtStale | outOfRange | doseLow | stageExhausted | foreignCommand
  | bankFault | sag | stepAccepted | outputLow | intensityStale | wiperFault | lampDead
  | transitOverrun | lineErrors | requestDropped
  deriving DecidableEq, Repr

/-- One step of a program as a WRITE ENTRY gives it, untested (06, Table 6-1): delay exponent, lamp set as a list
of slot numbers or absent, and the enumerated bytes wiper start, blank and last. -/
structure RawStep where
  k     : Nat
  set   : Option (List Nat)
  wiper : Byte
  blank : Byte
  last  : Byte
  deriving DecidableEq, Repr

/-- The content of a WRITE ENTRY of a point, untested (02, Table 2-1): station 0 is absent, `role` is the
enumerated byte, `targets` the list of channel or bank numbers named. -/
structure PointContent where
  station : Byte
  index   : Half
  role    : Byte
  targets : List Nat
  gain    : Half
  offset  : Half
  rawMin  : Half
  rawMax  : Half
  timeout : Half
  deriving DecidableEq, Repr

/-- Where a request came from: port of arrival, source byte and requester tag (09, R150, R151). -/
structure Sender where
  port : Port
  src  : Byte
  tag  : Byte
  deriving DecidableEq, Repr

/-- A management request with its arguments (09, Table 9-1; 11, Table 11-8). `badReference` is a request whose
table, setting or record kind names nothing, so that its content cannot be read further; `unknown` one whose kind is
not known or whose length does not suit it (R151, R183). -/
inductive Request where
  | identify
  | readEntry (table index setting : Byte)
  | writeChannelSetting (ch setting : Byte) (value : Half)
  | writeUvtCurvePoint (ch pt : Byte) (u f : Half)
  | writeBallastCurvePoint (ch pt : Byte) (d c : Half)
  | writeBankRecord (bank field : Byte) (value : Half)
  | writeProgram (bank prog : Byte) (steps : List RawStep)
  | writeLampEntry (lamp station bank : Byte) (slot : Half)
  | writePointEntry (point : Byte) (content : PointContent)
  | writeAlarmPriority (kind : Byte) (priority : Half)
  | writeDeviceSetting (setting : Byte) (value : Half)
  | takeEdit (ch : Byte) (lease : Half)
  | giveEdit (ch : Byte)
  | setMode (ch mode : Byte) (value : Half) (count : Byte) (lease : Half)
  | bankAction (bank action : Byte)
  | lampClear (lamp : Byte)
  | readState (kind : Byte) (index : List Byte)
  | readTotals (ch : Byte)
  | clearTotals (ch : Byte)
  | claimAlarm
  | completeAlarm (kind inst : Byte)
  | restart
  | badReference
  | unknown
  deriving DecidableEq, Repr

/-- The commands of the part, one constructor for each row of spec/opcode_table.json, in the table's order.
A frame row carries the frame's bytes or fields, a request row its `Sender` and its arguments, a timer row the object
whose timer it is. -/
inductive Instr where
  | fullReset (straps : BitVec 7)
  | warmRestart (straps : BitVec 7)
  | frameReception (port : Port) (bytes : List Byte)
  | sampleFrame (dst src : Byte) (payload : List Byte)
  | lampStatusFrame (dst src : Byte) (payload : List Byte)
  | lampCmdFrame (dst src : Byte) (payload : List Byte)
  | wiperCmdFrame (dst src : Byte) (payload : List Byte)
  | identify (r : Sender)
  | readEntry (r : Sender) (table index setting : Byte)
  | writeChannelSetting (r : Sender) (ch setting : Byte) (value : Half)
  | writeUvtCurvePoint (r : Sender) (ch pt : Byte) (u f : Half)
  | writeBallastCurvePoint (r : Sender) (ch pt : Byte) (d c : Half)
  | writeBankRecord (r : Sender) (bank field : Byte) (value : Half)
  | writeProgram (r : Sender) (bank prog : Byte) (steps : List RawStep)
  | writeLampEntry (r : Sender) (lamp station bank : Byte) (slot : Half)
  | writePointEntry (r : Sender) (point : Byte) (content : PointContent)
  | writeAlarmPriority (r : Sender) (kind : Byte) (priority : Half)
  | writeDeviceSetting (r : Sender) (setting : Byte) (value : Half)
  | takeEdit (r : Sender) (ch : Byte) (lease : Half)
  | giveEdit (r : Sender) (ch : Byte)
  | setMode (r : Sender) (ch mode : Byte) (value : Half) (count : Byte) (lease : Half)
  | setModeUnarm (r : Sender) (ch : Byte)
  | bankActionLock (r : Sender) (bank : Byte)
  | bankActionUnlock (r : Sender) (bank : Byte)
  | bankActionWipeNow (r : Sender) (bank : Byte)
  | lampClear (r : Sender) (lamp : Byte)
  | readState (r : Sender) (kind : Byte) (index : List Byte)
  | readTotals (r : Sender) (ch : Byte)
  | clearTotals (r : Sender) (ch : Byte)
  | claimAlarm (r : Sender)
  | completeAlarm (r : Sender) (kind inst : Byte)
  | restart (r : Sender)
  | transmissionComplete (port : Port)
  | fallbackTimerExpiry (ch : ChanId)
  | freshnessTimerExpiry (p : PointId)
  | uvtHoldTimerExpiry (ch : ChanId)
  | sagTimerExpiry (b : BankId)
  | settleTimerExpiry (b : BankId)
  | manualLeaseExpiry (ch : ChanId)
  | adoptionWindowExpiry (ch : ChanId)
  | warmLimitExpiry (b : BankId)
  | faultRestExpiry (b : BankId)
  | editLeaseLapse (ch : ChanId)
  | stepTimerExpiry (b : BankId)
  | wipeIntervalExpiry (b : BankId)
  | wipeLimitExpiry (b : BankId)
  | strikeWindowExpiry (l : LampId)
  | waitTimerExpiry (l : LampId)
  | dropoutClearExpiry (l : LampId)
  | coolingStep (l : LampId)
  | pulseWidthExpiry (ch : ChanId)
  | pulseGapExpiry (ch : ChanId)
  deriving DecidableEq, Repr

end Sys2Proof
end

