-- ==== Sys2Proof/Config.lean ====
section
/-! DEFINITION. What the manual fixes as capacities (00, Table 5-1), and the FREE VALUES: constants without a body
for what the manual leaves open, so that nothing can be proved of their values. -/

namespace Sys2Proof

/-- Frames an outgoing queue holds (08, R142). -/
def Config.queueFrames : Nat := 16

/-- Frames of an outgoing queue that the part originated (08, R142). -/
def Config.ownFrames : Nat := 8

/-- Longest payload of a frame (08, R134). -/
def Config.payloadBytes : Nat := 48

/-- FREE VALUE (log 5). How a frame carries the 56 bytes that the scheme of 11 (R183) gives a program's eight steps: a
reply or a request has room for 43 of them, and the manual states no other layout. -/
opaque Config.programCarried : List Byte → List Byte

/-- FREE VALUE (log 5). The bytes of R183's scheme that a program's content in a frame stands for, `none` where its
length does not suit. -/
opaque Config.programUncarried : List Byte → Option (List Byte)

/-- FREE VALUE (log 6). How the IDENTIFY reply encodes the family, Irjas (09, R164). -/
opaque Config.identifyFamily : List Byte

/-- FREE VALUE (log 6). How the IDENTIFY reply encodes the silicon revision, B (09, R164). -/
opaque Config.identifyRevision : List Byte

/-- FREE VALUE (log 6). How the IDENTIFY reply encodes the capacities of Table 5-1 (09, R164). -/
opaque Config.identifyCapacities : List Byte

/-- FREE VALUE (log 7). Whether a timer with the given milliseconds left, no whole number of seconds, is reported with
the next second or with the last whole one: the manual states no rounding. -/
opaque Config.roundsUp : Nat → Bool

/-- The seconds reported for a timer with the given milliseconds left. Only the rounding of a part of a second is free
(log 7). -/
def Config.secondsLeft (ms : Nat) : Nat :=
  ms / 1000 + (if ms % 1000 = 0 then 0 else if Config.roundsUp ms then 1 else 0)

/-- FREE VALUE (log 3). The levels of the seven straps at the n-th warm restart that a completed transmission performs:
they are pins, and the manual gives no levels. -/
opaque Config.strapsRead : Nat → BitVec 7

end Sys2Proof
end

