-- ==== Sys2Proof/WellFormed.lean ====
section
/-! DEFINITION. Which commands are well formed: what a frame or a request can carry (11). Every command has an
effect, well formed or not; these checks say which ones a frame on the line can spell. -/

namespace Sys2Proof

/-- A good frame's payload has at most 48 bytes (08, R134). -/
def payloadOk (p : List Byte) : Bool :=
  p.length ≤ 48

/-- Channel setting codes whose content is one enumerated byte: DecelHalf and DropoutMode (11, R183). -/
def chanSettingIsByte (code : Nat) : Bool :=
  code = 13 ∨ code = 25

/-- Bank record field codes whose content is one byte: SagStage, Owner and Wiper station (11, R183). -/
def bankFieldIsByte (code : Nat) : Bool :=
  code = 11 ∨ code = 15 ∨ code = 20

/-- A value that fits the one or two bytes of its content. -/
def valueFits (isByte : Bool) (v : Half) : Bool :=
  !isByte || v.toNat < 256

/-- A step with numbers that a frame could carry (06, Table 6-1). -/
def rawStepOk (t : RawStep) : Bool :=
  t.k < 65536 && (t.set.getD []).all (· < 8)

/-- Eight steps, each with numbers that a frame could carry (06, R100). -/
def stepsOk (steps : List RawStep) : Bool :=
  steps.length = 8 && steps.all rawStepOk

/-- Targets as one byte carries them: a mask of channels for role UVT (1), one number for the other roles
(log 8). -/
def targetsOk (c : PointContent) : Bool :=
  if c.role = 1 then c.targets.Pairwise (· < ·) && c.targets.all (· < 8)
  else c.targets.length = 1 && c.targets.all (· < 256)

/-- The argument lengths of READ STATE: two index bytes for the alarm record (9), none for the alarm summary (10), one
for every other kind byte, whether it names a record or not (11, Table 11-8). -/
def readStateOk (kind : Byte) (index : List Byte) : Bool :=
  if kind = 9 then index.length = 2 else if kind = 10 then index.length = 0 else index.length = 1

/-- The commands that the line can spell. -/
def Instr.wf : Instr → Bool
  | .sampleFrame _ _ p => payloadOk p
  | .lampStatusFrame _ _ p => payloadOk p
  | .lampCmdFrame _ _ p => payloadOk p
  | .wiperCmdFrame _ _ p => payloadOk p
  | .writeChannelSetting _ _ setting v => valueFits (chanSettingIsByte setting.toNat) v
  | .writeBankRecord _ _ field v => valueFits (bankFieldIsByte field.toNat) v
  | .writeProgram _ _ _ steps => stepsOk steps
  | .writePointEntry _ _ c => targetsOk c
  | .setMode _ _ mode _ _ _ => mode ≠ 6
  | .readState _ kind index => readStateOk kind index
  | .fullReset _ => true
  | .warmRestart _ => true
  | .frameReception _ _ => true
  | .identify _ => true
  | .readEntry _ _ _ _ => true
  | .writeUvtCurvePoint _ _ _ _ _ => true
  | .writeBallastCurvePoint _ _ _ _ _ => true
  | .writeLampEntry _ _ _ _ _ => true
  | .writeAlarmPriority _ _ _ => true
  | .writeDeviceSetting _ _ _ => true
  | .takeEdit _ _ _ => true
  | .giveEdit _ _ => true
  | .setModeUnarm _ _ => true
  | .bankActionLock _ _ => true
  | .bankActionUnlock _ _ => true
  | .bankActionWipeNow _ _ => true
  | .lampClear _ _ => true
  | .readTotals _ _ => true
  | .clearTotals _ _ => true
  | .claimAlarm _ => true
  | .completeAlarm _ _ _ => true
  | .restart _ => true
  | .transmissionComplete _ => true
  | .fallbackTimerExpiry _ => true
  | .freshnessTimerExpiry _ => true
  | .uvtHoldTimerExpiry _ => true
  | .sagTimerExpiry _ => true
  | .settleTimerExpiry _ => true
  | .manualLeaseExpiry _ => true
  | .adoptionWindowExpiry _ => true
  | .warmLimitExpiry _ => true
  | .faultRestExpiry _ => true
  | .editLeaseLapse _ => true
  | .stepTimerExpiry _ => true
  | .wipeIntervalExpiry _ => true
  | .wipeLimitExpiry _ => true
  | .strikeWindowExpiry _ => true
  | .waitTimerExpiry _ => true
  | .dropoutClearExpiry _ => true
  | .coolingStep _ => true
  | .pulseWidthExpiry _ => true
  | .pulseGapExpiry _ => true

end Sys2Proof
end

