-- ==== Sys2Proof/Decode.lean ====
section
/-! DEFINITION. The byte layouts of 11_frame_formats_and_terminals.md: the frame check, frames, SAMPLE payloads and
requests, read from bytes and written to bytes. The rows of spec/opcode_table.json have no bits of their own, so
`decodeTableWord` answers none. -/

namespace Sys2Proof

/-! ### Bytes of numbers (R180) -/

/-- The two bytes of a number, high byte first (11, R180). -/
def bytes2 (n : Nat) : List Byte :=
  [BitVec.ofNat 8 (n / 256), BitVec.ofNat 8 n]

/-- The four bytes of a number, high byte first (11, R180). -/
def bytes4 (n : Nat) : List Byte :=
  [BitVec.ofNat 8 (n / 16777216), BitVec.ofNat 8 (n / 65536), BitVec.ofNat 8 (n / 256), BitVec.ofNat 8 n]

/-- The two-byte number whose high byte is `hi` and low byte `lo`. -/
def half (hi lo : Byte) : Half :=
  hi ++ lo

/-! ### The frame check (R181) -/

/-- One bit into the check register: shift left, and exclusive-or 0x1021 when top bit and data bit differ. -/
def crcBit (r : BitVec 16) (d : Bool) : BitVec 16 :=
  if r.msb ^^ d then (r <<< 1) ^^^ 0x1021#16 else r <<< 1

/-- One byte into the check register, from its most significant bit down. -/
def crcByte (r : BitVec 16) (b : Byte) : BitVec 16 :=
  [7, 6, 5, 4, 3, 2, 1, 0].foldl (fun r i => crcBit r (b.getLsbD i)) r

/-- The frame check over a list of bytes: the register starts at all ones and is not inverted at the end. -/
def frameCheck (l : List Byte) : BitVec 16 :=
  l.foldl crcByte 0xFFFF#16

/-- The check as it is sent, high byte first. -/
def checkBytes (l : List Byte) : List Byte :=
  bytes2 (frameCheck l).toNat

/-! ### Frames (Table 11-1) -/

/-- The bytes a frame check covers: destination, source, kind, payload length, payload. -/
def Frame.body (f : Frame) : List Byte :=
  f.dst :: f.src :: f.kind :: BitVec.ofNat 8 f.payload.length :: f.payload

/-- A frame as it goes over the line. -/
def Frame.toBytes (f : Frame) : List Byte :=
  f.body ++ checkBytes f.body

/-- The length tests and the check of R134 and R180: `none` for a faulty frame. -/
def Frame.ofBytes (bytes : List Byte) : Option Frame :=
  match bytes with
  | dst :: src :: kind :: n :: rest =>
    if n.toNat ≤ Config.payloadBytes ∧ rest.length = n.toNat + 2 then
      let f : Frame := ⟨dst, src, kind, rest.take n.toNat⟩
      if rest.drop n.toNat = checkBytes f.body then some f else none
    else none
  | _ => none

/-- The station in bits 0 to 6 of an address byte (R180). -/
def stationOf (b : Byte) : Nat :=
  b.toNat % 128

/-- Frame kind codes (Table 11-2). -/
def kindSample : Byte := 0x01
def kindLampStatus : Byte := 0x02
def kindLampCmd : Byte := 0x03
def kindWiperCmd : Byte := 0x04
def kindRequest : Byte := 0x10
def kindReply : Byte := 0x11
def kindAlert : Byte := 0x12

/-! ### SAMPLE payloads (Tables 11-3 and 11-4) -/

/-- The quality of bits 4 to 5 of an item's first byte. -/
def qualityOfCode (n : Nat) : Quality :=
  match n with
  | 0 => .good
  | 1 => .suspect
  | 2 => .bad
  | _ => .unavailable

def Quality.code : Quality → Nat
  | .good => 0
  | .suspect => 1
  | .bad => 2
  | .unavailable => 3

/-- The first `s` sample items of the bytes that follow a SAMPLE head. -/
def itemsOf : Nat → List Byte → List SampleItem
  | s + 1, b0 :: hi :: lo :: rest =>
    ⟨b0.toNat % 16, qualityOfCode (b0.toNat / 16 % 4), (half hi lo).toNat⟩ :: itemsOf s rest
  | _, _ => []

/-- The sample items of a well-formed SAMPLE payload (R182): 1 to 8 items, and a length that agrees with the item
counts of the head. `none` for a payload that is not well formed. -/
def sampleItems (payload : List Byte) : Option (List SampleItem) :=
  match payload with
  | head :: rest =>
    let s := head.toNat % 16
    let a := head.toNat / 16
    if 1 ≤ s ∧ s ≤ 8 ∧ payload.length = 1 + 3 * s + 6 * a then some (itemsOf s rest) else none
  | [] => none

/-- A sample item's three bytes. -/
def SampleItem.toBytes (i : SampleItem) : List Byte :=
  BitVec.ofNat 8 (i.index % 16 + 16 * i.quality.code) :: bytes2 i.raw

/-- A SAMPLE payload of the given items with no annotation. -/
def samplePayload (items : List SampleItem) : List Byte :=
  BitVec.ofNat 8 items.length :: items.flatMap SampleItem.toBytes

/-! ### Settings and fields by number (R183) -/

/-- The channel setting of a setting byte, numbered from 1. -/
def chanSettingOfCode (n : Nat) : Option ChanSetting :=
  match n with
  | 1 => some .dtarget | 2 => some .qmin | 3 => some .qmax | 4 => some .failFlow | 5 => some .failUvt
  | 6 => some .doseLowPasses | 7 => some .passFallback | 8 => some .pulseVolume
  | 9 => some .uvtHold
  | 10 => some .kp | 11 => some .ki | 12 => some .rampUp | 13 => some .decelHalf | 14 => some .pmin
  | 15 => some .stageUpPasses | 16 => some .stageDownPasses | 17 => some .stageDownLevel | 18 => some .minBanks
  | 19 => some .strikeWindow | 20 => some .retryDelay | 21 => some .longMult | 22 => some .firstSetRetries
  | 23 => some .runSetRetries | 24 => some .maxSets | 25 => some .dropoutMode | 26 => some .dropoutClear
  | 27 => some .friction | 28 => some .damping | 29 => some .inertia | 30 => some .warmShift
  | 31 => some .restrikeLevel
  | 32 => some .pulseWidth | 33 => some .pulseGap
  | _ => none

/-- The bank record field of a setting byte, numbered from 1: Kvol, then Tables 3-2, 5-5 and 6-4. -/
def bankFieldOfCode (n : Nat) : Option BankField :=
  match n with
  | 1 => some (.setting .kvol)
  | 2 => some (.setting .filtShift) | 3 => some (.setting .refShift) | 4 => some (.setting .settleTime)
  | 5 => some (.setting .haltPct) | 6 => some (.setting .sagPct) | 7 => some (.setting .sagHys)
  | 8 => some (.setting .sagEnter) | 9 => some (.setting .sagExit) | 10 => some (.setting .sagTimeout)
  | 11 => some (.setting .sagStage) | 12 => some (.setting .expected) | 13 => some (.setting .lowPct)
  | 14 => some (.setting .warmPct)
  | 15 => some .owner | 16 => some (.setting .position) | 17 => some (.setting .minLampsLit)
  | 18 => some (.setting .warmLimit) | 19 => some (.setting .faultRest)
  | 20 => some .wiperStation | 21 => some (.setting .wipeInterval) | 22 => some (.setting .wipeLimit)
  | _ => none

/-- The alarm kind of a kind number 1 to 18 (Table 10-1). -/
def alarmKindOfCode (n : Nat) : Option AlarmKind :=
  match n with
  | 1 => some .restarted | 2 => some .editLapsed | 3 => some .flowStale | 4 => some .uvtStale
  | 5 => some .outOfRange | 6 => some .doseLow | 7 => some .stageExhausted | 8 => some .foreignCommand
  | 9 => some .bankFault | 10 => some .sag | 11 => some .stepAccepted | 12 => some .outputLow
  | 13 => some .intensityStale | 14 => some .wiperFault | 15 => some .lampDead
  | 16 => some .transitOverrun | 17 => some .lineErrors | 18 => some .requestDropped
  | _ => none

/-- The number of an alarm kind (Table 10-1). -/
def AlarmKind.number : AlarmKind → Nat
  | .restarted => 1 | .editLapsed => 2 | .flowStale => 3 | .uvtStale => 4 | .outOfRange => 5 | .doseLow => 6
  | .stageExhausted => 7 | .foreignCommand => 8 | .bankFault => 9 | .sag => 10 | .stepAccepted => 11
  | .outputLow => 12 | .intensityStale => 13 | .wiperFault => 14 | .lampDead => 15 | .transitOverrun => 16
  | .lineErrors => 17 | .requestDropped => 18

/-- The program of a program number (R183). -/
def progOfCode (n : Nat) : Option ProgKind :=
  match n with
  | 0 => some .strike
  | 1 => some .quench
  | 2 => some .wipe
  | _ => none

/-! ### Requests (Tables 11-7 and 11-8) -/

/-- The value of a content of one byte (`isByte`) or two. `none` for any other length. -/
def contentValue (isByte : Bool) (content : List Byte) : Option Half :=
  match isByte, content with
  | true, [b] => some (half 0 b)
  | false, [hi, lo] => some (half hi lo)
  | _, _ => none

/-- The slots or channels named by a mask, ascending. -/
def maskMembers (m : Byte) : List Nat :=
  (List.range 8).filter fun i => m.getLsbD i

/-- The mask that names the members of a list. -/
def maskOf (l : List Nat) : Byte :=
  (List.range 8).foldl (fun m i => if l.contains i then m ||| BitVec.twoPow 8 i else m) 0

/-- A point entry's fifteen content bytes (Table 2-1 in order; log 8). -/
def pointContentOf (content : List Byte) : Option PointContent :=
  match content with
  | [st, i1, i0, role, tgt, g1, g0, o1, o0, m1, m0, x1, x0, t1, t0] =>
    some { station := st, index := half i1 i0, role := role,
           targets := if role = 1 then maskMembers tgt else [tgt.toNat],
           gain := half g1 g0, offset := half o1 o0, rawMin := half m1 m0, rawMax := half x1 x0,
           timeout := half t1 t0 }
  | _ => none

def halfBytes (h : Half) : List Byte :=
  bytes2 h.toNat

/-- A program step's seven bytes by the scheme of R183, in the order of 06, Table 6-1. -/
def RawStep.toBytes (t : RawStep) : List Byte :=
  bytes2 t.k ++ (match t.set with
    | some l => [1, maskOf l]
    | none => [0, 0]) ++ [t.wiper, t.blank, t.last]

/-- The steps that bytes of R183's scheme give, seven bytes each. `none` for a presence byte that names no value. -/
def rawStepsOf : List Byte → Option (List RawStep)
  | k1 :: k0 :: present :: mask :: wiper :: blank :: last :: rest =>
    if present.toNat ≤ 1 then
      (rawStepsOf rest).map fun l =>
        { k := (half k1 k0).toNat, set := if present = 1 then some (maskMembers mask) else none, wiper := wiper,
          blank := blank, last := last } :: l
    else none
  | _ => some []

/-- A program's content in a frame: how the 56 bytes of the scheme are carried is a free value, of at most the 43 bytes
that a reply or a request has room for (08, R134; 11, R183; log 5). -/
def programBytes (steps : List RawStep) : List Byte :=
  (Config.programCarried (steps.flatMap RawStep.toBytes)).take 43

/-- WRITE ENTRY of a program, its content carried as `Config.programUncarried` says (log 5). -/
def programRequestOf (bank prog : Byte) (content : List Byte) : Request :=
  match Config.programUncarried content with
  | none => .unknown
  | some scheme =>
    if scheme.length = 56 then
      match rawStepsOf scheme with
      | some steps => .writeProgram bank prog steps
      | none => .badReference
    else .unknown

/-- The content bytes of a point entry. -/
def PointContent.toBytes (c : PointContent) : List Byte :=
  [c.station] ++ halfBytes c.index ++ [c.role]
    ++ [if c.role = 1 then maskOf c.targets else BitVec.ofNat 8 (c.targets.headD 0)]
    ++ halfBytes c.gain ++ halfBytes c.offset ++ halfBytes c.rawMin ++ halfBytes c.rawMax ++ halfBytes c.timeout

/-- WRITE ENTRY: table, index and setting bytes, then the content of that table and setting. A content of another
length is `unknown` (R183). What gives the length where the setting byte names nothing is the model's choice (log 11):
in tables 1 and 4 the setting gives it, so that a setting that does not exist is a bad reference whatever the content,
and in tables 2, 3 and 5 to 9 the table gives it alone, so that the content is measured first, whatever the setting
byte. A table that does not exist gives no length and is a bad reference. The alert destination, a station that cannot
be absent, is a numeric field of two bytes (log 8). -/
def writeRequestOf (table index setting : Byte) (content : List Byte) : Request :=
  match table.toNat with
  | 1 =>
    match chanSettingOfCode setting.toNat with
    | none => .badReference
    | some _ =>
      match contentValue (chanSettingIsByte setting.toNat) content with
      | some v => .writeChannelSetting index setting v
      | none => .unknown
  | 2 =>
    match content with
    | [a1, a0, b1, b0] => .writeUvtCurvePoint index setting (half a1 a0) (half b1 b0)
    | _ => .unknown
  | 3 =>
    match content with
    | [a1, a0, b1, b0] => .writeBallastCurvePoint index setting (half a1 a0) (half b1 b0)
    | _ => .unknown
  | 4 =>
    match bankFieldOfCode setting.toNat with
    | none => .badReference
    | some _ =>
      match contentValue (bankFieldIsByte setting.toNat) content with
      | some v => .writeBankRecord index setting v
      | none => .unknown
  | 5 => programRequestOf index setting content
  | 6 =>
    match content with
    | [st, bank, s1, s0] => if setting = 0 then .writeLampEntry index st bank (half s1 s0) else .badReference
    | _ => .unknown
  | 7 =>
    match pointContentOf content with
    | some c => if setting = 0 then .writePointEntry index c else .badReference
    | none => .unknown
  | 8 =>
    match contentValue false content with
    | some v => if setting = 0 then .writeAlarmPriority index v else .badReference
    | none => .unknown
  | 9 =>
    match contentValue false content with
    | some v => if index = 0 then .writeDeviceSetting setting v else .badReference
    | none => .unknown
  | _ => .badReference

/-- READ STATE: two index bytes for the alarm record, none for the alarm summary, one for every other kind byte (Table
11-8). -/
def readStateRequestOf (args : List Byte) : Request :=
  match args with
  | kind :: index => if readStateOk kind index then .readState kind index else .unknown
  | [] => .unknown

/-- The request of a kind byte and its arguments (Table 11-8). -/
def requestOf (kind : Byte) (args : List Byte) : Request :=
  match kind.toNat, args with
  | 0x01, [] => .identify
  | 0x02, [t, i, s] => .readEntry t i s
  | 0x03, t :: i :: s :: content => writeRequestOf t i s content
  | 0x04, [ch, l1, l0] => .takeEdit ch (half l1 l0)
  | 0x05, [ch] => .giveEdit ch
  | 0x06, [ch, mode, v1, v0, count, l1, l0] => .setMode ch mode (half v1 v0) count (half l1 l0)
  | 0x07, [bank, action] => .bankAction bank action
  | 0x08, [lamp] => .lampClear lamp
  | 0x09, args => readStateRequestOf args
  | 0x0A, [ch] => .readTotals ch
  | 0x0B, [ch] => .clearTotals ch
  | 0x0C, [] => .claimAlarm
  | 0x0D, [kind, inst] => .completeAlarm kind inst
  | 0x0E, [] => .restart
  | _, _ => .unknown

/-- The content bytes of a value: one byte or two. -/
def valueBytes (isByte : Bool) (v : Half) : List Byte :=
  if isByte then [BitVec.ofNat 8 v.toNat] else halfBytes v

/-- The kind byte of a request that a row of the table names. -/
def Request.kindByte : Request → Byte
  | .identify => 0x01
  | .readEntry _ _ _ => 0x02
  | .writeChannelSetting _ _ _ => 0x03
  | .writeUvtCurvePoint _ _ _ _ => 0x03
  | .writeBallastCurvePoint _ _ _ _ => 0x03
  | .writeBankRecord _ _ _ => 0x03
  | .writeProgram _ _ _ => 0x03
  | .writeLampEntry _ _ _ _ => 0x03
  | .writePointEntry _ _ => 0x03
  | .writeAlarmPriority _ _ => 0x03
  | .writeDeviceSetting _ _ => 0x03
  | .takeEdit _ _ => 0x04
  | .giveEdit _ => 0x05
  | .setMode _ _ _ _ _ => 0x06
  | .bankAction _ _ => 0x07
  | .lampClear _ => 0x08
  | .readState _ _ => 0x09
  | .readTotals _ => 0x0A
  | .clearTotals _ => 0x0B
  | .claimAlarm => 0x0C
  | .completeAlarm _ _ => 0x0D
  | .restart => 0x0E
  | .badReference => 0x03
  | .unknown => 0x00

/-- The argument bytes of a request that a row of the table names. -/
def Request.args : Request → List Byte
  | .identify => []
  | .readEntry t i s => [t, i, s]
  | .writeChannelSetting ch setting v => [1, ch, setting] ++ valueBytes (chanSettingIsByte setting.toNat) v
  | .writeUvtCurvePoint ch pt u f => [2, ch, pt] ++ halfBytes u ++ halfBytes f
  | .writeBallastCurvePoint ch pt d c => [3, ch, pt] ++ halfBytes d ++ halfBytes c
  | .writeBankRecord bank field v => [4, bank, field] ++ valueBytes (bankFieldIsByte field.toNat) v
  | .writeProgram bank prog steps => [5, bank, prog] ++ programBytes steps
  | .writeLampEntry lamp st bank slot => [6, lamp, 0, st, bank] ++ halfBytes slot
  | .writePointEntry p c => [7, p, 0] ++ c.toBytes
  | .writeAlarmPriority kind v => [8, kind, 0] ++ halfBytes v
  | .writeDeviceSetting setting v => [9, 0, setting] ++ halfBytes v
  | .takeEdit ch lease => [ch] ++ halfBytes lease
  | .giveEdit ch => [ch]
  | .setMode ch mode v count lease => [ch, mode] ++ halfBytes v ++ [count] ++ halfBytes lease
  | .bankAction bank action => [bank, action]
  | .lampClear lamp => [lamp]
  | .readState kind index => kind :: index
  | .readTotals ch => [ch]
  | .clearTotals ch => [ch]
  | .claimAlarm => []
  | .completeAlarm kind inst => [kind, inst]
  | .restart => []
  | .badReference => []
  | .unknown => []

/-- The REQUEST frame that carries a request to the station `address`. -/
def requestFrame (address : Nat) (r : Sender) (req : Request) : Frame :=
  ⟨BitVec.ofNat 8 address, r.src, kindRequest, r.tag :: req.kindByte :: req.args⟩

/-- The rows of spec/opcode_table.json give no bits, so no word spells a command. -/
def decodeTableWord (_nbits _w : Nat) : Option Instr :=
  none

end Sys2Proof
end

