-- ==== Sys2Proof/Machine/Types.lean ====
section
/-! DEFINITION. The types of the state's components, chapter by chapter of spec/. Plain data. -/

namespace Sys2Proof.Machine

/-! ### Channels -/

/-- Channel modes (05, Table 5-1). -/
inductive Mode where
  | unarmed | auto | manual | full | standdown | edit
  deriving DecidableEq, Repr

/-- The UVT in use of a channel (02, R34). `held u` keeps the value the point had when it went STALE. -/
inductive UvtUse where
  | fresh
  | held (u : Nat)
  | failsafe
  deriving DecidableEq, Repr

/-- Phase of an off-spec pulse line (10, R179). The line is high exactly in `high`. -/
inductive PulsePhase where
  | idle | high | gap
  deriving DecidableEq, Repr

/-- A point of a curve: (u, F) of a transmittance curve or (d, c) of a ballast curve. -/
structure CurvePoint where
  x : Nat
  y : Nat
  deriving DecidableEq, Repr

/-- Dose accounting of one channel (01, Table 1-1). -/
structure Accounting where
  lastDose   : Nat
  bankDoses  : Vector Nat 4
  lastPass   : Option Nat
  outOfRange : Bool
  offSpec    : Bool
  doseLow    : Nat
  totalL     : Nat
  totalMl    : Nat
  offL       : Nat
  offMl      : Nat
  pulseRem   : Nat
  backlog    : Nat
  fallback   : Timer
  deriving DecidableEq, Repr

/-- Power stage of one channel (04, Table 4-1). -/
structure Power where
  pd      : Nat
  ePrev   : Int
  applied : Nat
  code    : Nat
  deriving DecidableEq, Repr

/-- One channel: its profile settings and curves, dose accounting, UVT in use, power stage, channel controller
(05, Table 5-1), edit lock (09, Table 9-4) and pulse line (10, R179). -/
structure Channel where
  settings     : Vector Nat 33
  uvtCurve     : Vector CurvePoint 8
  ballastCurve : Vector CurvePoint 8
  acct         : Accounting
  uvtUse       : UvtUse
  uvtHold      : Timer
  power        : Power
  mode         : Mode
  prevMode     : Mode
  manualValue  : Nat
  manualCount  : Nat
  manualLease  : Timer
  startList    : List BankId
  upCount      : Nat
  downCount    : Nat
  pendingUp    : Nat
  adoption     : Timer
  profileValid : Bool
  holder       : Option Nat
  editLease    : Timer
  pulsePhase   : PulsePhase
  pulseTimer   : Timer
  deriving DecidableEq, Repr

/-! ### Banks -/

/-- Bank states (05, Table 5-6). -/
inductive BankState where
  | dark | striking | warming | run | quenching | faulted | locked
  deriving DecidableEq, Repr

/-- Sag states (03, Table 3-1). -/
inductive SagState where
  | clear
  | entering (n : Nat)
  | active
  | leaving (n : Nat)
  deriving DecidableEq, Repr

/-- What a program step does to the blank flag (06, Table 6-1). -/
inductive BlankOp where
  | set | clear | keep
  deriving DecidableEq, Repr

/-- One step of a stored program (06, Table 6-1). The lamp set is a mask: bit n for slot n. -/
structure Step where
  k     : Nat
  set   : Option Byte
  wiper : Bool
  blank : BlankOp
  last  : Bool
  deriving DecidableEq, Repr

/-- Wiper positions (02, R31). -/
inductive WiperPos where
  | parked | moving | jammed
  deriving DecidableEq, Repr

/-- Wipe supervision states (06, R112). -/
inductive Supervision where
  | idle | started | moving
  deriving DecidableEq, Repr

/-- How the wiper's last supervised run ended (06, Table 6-3). -/
inductive WipeResult where
  | none | ok | fault
  deriving DecidableEq, Repr

/-- Intensity tracker of one bank (03, Table 3-1), but for OUTPUT_LOW, whose one home is the alarm unit's
cause-holds flag. `warm` is the warm check: true for PASS. -/
structure Tracker where
  sf          : Option Nat
  sn          : Option Nat
  sref        : Option Nat
  reseed      : Bool
  sag         : SagState
  sagTimer    : Timer
  settleTimer : Timer
  blank       : Bool
  warm        : Bool
  deriving DecidableEq, Repr

/-- One bank: its record and programs, bank controller (05), program runner and wiper (06, Table 6-3) and tracker. -/
structure Bank where
  settings     : Vector Nat 20
  owner        : Option ChanId
  wiperStation : Option Nat
  strike       : Vector Step 8
  quench       : Vector Step 8
  wipe         : Vector Step 8
  state        : BankState
  tracker      : Tracker
  running      : Option ProgKind
  stepIdx      : Fin 8
  stepTimer    : Timer
  wipeInterval : Timer
  wipeDue      : Bool
  wiperSlot    : Option Nat
  supervision  : Supervision
  wipeLimit    : Timer
  lastWipe     : WipeResult
  warmTimer    : Timer
  faultTimer   : Timer
  deriving DecidableEq, Repr

/-! ### Lamps -/

/-- Lamp states (07, Table 7-2). -/
inductive LampState where
  | off | striking | lit | retryWait | longWait | dead
  deriving DecidableEq, Repr

/-- A lamp command (07, R131; 11, Table 11-6). -/
inductive LampCmd where
  | strike (code : Nat)
  | set (code : Nat)
  | quench
  deriving DecidableEq, Repr

/-- A lamp status (11, Table 11-6). -/
inductive LampStatus where
  | lit | dark | strikeFail | dropout | overtemp
  deriving DecidableEq, Repr

/-- A lamp entry in place with its machine (07, Tables 7-1 and 7-2). `adopted` is the model's own: the lamp last became
LIT by an adoption and not by a strike, which R85 tells apart (log 17). -/
structure Lamp where
  station     : Nat
  bank        : BankId
  slot        : Nat
  state       : LampState
  wanted      : Bool
  unconfirmed : Bool
  adopted     : Bool
  cool        : Nat
  attempts    : Nat
  sets        : Nat
  dropouts    : Nat
  strikeTimer : Timer
  waitTimer   : Timer
  clearTimer  : Timer
  coolTimer   : Timer
  cmd         : Option LampCmd
  deriving DecidableEq, Repr

/-! ### Points -/

/-- Role and targets of a point entry (02, Table 2-1). The channels of a UVT entry ascend without repeats. -/
inductive Targets where
  | flow (ch : ChanId)
  | uvt (chs : List ChanId)
  | intensity (b : BankId)
  | wiper (b : BankId)
  deriving DecidableEq, Repr

/-- The value of a point: a number, or a decoded wiper position (02, Table 2-2). -/
inductive PointValue where
  | num (n : Nat)
  | pos (w : WiperPos)
  deriving DecidableEq, Repr

/-- The fields of a point entry in place (02, Table 2-1). -/
structure PointCfg where
  station : Nat
  index   : Nat
  targets : Targets
  gain    : Nat
  offset  : Int
  rawMin  : Nat
  rawMax  : Nat
  timeout : Nat
  deriving DecidableEq, Repr

/-- A point entry in place with its state (02, Table 2-2). -/
structure Point where
  cfg      : PointCfg
  value    : Option PointValue
  fresh    : Bool
  timer    : Timer
  quality  : Option Quality
  accepted : Option Nat
  deriving DecidableEq, Repr

/-! ### Chain and alarms -/

/-- A frame in an outgoing queue: whether the part originated it, and whether it is the reply of the RESTART request
(08, R142; 09, R166). -/
structure QFrame where
  frame   : Frame
  own     : Bool
  restart : Bool
  deriving DecidableEq, Repr

/-- One port: outgoing queue, line error count and ErrorLimit (08, Tables 8-1 and 8-2). -/
structure PortState where
  queue      : List QFrame
  errors     : Nat
  errorLimit : Nat
  deriving DecidableEq, Repr

/-- The reply slot's content: the reply, the port it is for, and whether it answers RESTART (08, R147). -/
structure WaitingReply where
  port    : Port
  frame   : Frame
  restart : Bool
  deriving DecidableEq, Repr

/-- States of an alarm instance (10, R168). -/
inductive AlarmState where
  | idle | pending | inService | inServiceRecurred
  deriving DecidableEq, Repr

/-- One alarm instance: its state and, for a condition kind, its cause-holds flag (10, R168). -/
structure Alarm where
  state : AlarmState
  cause : Bool
  deriving DecidableEq, Repr

/-- An entry into PENDING above the threshold whose ALERT frame the event in progress has yet to make (10, R175). -/
structure AlertNote where
  kind     : AlarmKind
  inst     : Nat
  priority : Nat
  deriving DecidableEq, Repr

end Sys2Proof.Machine
end

