-- ==== Sys2Proof/Machine/Defaults.lean ====
section
/-! DEFINITION. The numbering, ranges and full reset values of the settings (01 Table 1-2, 02 Table 2-6, 03 Table
3-2, 04 Table 4-2, 05 Tables 5-2 and 5-5, 06 Table 6-4, 07 Table 7-3, 10 Table 10-3), the default curves and
programs, the alarm kinds' scopes and default priorities (10, Table 10-1), and the full reset state of each block. -/

namespace Sys2Proof.Machine

/-- A setting's range and full reset value. -/
structure Range where
  lo    : Nat
  hi    : Nat
  reset : Nat
  deriving DecidableEq, Repr

end Sys2Proof.Machine

namespace Sys2Proof
open Sys2Proof.Machine

/-- The place of a channel setting in `Channel.settings`: its number less 1. -/
def ChanSetting.idx : ChanSetting → Fin 33
  | .dtarget => 0 | .qmin => 1 | .qmax => 2 | .failFlow => 3 | .failUvt => 4 | .doseLowPasses => 5
  | .passFallback => 6 | .pulseVolume => 7 | .uvtHold => 8
  | .kp => 9 | .ki => 10 | .rampUp => 11 | .decelHalf => 12 | .pmin => 13
  | .stageUpPasses => 14 | .stageDownPasses => 15 | .stageDownLevel => 16 | .minBanks => 17
  | .strikeWindow => 18 | .retryDelay => 19 | .longMult => 20 | .firstSetRetries => 21 | .runSetRetries => 22
  | .maxSets => 23 | .dropoutMode => 24 | .dropoutClear => 25 | .friction => 26 | .damping => 27 | .inertia => 28
  | .warmShift => 29 | .restrikeLevel => 30 | .pulseWidth => 31 | .pulseGap => 32

/-- Range and full reset value of a channel setting. DecelHalf is coded on 0, off 1, and DropoutMode ENDLESS 0,
LIMITED 1, as 11 (R183) numbers them. -/
def ChanSetting.range : ChanSetting → Range
  | .dtarget => ⟨10, 2000, 300⟩
  | .qmin => ⟨1, 30000, 10⟩
  | .qmax => ⟨1, 30000, 30000⟩
  | .failFlow => ⟨1, 30000, 30000⟩
  | .failUvt => ⟨0, 1000, 0⟩
  | .doseLowPasses => ⟨1, 255, 5⟩
  | .passFallback => ⟨200, 5000, 1000⟩
  | .pulseVolume => ⟨1, 65535, 1000⟩
  | .uvtHold => ⟨0, 3600, 300⟩
  | .kp => ⟨0, 255, 64⟩
  | .ki => ⟨0, 255, 16⟩
  | .rampUp => ⟨1, 200, 40⟩
  | .decelHalf => ⟨0, 1, 0⟩
  | .pmin => ⟨100, 1000, 300⟩
  | .stageUpPasses => ⟨1, 255, 10⟩
  | .stageDownPasses => ⟨1, 255, 30⟩
  | .stageDownLevel => ⟨100, 1000, 500⟩
  | .minBanks => ⟨0, 4, 1⟩
  | .strikeWindow => ⟨1, 60, 10⟩
  | .retryDelay => ⟨1, 600, 30⟩
  | .longMult => ⟨2, 32, 8⟩
  | .firstSetRetries => ⟨1, 4, 3⟩
  | .runSetRetries => ⟨1, 4, 2⟩
  | .maxSets => ⟨1, 15, 4⟩
  | .dropoutMode => ⟨0, 1, 1⟩
  | .dropoutClear => ⟨60, 3600, 600⟩
  | .friction => ⟨0, 1000, 40⟩
  | .damping => ⟨0, 1023, 400⟩
  | .inertia => ⟨1, 1000, 200⟩
  | .warmShift => ⟨1, 8, 4⟩
  | .restrikeLevel => ⟨0, 1000, 300⟩
  | .pulseWidth => ⟨20, 1000, 100⟩
  | .pulseGap => ⟨20, 1000, 100⟩

/-- Every channel setting, in number order. -/
def ChanSetting.all : List ChanSetting :=
  [.dtarget, .qmin, .qmax, .failFlow, .failUvt, .doseLowPasses, .passFallback, .pulseVolume, .uvtHold,
   .kp, .ki, .rampUp, .decelHalf, .pmin, .stageUpPasses, .stageDownPasses, .stageDownLevel, .minBanks,
   .strikeWindow, .retryDelay, .longMult, .firstSetRetries, .runSetRetries, .maxSets, .dropoutMode, .dropoutClear,
   .friction, .damping, .inertia, .warmShift, .restrikeLevel, .pulseWidth, .pulseGap]

/-- The place of a bank setting in `Bank.settings`. -/
def BankSetting.idx : BankSetting → Fin 20
  | .kvol => 0 | .filtShift => 1 | .refShift => 2 | .settleTime => 3 | .haltPct => 4 | .sagPct => 5
  | .sagHys => 6 | .sagEnter => 7 | .sagExit => 8 | .sagTimeout => 9 | .sagStage => 10 | .expected => 11
  | .lowPct => 12 | .warmPct => 13 | .position => 14 | .minLampsLit => 15 | .warmLimit => 16 | .faultRest => 17
  | .wipeInterval => 18 | .wipeLimit => 19

/-- Range and full reset value of a bank setting. SagStage is coded on 0, off 1. -/
def BankSetting.range : BankSetting → Range
  | .kvol => ⟨1, 4000, 400⟩
  | .filtShift => ⟨0, 6, 2⟩
  | .refShift => ⟨4, 12, 8⟩
  | .settleTime => ⟨0, 60000, 3000⟩
  | .haltPct => ⟨0, 255, 16⟩
  | .sagPct => ⟨1, 255, 32⟩
  | .sagHys => ⟨0, 255, 64⟩
  | .sagEnter => ⟨1, 15, 3⟩
  | .sagExit => ⟨1, 15, 3⟩
  | .sagTimeout => ⟨0, 3600, 900⟩
  | .sagStage => ⟨0, 1, 0⟩
  | .expected => ⟨1, 65535, 20000⟩
  | .lowPct => ⟨1, 255, 154⟩
  | .warmPct => ⟨1, 255, 179⟩
  | .position => ⟨0, 3, 0⟩
  | .minLampsLit => ⟨1, 8, 6⟩
  | .warmLimit => ⟨10, 900, 300⟩
  | .faultRest => ⟨10, 3600, 600⟩
  | .wipeInterval => ⟨0, 1440, 240⟩
  | .wipeLimit => ⟨10, 600, 60⟩

/-- Every bank setting, in storage order. -/
def BankSetting.all : List BankSetting :=
  [.kvol, .filtShift, .refShift, .settleTime, .haltPct, .sagPct, .sagHys, .sagEnter, .sagExit, .sagTimeout,
   .sagStage, .expected, .lowPct, .warmPct, .position, .minLampsLit, .warmLimit, .faultRest, .wipeInterval, .wipeLimit]

/-- How many instances a kind has: device 1, channels 4, banks 12, ports 2 (10, Table 10-1). -/
def AlarmKind.scope : AlarmKind → Nat
  | .restarted => 1 | .requestDropped => 1
  | .editLapsed => 4 | .flowStale => 4 | .uvtStale => 4 | .outOfRange => 4 | .doseLow => 4 | .stageExhausted => 4
  | .foreignCommand => 4
  | .bankFault => 12 | .sag => 12 | .stepAccepted => 12 | .outputLow => 12 | .intensityStale => 12
  | .wiperFault => 12 | .lampDead => 12
  | .transitOverrun => 2 | .lineErrors => 2

/-- Where a kind's instances begin among the 118, in ascending kind number. -/
def AlarmKind.base : AlarmKind → Nat
  | .restarted => 0 | .editLapsed => 1 | .flowStale => 5 | .uvtStale => 9 | .outOfRange => 13 | .doseLow => 17
  | .stageExhausted => 21 | .foreignCommand => 25 | .bankFault => 29 | .sag => 41 | .stepAccepted => 53
  | .outputLow => 65 | .intensityStale => 77 | .wiperFault => 89 | .lampDead => 101 | .transitOverrun => 113
  | .lineErrors => 115 | .requestDropped => 117

/-- Whether a kind records single events (10, Table 10-1). -/
def AlarmKind.latched : AlarmKind → Bool
  | .restarted => true | .editLapsed => true | .foreignCommand => true | .stepAccepted => true
  | .wiperFault => true | .lampDead => true | .transitOverrun => true | .lineErrors => true
  | .requestDropped => true
  | .flowStale => false | .uvtStale => false | .outOfRange => false | .doseLow => false | .stageExhausted => false
  | .bankFault => false | .sag => false | .outputLow => false | .intensityStale => false

/-- Default priorities (10, Table 10-1). -/
def AlarmKind.defaultPriority : AlarmKind → Nat
  | .restarted => 3 | .editLapsed => 6 | .flowStale => 6 | .uvtStale => 4 | .outOfRange => 5 | .doseLow => 7
  | .stageExhausted => 5 | .foreignCommand => 2 | .bankFault => 6 | .sag => 4 | .stepAccepted => 2
  | .outputLow => 2 | .intensityStale => 4 | .wiperFault => 2 | .lampDead => 2 | .transitOverrun => 2
  | .lineErrors => 2 | .requestDropped => 2

/-- The place of a kind in the priority table: its number less 1. -/
def AlarmKind.idx : AlarmKind → Fin 18
  | .restarted => 0 | .editLapsed => 1 | .flowStale => 2 | .uvtStale => 3 | .outOfRange => 4 | .doseLow => 5
  | .stageExhausted => 6 | .foreignCommand => 7 | .bankFault => 8 | .sag => 9 | .stepAccepted => 10
  | .outputLow => 11 | .intensityStale => 12 | .wiperFault => 13 | .lampDead => 14 | .transitOverrun => 15
  | .lineErrors => 16 | .requestDropped => 17

/-- Every alarm kind, in number order. -/
def AlarmKind.all : List AlarmKind :=
  [.restarted, .editLapsed, .flowStale, .uvtStale, .outOfRange, .doseLow, .stageExhausted, .foreignCommand,
   .bankFault, .sag, .stepAccepted, .outputLow, .intensityStale, .wiperFault, .lampDead, .transitOverrun,
   .lineErrors, .requestDropped]

end Sys2Proof

namespace Sys2Proof.Machine

/-- A table given by the list of its entries, `d` where the list is short. -/
def tableOf {n : Nat} {α : Type} (l : List α) (d : α) : Vector α n :=
  build fun i => l.getD i.1 d

/-- Table 1-3. -/
def defaultUvtCurve : Vector CurvePoint 8 :=
  tableOf [⟨400, 300⟩, ⟨450, 450⟩, ⟨500, 600⟩, ⟨550, 750⟩, ⟨600, 900⟩, ⟨650, 1024⟩, ⟨700, 1150⟩, ⟨750, 1280⟩] ⟨0, 0⟩

/-- Table 4-3. -/
def defaultBallastCurve : Vector CurvePoint 8 :=
  tableOf [⟨100, 20⟩, ⟨200, 45⟩, ⟨300, 70⟩, ⟨400, 95⟩, ⟨600, 145⟩, ⟨800, 195⟩, ⟨900, 230⟩, ⟨1000, 255⟩] ⟨0, 0⟩

/-- A step with k = 0 and no effects (06, R100). -/
def idleStep : Step := ⟨0, none, false, .keep, false⟩

/-- Table 6-5, STRIKE. -/
def defaultStrike : Vector Step 8 :=
  tableOf [⟨0, some 0x03, false, .keep, false⟩, ⟨6, some 0x0F, false, .keep, false⟩,
           ⟨6, some 0x3F, false, .keep, false⟩, ⟨6, some 0xFF, false, .keep, true⟩] idleStep

/-- Table 6-5, QUENCH. -/
def defaultQuench : Vector Step 8 :=
  tableOf [⟨0, some 0x00, false, .keep, true⟩] idleStep

/-- Table 6-5, WIPE. -/
def defaultWipe : Vector Step 8 :=
  tableOf [⟨0, none, true, .set, false⟩, ⟨12, none, false, .clear, true⟩] idleStep

/-- Dose accounting after full reset (01, Table 1-6). -/
def Accounting.reset : Accounting :=
  { lastDose := 0, bankDoses := Vector.replicate 4 0, lastPass := none, outOfRange := false, offSpec := false,
    doseLow := 0, totalL := 0, totalMl := 0, offL := 0, offMl := 0, pulseRem := 0, backlog := 0, fallback := none }

/-- Power stage after full reset (04, Table 4-6). -/
def Power.reset : Power :=
  { pd := 1000, ePrev := 0, applied := 1000, code := 255 }

/-- A channel after full reset (01 R1, R23; 02 R39; 04 R74; 05 R76; 09 R167; 10 R179). -/
def Channel.reset : Channel :=
  { settings := tableOf (ChanSetting.all.map fun x => x.range.reset) 0
    uvtCurve := defaultUvtCurve
    ballastCurve := defaultBallastCurve
    acct := Accounting.reset
    uvtUse := .failsafe
    uvtHold := none
    power := Power.reset
    mode := .unarmed
    prevMode := .unarmed
    manualValue := 0
    manualCount := 0
    manualLease := none
    startList := []
    upCount := 0
    downCount := 0
    pendingUp := 0
    adoption := none
    profileValid := false
    holder := none
    editLease := none
    pulsePhase := .idle
    pulseTimer := none }

/-- The tracker after full reset, warm restart, arming and a change of owner (03, R58). -/
def Tracker.reset : Tracker :=
  { sf := none, sn := none, sref := none, reseed := false, sag := .clear, sagTimer := none, settleTimer := none,
    blank := false, warm := false }

/-- A bank after full reset (01 R1; 03 R58; 05 R94; 06 R114). The step index, which R114 does not give, is 0
(DESIGN CHOICE, log 32). -/
def Bank.reset : Bank :=
  { settings := tableOf (BankSetting.all.map fun x => x.range.reset) 0
    owner := none
    wiperStation := none
    strike := defaultStrike
    quench := defaultQuench
    wipe := defaultWipe
    state := .dark
    tracker := Tracker.reset
    running := none
    stepIdx := 0
    stepTimer := none
    wipeInterval := none
    wipeDue := false
    wiperSlot := none
    supervision := .idle
    wipeLimit := none
    lastWipe := .none
    warmTimer := none
    faultTimer := none }

/-- A port after full reset (08, R148). -/
def PortState.reset : PortState :=
  { queue := [], errors := 0, errorLimit := 16 }

/-- A station address that makes the part a repeater (08, R137). -/
def isRepeaterAddress (address : Nat) : Bool :=
  address = 0 || address = 127

/-- The ALERT frame of RESTARTED at its default priority 3, sent broadcast as after full reset (10, R177; 11, Table
11-7). -/
def restartedAlert (address : Nat) : Frame :=
  ⟨127, BitVec.ofNat 8 address, kindAlert, [1, 0, 3]⟩

/-- The straps the model starts with (DESIGN CHOICE, log 3): the lowest address of normal operation. -/
def defaultStraps : BitVec 7 := 1

end Sys2Proof.Machine
end

