-- ==== Sys2Proof/Machine/State.lean ====
section
/-! DEFINITION. The state of the whole part as plain data, its faults and refusals, and the state after a full
reset. -/

namespace Sys2Proof.Machine

/-- The part's state. `pending` is the model's queue of waiting commands, first in first out; `strapReads` counts the
strap readings whose levels are a free value (log 3); `alertsDue` and `slotsMade` are the model's notes of what the
event in progress has made and not yet offered to a queue, empty between events (log 12, log 13). Everything else is
state the manual names (INVENTORY.md, State). -/
structure State where
  pending        : List Instr
  now            : Nat
  straps         : BitVec 7
  strapReads     : Nat
  address        : Nat
  north          : PortState
  south          : PortState
  replySlot      : Option WaitingReply
  alertSlot      : Option Frame
  pointer        : SlotId
  restartPending : Bool
  channels       : Vector Channel 4
  banks          : Vector Bank 12
  lamps          : Vector (Option Lamp) 64
  points         : Vector (Option Point) 96
  priorities     : Vector Nat 18
  threshold      : Nat
  alertDest      : Nat
  alarms         : Vector Alarm 118
  alertLine      : Bool
  alertsDue      : List AlertNote
  slotsMade      : List SlotId
  deriving DecidableEq, Repr

/-- Nothing stops the part with a fault: every command has an effect in every state (INVENTORY.md, Faults). No
constructor. -/
inductive Fault where
  deriving DecidableEq, Repr

/-- Why a command would have no meaning. -/
inductive Refusal where
  /-- Raised by `exec` for a command whose row is not modelled yet. Safe: the model stops where the part goes on.
  No arm of `exec` answers it. -/
  | notModelled (mnemonic : String)
  deriving DecidableEq, Repr

/-- The state after a full reset with the given straps (09, R167): every block at its full reset values, RESTARTED
raised (10, R177). Outside repeater mode the RESTARTED ALERT frame has entered the empty north queue (08, R144) and the
ALERT line is asserted; in repeater mode the frame stays in the alert slot and the line is released (08, R137; 10,
R175). -/
def State.afterReset (straps : BitVec 7) : State :=
  let repeater := isRepeaterAddress straps.toNat
  let alert := restartedAlert straps.toNat
  { pending := []
    now := 0
    straps := straps
    strapReads := 0
    address := straps.toNat
    north := { PortState.reset with queue := if repeater then [] else [⟨alert, true, false⟩] }
    south := PortState.reset
    replySlot := none
    alertSlot := if repeater then some alert else none
    pointer := 75
    restartPending := false
    channels := Vector.replicate 4 Channel.reset
    banks := Vector.replicate 12 Bank.reset
    lamps := Vector.replicate 64 none
    points := Vector.replicate 96 none
    priorities := tableOf (AlarmKind.all.map AlarmKind.defaultPriority) 0
    threshold := 0
    alertDest := 127
    alarms := put (Vector.replicate 118 ⟨.idle, false⟩) 0 ⟨.pending, false⟩
    alertLine := !repeater
    alertsDue := []
    slotsMade := [] }

/-- The part right after reset. -/
def State.reset : State :=
  State.afterReset defaultStraps

end Sys2Proof.Machine
end

