-- ==== Sys2Proof/Machine/Ops.lean ====
section
/-! DEFINITION. The named operations every family shares: reading and updating the parts of the state, timers, the
alarm unit's instances (10), the outgoing queues and the slots of own frames (08), and the end of an event. -/

namespace Sys2Proof.Machine

/-! ### Reading and updating the state -/

def State.chan (s : State) (c : ChanId) : Channel :=
  s.channels.get c

def State.bank (s : State) (b : BankId) : Bank :=
  s.banks.get b

def State.lamp (s : State) (l : LampId) : Option Lamp :=
  s.lamps.get l

def State.point (s : State) (p : PointId) : Option Point :=
  s.points.get p

def State.modChan (s : State) (c : ChanId) (f : Channel → Channel) : State :=
  { s with channels := put s.channels c (f (s.chan c)) }

def State.modBank (s : State) (b : BankId) (f : Bank → Bank) : State :=
  { s with banks := put s.banks b (f (s.bank b)) }

def State.setLamp (s : State) (l : LampId) (x : Option Lamp) : State :=
  { s with lamps := put s.lamps l x }

/-- Updates the machine of a lamp entry; an empty entry has none. -/
def State.modLamp (s : State) (l : LampId) (f : Lamp → Lamp) : State :=
  s.setLamp l ((s.lamp l).map f)

def State.setPoint (s : State) (p : PointId) (x : Option Point) : State :=
  { s with points := put s.points p x }

/-- The value of a channel setting. -/
def Channel.get (c : Channel) (x : ChanSetting) : Nat :=
  c.settings.get x.idx

/-- The value of a bank setting. -/
def Bank.get (b : Bank) (x : BankSetting) : Nat :=
  b.settings.get x.idx

def Channel.setAcct (c : Channel) (f : Accounting → Accounting) : Channel :=
  { c with acct := f c.acct }

def Channel.setPower (c : Channel) (f : Power → Power) : Channel :=
  { c with power := f c.power }

def Bank.setTracker (b : Bank) (f : Tracker → Tracker) : Bank :=
  { b with tracker := f b.tracker }

def Bank.program (b : Bank) : ProgKind → Vector Step 8
  | .strike => b.strike
  | .quench => b.quench
  | .wipe => b.wipe

def Bank.setProgram (b : Bank) (k : ProgKind) (p : Vector Step 8) : Bank :=
  match k with
  | .strike => { b with strike := p }
  | .quench => { b with quench := p }
  | .wipe => { b with wipe := p }

def State.port (s : State) : Port → PortState
  | .north => s.north
  | .south => s.south

def State.modPort (s : State) (p : Port) (f : PortState → PortState) : State :=
  match p with
  | .north => { s with north := f s.north }
  | .south => { s with south := f s.south }

/-- The port opposite (08, section 8.1). -/
def otherPort : Port → Port
  | .north => .south
  | .south => .north

/-- A port as an alarm instance: north 0, south 1 (00, Table 4-2). -/
def portNumber : Port → Nat
  | .north => 0
  | .south => 1

/-- Repeater mode (08, R137). -/
def State.repeater (s : State) : Bool :=
  isRepeaterAddress s.address

/-- Applies `f` to the state for each member of a list in turn. -/
def forEach {α : Type} (l : List α) (f : α → State → State) (s : State) : State :=
  l.foldl (fun s x => f x s) s

/-! ### Timers -/

/-- A timer started now with a period in milliseconds. -/
def State.timer (s : State) (ms : Nat) : Timer :=
  some (s.now + ms)

/-- The timer runs and its time has come (log 2). -/
def State.due (s : State) (t : Timer) : Bool :=
  match t with
  | some d => d ≤ s.now
  | none => false

/-- Milliseconds left on a timer, none when it is stopped. -/
def State.msLeft (s : State) (t : Timer) : Option Nat :=
  t.map fun d => d - s.now

/-! ### Alarm instances (10) -/

/-- The place of an instance among the 118. -/
def alarmSlot (k : AlarmKind) (i : Nat) : Fin 118 :=
  ⟨k.base + i % k.scope, by
    cases k <;> simp only [AlarmKind.base, AlarmKind.scope] <;> omega⟩

def State.alarm (s : State) (k : AlarmKind) (i : Nat) : Alarm :=
  s.alarms.get (alarmSlot k i)

def State.modAlarm (s : State) (k : AlarmKind) (i : Nat) (f : Alarm → Alarm) : State :=
  { s with alarms := put s.alarms (alarmSlot k i) (f (s.alarm k i)) }

/-- The kind's priority. -/
def State.priority (s : State) (k : AlarmKind) : Nat :=
  s.priorities.get k.idx

/-- Whether a condition holds, as last reported (10, R168). -/
def State.holds (s : State) (k : AlarmKind) (i : Nat) : Bool :=
  (s.alarm k i).cause

/-- Every instance as (kind, number), ascending kind number and then instance number. -/
def allInstances : List (AlarmKind × Nat) :=
  AlarmKind.all.flatMap fun k => (List.range k.scope).map fun i => (k, i)

/-- The instances that are PENDING, in ascending order. -/
def State.pendingInstances (s : State) : List (AlarmKind × Nat) :=
  allInstances.filter fun x => (s.alarm x.1 x.2).state = .pending

/-- At least one instance is PENDING with a priority above the threshold (10, R174). -/
def State.pendingAbove (s : State) : Bool :=
  s.pendingInstances.any fun x => s.threshold < s.priority x.1

/-- The ALERT line judged anew (10, R174); released in repeater mode (08, R137). -/
def judgeLine (s : State) : State :=
  { s with alertLine := !s.repeater && s.pendingAbove }

/-- Keeps the notes of one event in ascending kind and instance order (10, R175). -/
def insertNote (n : AlertNote) : List AlertNote → List AlertNote
  | [] => [n]
  | m :: l => if alarmSlot n.kind n.inst < alarmSlot m.kind m.inst then n :: m :: l else m :: insertNote n l

/-- Notes an entry into PENDING whose priority is above the threshold (10, R175). -/
def noteAlert (k : AlarmKind) (i : Nat) (s : State) : State :=
  if s.threshold < s.priority k then
    { s with alertsDue := insertNote ⟨k, i, s.priority k⟩ s.alertsDue }
  else s

/-- A transition of an instance into PENDING (10, R169, R170, R173). -/
def enterPending (k : AlarmKind) (i : Nat) (s : State) : State :=
  judgeLine (noteAlert k i (s.modAlarm k i fun a => { a with state := .pending }))

/-- A transition of an instance into a state other than PENDING. -/
def leavePending (k : AlarmKind) (i : Nat) (st : AlarmState) (s : State) : State :=
  judgeLine (s.modAlarm k i fun a => { a with state := st })

/-- A latched event is reported (10, R169). -/
def raise (k : AlarmKind) (i : Nat) (s : State) : State :=
  if s.priority k = 0 then s
  else match (s.alarm k i).state with
    | .idle => enterPending k i s
    | .pending => s
    | .inService => leavePending k i .inServiceRecurred s
    | .inServiceRecurred => s

/-- A condition's beginning is reported (10, R170). -/
def beginCondition (k : AlarmKind) (i : Nat) (s : State) : State :=
  let s := s.modAlarm k i fun a => { a with cause := true }
  if s.priority k ≠ 0 ∧ (s.alarm k i).state = .idle then enterPending k i s else s

/-- A condition's ceasing is reported (10, R170). -/
def ceaseCondition (k : AlarmKind) (i : Nat) (s : State) : State :=
  let s := s.modAlarm k i fun a => { a with cause := false }
  if (s.alarm k i).state = .pending then leavePending k i .idle s else s

/-- The owner of a condition reports whether it holds: each beginning and each ceasing moves the instance, and no
change reports nothing (10, R168). -/
def report (k : AlarmKind) (i : Nat) (holds : Bool) (s : State) : State :=
  if holds = s.holds k i then s
  else if holds then beginCondition k i s
  else ceaseCondition k i s

/-! ### Outgoing queues (08, R142 to R145) -/

def PortState.ownCount (p : PortState) : Nat :=
  p.queue.countP fun q => q.own

/-- Fewer than 16 frames and fewer than 8 own frames (08, R144). -/
def PortState.ownRoom (p : PortState) : Bool :=
  p.queue.length < Config.queueFrames && p.ownCount < Config.ownFrames

/-- A frame enters a queue at the tail. -/
def pushFrame (p : Port) (q : QFrame) (s : State) : State :=
  s.modPort p fun ps => { ps with queue := ps.queue ++ [q] }

/-- A frame received on `p` is offered to the other port's queue: it enters at the tail, or is lost and
TRANSIT_OVERRUN is raised for the port whose queue is full (08, R143). -/
def forwardFrame (p : Port) (f : Frame) (s : State) : State :=
  if (s.port (otherPort p)).queue.length < Config.queueFrames then pushFrame (otherPort p) ⟨f, false, false⟩ s
  else raise .transitOverrun (portNumber (otherPort p)) s

/-- An own frame enters its queue directly at its making (08, R144); never in repeater mode (R137). -/
def State.directEntry (s : State) (p : Port) : Bool :=
  !s.repeater && (s.port p).ownRoom

/-! ### Own frames and their slots (08, R144; 11, Table 11-6) -/

def LampCmd.payload : LampCmd → List Byte
  | .strike code => [1, BitVec.ofNat 8 code]
  | .set code => [2, BitVec.ofNat 8 code]
  | .quench => [3, 0]

/-- A frame the part originates: its address as source, bit 7 of both station bytes clear (08, R136; 11, R180). -/
def State.ownFrame (s : State) (dst : Nat) (kind : Byte) (payload : List Byte) : Frame :=
  ⟨BitVec.ofNat 8 dst, BitVec.ofNat 8 s.address, kind, payload⟩

/-- The lamp entry of a position of the south arbiter's cycle, or the bank of its wiper slots (08, R146). -/
def slotOwner (pos : SlotId) : LampId ⊕ BankId :=
  if h : pos.1 < 64 then .inl ⟨pos.1, h⟩ else .inr ⟨pos.1 - 64, by omega⟩

def lampPos (l : LampId) : SlotId :=
  ⟨l.1, by omega⟩

def wiperPos (b : BankId) : SlotId :=
  ⟨64 + b.1, by omega⟩

/-- The command frame waiting in a slot, if any. -/
def State.slotFrame (s : State) (pos : SlotId) : Option Frame :=
  match slotOwner pos with
  | .inl l =>
    match s.lamp l with
    | some x => x.cmd.map fun c => s.ownFrame x.station kindLampCmd c.payload
    | none => none
  | .inr b => (s.bank b).wiperSlot.map fun st => s.ownFrame st kindWiperCmd [1]

def clearSlot (pos : SlotId) (s : State) : State :=
  match slotOwner pos with
  | .inl l => s.modLamp l fun x => { x with cmd := none }
  | .inr b => s.modBank b fun x => { x with wiperSlot := none }

/-- The command of a slot enters the south queue and the slot becomes empty. -/
def enterSouth (pos : SlotId) (s : State) : State :=
  match s.slotFrame pos with
  | some f => clearSlot pos (pushFrame .south ⟨f, true, false⟩ s)
  | none => s

/-- Direct entry of a command made in this event (08, R144). -/
def tryDirect (pos : SlotId) (s : State) : State :=
  if s.directEntry .south then enterSouth pos s else s

/-- Keeps the slots of one event in ascending order without repeats (08, R144). -/
def insertSlot (p : SlotId) : List SlotId → List SlotId
  | [] => [p]
  | q :: l => if p < q then p :: q :: l else if p = q then q :: l else q :: insertSlot p l

/-- How a new lamp command meets the one waiting: it replaces it, but a SET over a STRIKE gives the STRIKE its code
(07, R131). -/
def mergeCmd (old : Option LampCmd) (new : LampCmd) : LampCmd :=
  match old, new with
  | some (.strike _), .set code => .strike code
  | _, c => c

/-- A command is placed in a lamp's slot (07, R131). A command made in an empty slot will try direct entry at the end
of the event; one that meets a waiting command waits in its stead (08, R144). -/
def placeLamp (l : LampId) (c : LampCmd) (s : State) : State :=
  match s.lamp l with
  | none => s
  | some x =>
    let s' := s.modLamp l fun x => { x with cmd := some (mergeCmd x.cmd c) }
    if x.cmd = none then { s' with slotsMade := insertSlot (lampPos l) s'.slotsMade } else s'

/-- A WIPER_CMD START to a station is placed in a bank's wiper slot (06, R111). -/
def placeWiper (b : BankId) (station : Nat) (s : State) : State :=
  let s' := s.modBank b fun x => { x with wiperSlot := some station }
  if (s.bank b).wiperSlot = none then { s' with slotsMade := insertSlot (wiperPos b) s'.slotsMade } else s'

/-- An ALERT frame is made in the alert slot if it is empty, and enters the north queue directly if the limits allow;
with the slot occupied it is not made (10, R175; 08, R144). A frame that enters a queue with room leaves the slot empty
for the next one of the same event, as R175 with R144 and R177 says, although R171 speaks of the first frame only
(DESIGN CHOICE, log 43). -/
def makeAlert (n : AlertNote) (s : State) : State :=
  if s.alertSlot = none then
    let f := s.ownFrame s.alertDest kindAlert
      [BitVec.ofNat 8 n.kind.number, BitVec.ofNat 8 n.inst, BitVec.ofNat 8 n.priority]
    if s.directEntry .north then pushFrame .north ⟨f, true, false⟩ s else { s with alertSlot := some f }
  else s

/-- The ALERT frames of the event, in ascending kind and instance order, each finding the slot as the one before it left
it (10, R175; log 43). -/
def flushAlerts (s : State) : State :=
  forEach s.alertsDue makeAlert { s with alertsDue := [] }

/-- The commands made in the event try direct entry in ascending slot order (08, R144). -/
def flushSlots (s : State) : State :=
  forEach s.slotsMade tryDirect { s with slotsMade := [] }

/-- The end of an event: its ALERT frames and commands try their queues (log 12, log 13). -/
def endEvent (s : State) : State :=
  flushSlots (flushAlerts s)

end Sys2Proof.Machine
end

