-- ==== Sys2Proof/Machine/Operands.lean ====
section
/-! DEFINITION. What the rules read through other state: the points that serve each consumer (01 R2, 02 R27), owners,
governed lamps, lit counts and installed lamps, and curves. -/

namespace Sys2Proof.Machine

def allChans : List ChanId := List.finRange 4
def allBanks : List BankId := List.finRange 12
def allLamps : List LampId := List.finRange 64
def allPoints : List PointId := List.finRange 96

/-! ### Which point serves a consumer (01, R2; 02, R27) -/

/-- The lowest-numbered entry in place whose targets satisfy `q`. -/
def State.servingPoint (s : State) (q : Targets → Bool) : Option PointId :=
  allPoints.find? fun p => match s.point p with
    | some x => q x.cfg.targets
    | none => false

def Targets.isFlow (ch : ChanId) : Targets → Bool
  | .flow c => c = ch
  | _ => false

def Targets.isUvt (ch : ChanId) : Targets → Bool
  | .uvt cs => cs.contains ch
  | _ => false

def Targets.isIntensity (b : BankId) : Targets → Bool
  | .intensity c => c = b
  | _ => false

def Targets.isWiper (b : BankId) : Targets → Bool
  | .wiper c => c = b
  | _ => false

def State.flowPoint (s : State) (ch : ChanId) : Option PointId :=
  s.servingPoint (Targets.isFlow ch)

def State.uvtPoint (s : State) (ch : ChanId) : Option PointId :=
  s.servingPoint (Targets.isUvt ch)

def State.intensityPoint (s : State) (b : BankId) : Option PointId :=
  s.servingPoint (Targets.isIntensity b)

def State.wiperPoint (s : State) (b : BankId) : Option PointId :=
  s.servingPoint (Targets.isWiper b)

/-- Whether the point serving a consumer is FRESH; no point counts as STALE (02, R27). -/
def State.freshPoint (s : State) (p : Option PointId) : Bool :=
  match p with
  | some p =>
    match s.point p with
    | some x => x.fresh
    | none => false
  | none => false

/-- The number a point holds, none when it has no value. -/
def State.pointNum (s : State) (p : Option PointId) : Option Nat :=
  match p with
  | some p =>
    match s.point p with
    | some x =>
      match x.value with
      | some (.num n) => some n
      | _ => none
    | none => none
  | none => none

/-! ### Owners and governance -/

/-- Dormant: UNARMED, or EDIT entered from UNARMED (05, section 5.1). -/
def Channel.dormant (c : Channel) : Bool :=
  c.mode = .unarmed || (c.mode = .edit && c.prevMode = .unarmed)

/-- The mode the channel is governed by: in EDIT, the mode EDIT was entered from (05, R85). -/
def Channel.effMode (c : Channel) : Mode :=
  if c.mode = .edit then c.prevMode else c.mode

/-- AUTO, MANUAL, FULL or STANDDOWN (05, section 5.1). -/
def Mode.armed (m : Mode) : Bool :=
  m = .auto || m = .manual || m = .full || m = .standdown

/-- The bank is owned by a channel that is armed or frozen. -/
def State.bankGoverned (s : State) (b : BankId) : Bool :=
  match (s.bank b).owner with
  | some ch => !(s.chan ch).dormant
  | none => false

/-- The bank is owned by a channel that is dormant. -/
def State.bankDormant (s : State) (b : BankId) : Bool :=
  match (s.bank b).owner with
  | some ch => (s.chan ch).dormant
  | none => false

/-- The bank is owned by a channel that is not UNARMED. -/
def State.bankWatched (s : State) (b : BankId) : Bool :=
  match (s.bank b).owner with
  | some ch => (s.chan ch).mode ≠ .unarmed
  | none => false

def State.ownedBanks (s : State) (ch : ChanId) : List BankId :=
  allBanks.filter fun b => (s.bank b).owner = some ch

/-- The lamp entries naming a bank, ascending. -/
def State.installed (s : State) (b : BankId) : List LampId :=
  allLamps.filter fun l => match s.lamp l with
    | some x => x.bank = b
    | none => false

/-- The installed lamps whose machine satisfies `q`. -/
def State.countLamps (s : State) (b : BankId) (q : Lamp → Bool) : Nat :=
  (s.installed b).countP fun l => match s.lamp l with
    | some x => q x
    | none => false

/-- Installed lamps that are LIT (05, section 5.6). -/
def State.litCount (s : State) (b : BankId) : Nat :=
  s.countLamps b fun x => x.state = .lit

/-- Installed lamps not in DEAD (05, R96). -/
def State.nonDead (s : State) (b : BankId) : Nat :=
  s.countLamps b fun x => x.state ≠ .dead

/-- Lamp entries in banks the channel owns, ascending. -/
def State.channelLamps (s : State) (ch : ChanId) : List LampId :=
  allLamps.filter fun l => match s.lamp l with
    | some x => (s.bank x.bank).owner = some ch
    | none => false

/-- The channel that owns a lamp's bank. -/
def State.lampOwner (s : State) (l : LampId) : Option ChanId :=
  match s.lamp l with
  | some x => (s.bank x.bank).owner
  | none => none

/-- A lamp is governed while its bank is owned by an armed or frozen channel (07, section 7.1). -/
def State.lampGoverned (s : State) (l : LampId) : Bool :=
  match s.lamp l with
  | some x => s.bankGoverned x.bank
  | none => false

/-- A lamp setting of the channel that owns the lamp's bank; its full reset value while the bank is unassigned
(07, R129). -/
def State.lampSetting (s : State) (l : LampId) (x : ChanSetting) : Nat :=
  match s.lampOwner l with
  | some ch => (s.chan ch).get x
  | none => x.range.reset

/-- The bank is in its channel's start order list (05, R87). -/
def State.listed (s : State) (b : BankId) : Bool :=
  match (s.bank b).owner with
  | some ch => (s.chan ch).startList.contains b
  | none => false

/-- The first of a list of banks in position order; of two in one position the one that stands first in the list (05,
R91; log 29). -/
def State.firstPlaced (s : State) (l : List BankId) : Option BankId :=
  l.foldl (fun best b => match best with
    | some a => if (s.bank b).get .position < (s.bank a).get .position then some b else some a
    | none => some b) none

/-- Number of banks a channel owns. -/
def State.bankCount (s : State) (ch : ChanId) : Nat :=
  (s.ownedBanks ch).length

/-! ### Curves (01, R7; 04, R68) -/

/-- Point `i` of a curve. -/
def curveAt (c : Vector CurvePoint 8) (i : Fin 8) : CurvePoint :=
  c.get i

/-- Interpolation in the segment from `a` to `b`: y_a + floor((y_b − y_a) × (x − x_a) / (x_b − x_a)). -/
def interpolate (a b : CurvePoint) (x : Nat) : Nat :=
  ((a.y : Int) + (((b.y : Int) - a.y) * ((x : Int) - a.x)) / ((b.x : Int) - a.x)).toNat

/-- The value of a curve at `x` in the lowest segment i with x_i ≤ x < x_{i+1}. On a curve that has passed
CURVE_ORDER there is at most one. With none, the last point's value (log 28). -/
def curveValue (c : Vector CurvePoint 8) (x : Nat) : Nat :=
  match (List.finRange 7).find? fun i =>
      (curveAt c i.castSucc).x ≤ x ∧ x < (curveAt c i.succ).x with
  | some i => interpolate (curveAt c i.castSucc) (curveAt c i.succ) x
  | none => (curveAt c 7).y

/-- The transmittance factor for the UVT in use, and whether it marks the pass out-of-range (01, R7). -/
def uvtFactor (c : Vector CurvePoint 8) (u : Nat) : Nat × Bool :=
  if u < (curveAt c 0).x then ((curveAt c 0).y, true)
  else if (curveAt c 7).x ≤ u then ((curveAt c 7).y, false)
  else (curveValue c u, false)

/-- The ballast code for a demand (04, R68). -/
def ballastCode (c : Vector CurvePoint 8) (pd : Nat) : Nat :=
  if pd < (curveAt c 0).x then (curveAt c 0).y
  else if pd = 1000 then (curveAt c 7).y
  else curveValue c pd

end Sys2Proof.Machine
end

