-- ==== Sys2Proof/Machine/Clock.lean ====
section
/-! DEFINITION. The time base (00, section 4.5; log 1): a millisecond passes, and every timer that has run out by then
queues its expiry command. -/

namespace Sys2Proof.Machine

/-- The expiry commands of the timers whose time has come, in the order of spec/opcode_table.json and then by number
(log 1). -/
def State.dueCommands (s : State) : List Instr :=
  let chans := fun (t : Channel → Timer) (c : ChanId → Instr) =>
    (allChans.filter fun ch => s.due (t (s.chan ch))).map c
  let banks := fun (t : Bank → Timer) (c : BankId → Instr) =>
    (allBanks.filter fun b => s.due (t (s.bank b))).map c
  let lamps := fun (t : Lamp → Timer) (c : LampId → Instr) =>
    (allLamps.filter fun l => match s.lamp l with
      | some x => s.due (t x)
      | none => false).map c
  let points := (allPoints.filter fun p => match s.point p with
      | some x => s.due x.timer
      | none => false).map Instr.freshnessTimerExpiry
  chans (fun c => c.acct.fallback) .fallbackTimerExpiry ++ points ++ chans (fun c => c.uvtHold) .uvtHoldTimerExpiry
    ++ banks (fun x => x.tracker.sagTimer) .sagTimerExpiry
    ++ banks (fun x => x.tracker.settleTimer) .settleTimerExpiry
    ++ chans (fun c => c.manualLease) .manualLeaseExpiry ++ chans (fun c => c.adoption) .adoptionWindowExpiry
    ++ banks (fun x => x.warmTimer) .warmLimitExpiry ++ banks (fun x => x.faultTimer) .faultRestExpiry
    ++ chans (fun c => c.editLease) .editLeaseLapse
    ++ banks (fun x => x.stepTimer) .stepTimerExpiry ++ banks (fun x => x.wipeInterval) .wipeIntervalExpiry
    ++ banks (fun x => x.wipeLimit) .wipeLimitExpiry
    ++ lamps (fun x => x.strikeTimer) .strikeWindowExpiry ++ lamps (fun x => x.waitTimer) .waitTimerExpiry
    ++ lamps (fun x => x.clearTimer) .dropoutClearExpiry ++ lamps (fun x => x.coolTimer) .coolingStep
    ++ chans (fun c => if c.pulsePhase = .high then c.pulseTimer else none) .pulseWidthExpiry
    ++ chans (fun c => if c.pulsePhase = .gap then c.pulseTimer else none) .pulseGapExpiry

/-- The time base moves to the instant `t`, and the timers that have run out by then queue their expiries (log 1). -/
def State.advanceTo (t : Nat) (s : State) : State :=
  let s := { s with now := t }
  { s with pending := s.dueCommands }

/-- An idle step: one millisecond passes (log 1). -/
def tick (s : State) : State :=
  s.advanceTo (s.now + 1)

end Sys2Proof.Machine
end

