-- ==== Sys2Proof/Machine/Flags.lean ====
section
/-! DEFINITION. The conditions whose cause is read from several blocks, each evaluated and reported to the alarm unit:
FLOW_STALE (02, R36), UVT_STALE (R37), INTENSITY_STALE (R38), BANK_FAULT (05, R96), DOSE_LOW and OUT_OF_RANGE (01, R12,
R13). The condition flags OUTPUT_LOW, SAG and STAGE_EXHAUSTED are judged in Tracking.lean and Staging.lean. -/

namespace Sys2Proof.Machine

/-- FLOW_STALE holds while the channel is not UNARMED and its flow point is STALE or absent (02, R36). -/
def judgeFlowStale (ch : ChanId) (s : State) : State :=
  report .flowStale ch.1 ((s.chan ch).mode ≠ .unarmed && !s.freshPoint (s.flowPoint ch)) s

/-- UVT_STALE holds while the channel is not UNARMED and its UVT in use is HELD or FAILSAFE (02, R37). -/
def judgeUvtStale (ch : ChanId) (s : State) : State :=
  report .uvtStale ch.1 ((s.chan ch).mode ≠ .unarmed && (s.chan ch).uvtUse ≠ .fresh) s

/-- INTENSITY_STALE holds while the bank's owner is not UNARMED, the bank is not LOCKED and its intensity point is
STALE or absent (02, R38). -/
def judgeIntensityStale (b : BankId) (s : State) : State :=
  report .intensityStale b.1
    (s.bankWatched b && (s.bank b).state ≠ .locked && !s.freshPoint (s.intensityPoint b)) s

/-- BANK_FAULT holds while the bank is FAULTED and owned by a channel that is not UNARMED (05, R96). -/
def judgeBankFault (b : BankId) (s : State) : State :=
  report .bankFault b.1 (s.bankWatched b && (s.bank b).state = .faulted) s

/-- The conditions that read a bank's owner and state. -/
def judgeBank (b : BankId) (s : State) : State :=
  judgeIntensityStale b (judgeBankFault b s)

/-- The conditions that read a channel's mode: its own and those of its banks. -/
def judgeChannel (ch : ChanId) (s : State) : State :=
  forEach (s.ownedBanks ch) judgeBank (judgeUvtStale ch (judgeFlowStale ch s))

/-- OUT_OF_RANGE holds while the channel's out-of-range mark is set (01, R13). -/
def judgeOutOfRange (ch : ChanId) (s : State) : State :=
  report .outOfRange ch.1 (s.chan ch).acct.outOfRange s

/-- DOSE_LOW holds while the counter is at or above DoseLowPasses; evaluated at full passes (01, R12). -/
def judgeDoseLow (ch : ChanId) (s : State) : State :=
  report .doseLow ch.1 ((s.chan ch).get .doseLowPasses ≤ (s.chan ch).acct.doseLow) s

end Sys2Proof.Machine
end

