-- ==== Sys2Proof/Machine/Lamp.lean ====
section
/-! DEFINITION. The lamp machine's own operations (07): the wanted-lit flag, the strike path, failures, DEAD, and
what arming, unarming and a change of governance do to it. These act on one machine and its command slot; what a
change of lit count does to the bank is in Staging.lean and LampEvents.lean. -/

namespace Sys2Proof.Machine

/-- Whether the lamp machine is in a given state; false for an empty entry. -/
def State.lampIs (s : State) (l : LampId) (st : LampState) : Bool :=
  match s.lamp l with
  | some x => x.state = st
  | none => false

/-- The strike path's conditions (07, R120). -/
def State.strikeReady (s : State) (l : LampId) : Bool :=
  match s.lamp l with
  | some x =>
    s.lampGoverned l && x.state = .off && x.wanted && !x.unconfirmed && x.cool ≤ s.lampSetting l .restrikeLevel
  | none => false

/-- The ballast code a STRIKE for the lamp carries: its channel's current code (07, R120). -/
def State.strikeCode (s : State) (l : LampId) : Nat :=
  match s.lampOwner l with
  | some ch => (s.chan ch).power.code
  | none => 0

/-- The strike path (07, R120): when every condition holds a STRIKE is placed, the lamp is STRIKING and its strike
window starts; otherwise nothing. -/
def strikePath (l : LampId) (s : State) : State :=
  if s.strikeReady l then
    placeLamp l (.strike (s.strikeCode l))
      (s.modLamp l fun x =>
        { x with state := .striking, strikeTimer := s.timer (1000 * s.lampSetting l .strikeWindow) })
  else s

/-- A LIT lamp is put out as at an unwanting (07, R118, the LIT row; R85 and R86 use it whatever the flag). -/
def putOutLit (l : LampId) (s : State) : State :=
  placeLamp l .quench
    (s.modLamp l fun x => { x with state := .off, wanted := false, clearTimer := none })

/-- What clearing the flag does to a governed lamp, by its state (07, R118). -/
def actUnwanted (l : LampId) (s : State) : State :=
  match s.lamp l with
  | none => s
  | some x =>
    match x.state with
    | .striking => placeLamp l .quench (s.modLamp l fun x => { x with state := .off, strikeTimer := none })
    | .lit => putOutLit l s
    | .retryWait => s.modLamp l fun x => { x with state := .off, waitTimer := none }
    | .longWait => s.modLamp l fun x => { x with state := .off, waitTimer := none }
    | .off => s
    | .dead => s

/-- The wanted-lit flag becomes `w` (07, R118). A flag already so is no change. An ungoverned machine takes the flag
and does nothing else (log 18). -/
def setWanted (w : Bool) (l : LampId) (s : State) : State :=
  match s.lamp l with
  | none => s
  | some x =>
    if x.wanted = w then s
    else
      let s' := s.modLamp l fun x => { x with wanted := w }
      if !s.lampGoverned l then s'
      else if w then (if x.state = .off then strikePath l s' else s')
      else actUnwanted l s'

/-- The lamp becomes LIT, at an adoption (07, R127) or at a success (07, R121). -/
def becomeLit (adopted : Bool) (l : LampId) (s : State) : State :=
  s.modLamp l fun x =>
    { x with state := .lit, adopted := adopted, attempts := 0, sets := 0, strikeTimer := none,
             clearTimer := s.timer (1000 * s.lampSetting l .dropoutClear) }

/-- Entry to DEAD (07, R124): timers stop, a QUENCH is placed, LAMP_DEAD is latched for the bank. -/
def enterDead (l : LampId) (s : State) : State :=
  match s.lamp l with
  | none => s
  | some x =>
    raise .lampDead x.bank.1
      (placeLamp l .quench
        (s.modLamp l fun x =>
          { x with state := .dead, strikeTimer := none, waitTimer := none, clearTimer := none }))

/-- The retry limit of the lamp's current set (07, R122). -/
def State.retryLimit (s : State) (l : LampId) (sets : Nat) : Nat :=
  if sets = 0 then s.lampSetting l .firstSetRetries else s.lampSetting l .runSetRetries

/-- A strike failure (07, R122). -/
def strikeFailure (l : LampId) (s : State) : State :=
  match s.lamp l with
  | none => s
  | some x =>
    let delay := 1000 * s.lampSetting l .retryDelay
    let maxSets := s.lampSetting l .maxSets
    if x.attempts + 1 < s.retryLimit l x.sets then
      placeLamp l .quench
        (s.modLamp l fun x =>
          { x with state := .retryWait, strikeTimer := none, attempts := x.attempts + 1, waitTimer := s.timer delay })
    else if x.sets + 1 < maxSets then
      placeLamp l .quench
        (s.modLamp l fun x =>
          { x with state := .longWait, strikeTimer := none, attempts := 0, sets := x.sets + 1,
                   waitTimer := s.timer (delay * s.lampSetting l .longMult) })
    else
      enterDead l (s.modLamp l fun x => { x with attempts := 0, sets := maxSets, strikeTimer := none })

/-- The dropout itself (07, R125): the lamp leaves LIT with a QUENCH placed and dropouts counted, for RETRY_WAIT or,
at the third in LIMITED mode (coded 1), DEAD. -/
def dropoutLamp (l : LampId) (s : State) : State :=
  match s.lamp l with
  | none => s
  | some x =>
    let n := min 255 (x.dropouts + 1)
    if s.lampSetting l .dropoutMode = 1 ∧ 3 ≤ n then
      enterDead l (s.modLamp l fun x => { x with dropouts := n, clearTimer := none })
    else
      placeLamp l .quench
        (s.modLamp l fun x =>
          { x with state := .retryWait, dropouts := n, clearTimer := none,
                   waitTimer := s.timer (1000 * s.lampSetting l .retryDelay) })

/-- Out by OVERTEMP from LIT or STRIKING, no failure counted (07, R126). -/
def overtempOut (l : LampId) (s : State) : State :=
  placeLamp l .quench
    (s.modLamp l fun x => { x with state := .off, cool := 1000, strikeTimer := none, clearTimer := none })

/-- The arming values of a machine (07, R133): a DEAD lamp keeps its state, counts, flags and index. -/
def Lamp.armed (x : Lamp) : Lamp :=
  if x.state = .dead then
    { x with strikeTimer := none, waitTimer := none, clearTimer := none, cmd := none }
  else
    { x with state := .off, wanted := false, unconfirmed := true, cool := 1000, attempts := 0, sets := 0,
             dropouts := 0, strikeTimer := none, waitTimer := none, clearTimer := none, cmd := none }

/-- A machine that becomes ungoverned (07, R132). -/
def Lamp.ungoverned (x : Lamp) : Lamp :=
  { x with
    state := match x.state with
      | .striking => .off
      | .retryWait => .off
      | .longWait => .off
      | st => st
    strikeTimer := none
    waitTimer := none
    clearTimer := none }

/-- A machine that begins afresh (07, R116), with the cooling timer it is given (log 30). -/
def Lamp.fresh (station : Nat) (bank : BankId) (slot : Nat) (cool : Timer) : Lamp :=
  { station := station, bank := bank, slot := slot, state := .off, wanted := false, unconfirmed := false,
    adopted := false, cool := 1000, attempts := 0, sets := 0, dropouts := 0, strikeTimer := none, waitTimer := none,
    clearTimer := none, coolTimer := cool, cmd := none }

/-- A lamp that becomes governed otherwise than by arming (07, R132): its unconfirmed flag is cleared and it acts on
its wanted-lit flag. -/
def becomeGoverned (l : LampId) (s : State) : State :=
  let s := s.modLamp l fun x => { x with unconfirmed := false }
  match s.lamp l with
  | none => s
  | some x => if x.state = .lit ∧ x.wanted = false then putOutLit l s else strikePath l s

/-- The cooling step's new index (07, R129). -/
def coolStep (lit : Bool) (t friction damping inertia warmShift : Nat) : Nat :=
  if lit then min 1000 (t + max 1 ((1000 - t) / 2 ^ warmShift))
  else t - max 1 ((friction + damping * t / 1024) / inertia)

end Sys2Proof.Machine
end

