-- ==== Sys2Proof/Machine/Programs.lean ====
section
/-! DEFINITION. Sequence programs and the wiper (06): starting and abandoning programs, the wipe-interval timer,
supervision, and the blank flag's clearing with the end of a blank (03, R44). -/

namespace Sys2Proof.Machine

/-- Sf becomes unseeded and Sn absent, and the warm check FAIL (03, R44, R45, R56; log 16). -/
def Tracker.unseed (t : Tracker) : Tracker :=
  { t with sf := none, sn := none, warm := false }

/-- The blank flag is cleared; clearing a set flag is the end of a blank (03, R44). -/
def Tracker.clearBlank (t : Tracker) : Tracker :=
  if t.blank then { t.unseed with blank := false } else t

/-- A program step's delay (06, Table 6-1). -/
def Step.delay (x : Step) : Nat :=
  10 * 2 ^ x.k

/-- A program becomes running at step 0 and its step timer starts (06, R101). -/
def startProgram (b : BankId) (k : ProgKind) (s : State) : State :=
  s.modBank b fun x =>
    { x with running := some k, stepIdx := 0, stepTimer := s.timer ((x.program k).get 0).delay }

/-- The wipe-interval timer starts with WipeInterval, in minutes; 0 leaves it as it stands (06, R107; log 27). -/
def startInterval (b : BankId) (s : State) : State :=
  s.modBank b fun x =>
    if x.get .wipeInterval = 0 then x else { x with wipeInterval := s.timer (60000 * x.get .wipeInterval) }

/-- The WIPE program starts; in RUN the wipe-interval timer restarts with it (06, R107). -/
def startWipe (b : BankId) (s : State) : State :=
  let s' := startProgram b .wipe s
  if (s.bank b).state = .run then startInterval b s' else s'

/-- A running program stops without further steps, any blank is cleared, and wipe due is cleared (06, R105). -/
def Bank.abandon (x : Bank) : Bank :=
  { x with running := none, stepTimer := none, wipeDue := false, tracker := x.tracker.clearBlank }

/-- Supervision stops without a result and the wiper slot is emptied (06, R113, R111). -/
def Bank.stopWiper (x : Bank) : Bank :=
  { x with supervision := .idle, wipeLimit := none, wiperSlot := none }

/-- A wiper-start step (06, R111, R112): START placed and supervision begun, when the bank has a wiper station. -/
def wiperStart (b : BankId) (s : State) : State :=
  match (s.bank b).wiperStation with
  | none => s
  | some st =>
    placeWiper b st
      (s.modBank b fun x => { x with supervision := .started, wipeLimit := s.timer (1000 * x.get .wipeLimit) })

/-- A supervised run succeeds (06, R112). -/
def Bank.wipeOk (x : Bank) : Bank :=
  { x with supervision := .idle, wipeLimit := none, lastWipe := .ok }

/-- A supervised run fails and WIPER_FAULT is raised (06, R112). -/
def wipeFails (b : BankId) (s : State) : State :=
  raise .wiperFault b.1
    (s.modBank b fun x => { x with supervision := .idle, wipeLimit := none, lastWipe := .fault })

/-- A position report reaches supervision (06, R112). -/
def wiperReport (b : BankId) (w : WiperPos) (s : State) : State :=
  match (s.bank b).supervision, w with
  | .idle, _ => s
  | .started, .parked => s
  | .started, .moving => s.modBank b fun x => { x with supervision := .moving }
  | .started, .jammed => wipeFails b s
  | .moving, .parked => s.modBank b Bank.wipeOk
  | .moving, .moving => s
  | .moving, .jammed => wipeFails b s

/-- A step's lamp set applied whole to the installed lamps (06, R103). -/
def applyLampSet (b : BankId) (m : Byte) (s : State) : State :=
  forEach (s.installed b) (fun l s =>
    match s.lamp l with
    | some x => setWanted (m.getLsbD x.slot) l s
    | none => s) s

/-- A step's blank field (06, R102; 03, R44). -/
def applyBlank (b : BankId) (op : BlankOp) (s : State) : State :=
  match op with
  | .set => s.modBank b fun x => x.setTracker fun t => { t with blank := true }
  | .clear => s.modBank b fun x => x.setTracker Tracker.clearBlank
  | .keep => s

/-- The steps a program runs: up to and including the first marked last (06, R106). -/
def runSteps (p : Vector Step 8) : List Step :=
  let l := (List.finRange 8).map fun i => p.get i
  l.takeWhile (fun x => !x.last) ++ ((l.dropWhile fun x => !x.last).take 1)

/-- The lamp set of the latest run step that carries one (06, R106). -/
def finalSet (p : Vector Step 8) : Option Byte :=
  (runSteps p).foldl (fun r x => match x.set with
    | some m => some m
    | none => r) none

end Sys2Proof.Machine
end

