-- ==== Sys2Proof/Machine/Tracking.lean ====
section
/-! DEFINITION. The intensity tracker's arithmetic (03): filter, normalisation, sag states, reference and thresholds,
what a change of bank state does to it (R54), OUTPUT_LOW and the forced wipe it requests (R55; 06, R109). -/

namespace Sys2Proof.Machine

/-- sf + sign(v − sf) × (|v − sf| >> shift): the step of the filter and of the reference (03, R43, R49). -/
def moveToward (x v shift : Nat) : Nat :=
  if x ≤ v then x + (v - x) / 2 ^ shift else x - (x - v) / 2 ^ shift

/-- Sf after a sample (03, R43). -/
def filtered (sf : Option Nat) (v shift : Nat) : Nat :=
  match sf with
  | none => v
  | some x => moveToward x v shift

/-- Sn = floor(Sf × 1000 / applied demand) (03, R46). -/
def normalised (sf applied : Nat) : Nat :=
  sf * 1000 / applied

/-- The enter test: (Sref − Sn) × 256 ≥ Sref × SagPct (03, section 3.7). -/
def enterTest (sref sn sagPct : Nat) : Bool :=
  (sref : Int) * sagPct ≤ ((sref : Int) - sn) * 256

/-- ExitPct = floor(SagPct × (256 − SagHys) / 256) (03, section 3.7). -/
def exitPct (sagPct sagHys : Nat) : Nat :=
  sagPct * (256 - sagHys) / 256

/-- The exit test: (Sref − Sn) × 256 < Sref × ExitPct (03, section 3.7). -/
def exitTest (sref sn pct : Nat) : Bool :=
  ((sref : Int) - sn) * 256 < (sref : Int) * pct

/-- Table 3-5. -/
def sagStep (sag : SagState) (enter exit : Bool) (sagEnter sagExit : Nat) : SagState :=
  match sag with
  | .clear => if enter then (if sagEnter ≤ 1 then .active else .entering 1) else .clear
  | .entering n => if enter then (if sagEnter ≤ n + 1 then .active else .entering (n + 1)) else .clear
  | .active => if exit then (if sagExit ≤ 1 then .clear else .leaving 1) else .active
  | .leaving n => if exit then (if sagExit ≤ n + 1 then .clear else .leaving (n + 1)) else .active

/-- The SAG condition holds in ACTIVE and LEAVING (03, R53). -/
def SagState.holds : SagState → Bool
  | .clear => false
  | .entering _ => false
  | .active => true
  | .leaving _ => true

/-- The fall that halts the reference: HaltPct not 0 and (Sref − Sn) × 256 ≥ Sref × HaltPct (03, R49). -/
def haltTest (sref sn haltPct : Nat) : Bool :=
  haltPct ≠ 0 && enterTest sref sn haltPct

/-- The warm check: Sn × 256 ≥ Expected × WarmPct (03, R56). -/
def warmTest (sn expected warmPct : Nat) : Bool :=
  expected * warmPct ≤ sn * 256

/-- The output-low test: Sref × 256 < Expected × LowPct (03, R55). -/
def lowTest (sref expected lowPct : Nat) : Bool :=
  sref * 256 < expected * lowPct

/-- WARMING or RUN: the states in which Sn is kept (03, R46). -/
def BankState.warmOrRun (st : BankState) : Bool :=
  st = .warming || st = .run

/-- What a change of bank state from `a` to `c` does to the tracker (03, R54). -/
def Tracker.onState (a c : BankState) (t : Tracker) : Tracker :=
  let t := if a = .run ∧ c ≠ .run then
      { t with sref := none, reseed := false, sag := .clear, sagTimer := none } else t
  let t := if a.warmOrRun ∧ !c.warmOrRun then { t with sn := none, warm := false } else t
  let t := if c = .warming then { t with warm := false } else t
  if c = .run then { t with reseed := true, warm := false } else t

/-- The reference takes a level, or becomes unseeded; the sag ends and its timer stops (03, R48, R52). -/
def Tracker.takeLevel (t : Tracker) (level : Option Nat) (reseed : Bool) : Tracker :=
  { t with sref := level, reseed := reseed, sag := .clear, sagTimer := none }

/-- The bank is RUN with a seeded reference below Expected times LowPct (03, R55). -/
def Bank.outputLow (x : Bank) : Bool :=
  x.state = .run && match x.tracker.sref with
    | some r => lowTest r (x.get .expected) (x.get .lowPct)
    | none => false

/-- A forced wipe request is taken when the bank is RUN, no program runs and the owner is not dormant; otherwise it
leaves no trace (06, R109). -/
def forcedWipe (b : BankId) (s : State) : State :=
  if (s.bank b).state = .run ∧ (s.bank b).running = none ∧ s.bankGoverned b then startWipe b s else s

/-- OUTPUT_LOW evaluated and reported; each beginning requests a forced wipe (03, R55). -/
def judgeOutputLow (b : BankId) (s : State) : State :=
  let low := (s.bank b).outputLow
  let s' := report .outputLow b.1 low s
  if low && !s.holds .outputLow b.1 then forcedWipe b s' else s'

/-- The SAG condition as the sag state has it (03, R53). -/
def judgeSag (b : BankId) (s : State) : State :=
  report .sag b.1 (s.bank b).tracker.sag.holds s

end Sys2Proof.Machine
end

