-- ==== Sys2Proof/Machine/Banks.lean ====
section
/-! DEFINITION. Bank state changes (05, section 5.6), each without the staging review that follows it: the tracker is
told (03, R54), the conditions of the bank are judged anew, and timers, programs and the start order list move. -/

namespace Sys2Proof.Machine

/-- The bank takes a state. Its tracker is told, SAG and OUTPUT_LOW cease at a departure from RUN, the wipe-interval
timer and wipe due end with RUN (06, R107, R108), and BANK_FAULT and INTENSITY_STALE are judged. -/
def setBankState (b : BankId) (st : BankState) (s : State) : State :=
  let old := (s.bank b).state
  if old = st then s
  else
    let s := s.modBank b fun x =>
      { x with
        state := st
        tracker := x.tracker.onState old st
        wipeInterval := if old = .run then none else x.wipeInterval
        wipeDue := if old = .run then false else x.wipeDue }
    let s := if old = .run then report .outputLow b.1 false (judgeSag b s) else s
    judgeBank b s

/-- The bank leaves its channel's start order list (05, R87). -/
def unlist (b : BankId) (s : State) : State :=
  match (s.bank b).owner with
  | some ch => s.modChan ch fun c => { c with startList := c.startList.filter (· ≠ b) }
  | none => s

/-- The bank joins its channel's start order list at the end (05, R87). -/
def enlist (ch : ChanId) (b : BankId) (s : State) : State :=
  s.modChan ch fun c => { c with startList := c.startList ++ [b] }

/-- Makes every installed lamp of the bank wanted or unwanted. -/
def wantAll (w : Bool) (b : BankId) (s : State) : State :=
  forEach (s.installed b) (setWanted w) s

/-- Entry to WARMING: the warm-limit timer starts with WarmLimit (05, R95). -/
def enterWarming (b : BankId) (s : State) : State :=
  (setBankState b .warming s).modBank b fun x =>
    { x with warmTimer := s.timer (1000 * x.get .warmLimit) }

/-- Entry to RUN: the warm-limit timer stops and the wipe-interval timer starts (05, R95; 06, R107). -/
def enterRun (b : BankId) (s : State) : State :=
  startInterval b ((setBankState b .run s).modBank b fun x => { x with warmTimer := none })

/-- Entry to QUENCHING: the running program is abandoned, the blank cleared, the bank leaves the list and starts its
QUENCH program (05, R97). -/
def enterQuenching (b : BankId) (s : State) : State :=
  startProgram b .quench
    (unlist b ((setBankState b .quenching s).modBank b fun x => { x.abandon with warmTimer := none }))

/-- Entry to FAULTED (05, R96), but for the stage-up request. -/
def enterFaulted (b : BankId) (s : State) : State :=
  (unlist b (wantAll false b
    ((setBankState b .faulted s).modBank b fun x => { x.abandon with warmTimer := none }))).modBank b fun x =>
      { x with faultTimer := s.timer (1000 * x.get .faultRest) }

/-- Entry to LOCKED (05, R97), but for the stage-up request. -/
def enterLocked (b : BankId) (s : State) : State :=
  unlist b (wantAll false b
    ((setBankState b .locked s).modBank b fun x =>
      { x.abandon.stopWiper with warmTimer := none, faultTimer := none, wipeInterval := none }))

/-- Entry to DARK from QUENCHING, FAULTED or LOCKED (05, R96, R97). -/
def enterDark (b : BankId) (s : State) : State :=
  (setBankState b .dark s).modBank b fun x => { x with faultTimer := none }

/-- What arming and a warm restart make of a bank that is not LOCKED (05, R84, R98; 06, R114). -/
def darkenBank (b : BankId) (s : State) : State :=
  if (s.bank b).state = .locked then s
  else (setBankState b .dark s).modBank b fun x =>
    { x.abandon.stopWiper with warmTimer := none, faultTimer := none, wipeInterval := none }

/-- The tracker takes its reset state (03, R58). -/
def resetTracker (b : BankId) (s : State) : State :=
  s.modBank b fun x => { x with tracker := Tracker.reset }

/-- What entry to UNARMED makes of a bank (05, R82): program abandoned, warm-limit and wipe-interval timers and
supervision stopped, wiper slot emptied; its state is kept. -/
def ungovernBank (b : BankId) (s : State) : State :=
  s.modBank b fun x => { x.abandon.stopWiper with warmTimer := none, wipeInterval := none }

end Sys2Proof.Machine
end

