-- ==== Sys2Proof/Machine/Staging.lean ====
section
/-! DEFINITION. Staging (05, section 5.5): selection, stage-up, stage-down, the staging review in each mode, stage-up
requests, and the bank transitions that make a review (05, section 5.6): faulting, running, adoption, the judgment of
a lit count, the re-check of a FAULTED bank, LOCK and UNLOCK. -/

namespace Sys2Proof.Machine

/-! ### Selection (R91) -/

/-- The DARK banks a channel owns (05, R91). -/
def State.darkBanks (s : State) (ch : ChanId) : List BankId :=
  (s.ownedBanks ch).filter fun b => (s.bank b).state = .dark

/-- A list bank is STRIKING or WARMING (05, R92). -/
def State.lighting (s : State) (ch : ChanId) : Bool :=
  (s.chan ch).startList.any fun b => (s.bank b).state = .striking || (s.bank b).state = .warming

/-- Every installed lamp has a cooling index at or below the channel's RestrikeLevel (05, R91). -/
def State.bankCool (s : State) (ch : ChanId) (b : BankId) : Bool :=
  (s.installed b).all fun l => match s.lamp l with
    | some x => x.cool ≤ (s.chan ch).get .restrikeLevel
    | none => true

/-- The bank a stage-up takes: the first cooled DARK bank in position order, else the first DARK bank (05, R91). -/
def State.selectBank (s : State) (ch : ChanId) : Option BankId :=
  match s.firstPlaced ((s.darkBanks ch).filter (s.bankCool ch)) with
  | some b => some b
  | none => s.firstPlaced (s.darkBanks ch)

/-! ### Stage actions -/

/-- A stage-up: the selected bank abandons a WIPE, enters STRIKING, joins the list and starts its STRIKE program
(05, R91; 06, R101). A stage-up taken ends STAGE_EXHAUSTED (05, R91; log 23). With no DARK bank nothing moves. -/
def stageUp (ch : ChanId) (s : State) : State :=
  match s.selectBank ch with
  | none => s
  | some b =>
    report .stageExhausted ch.1 false
      (startProgram b .strike
        (enlist ch b ((setBankState b .striking s).modBank b Bank.abandon)))

/-- The last bank of the list enters QUENCHING (05, R92, R93). -/
def stageDown (ch : ChanId) (s : State) : State :=
  match (s.chan ch).startList.getLast? with
  | none => s
  | some b => enterQuenching b s

/-- Both staging counters become 0. -/
def zeroCounters (ch : ChanId) (s : State) : State :=
  s.modChan ch fun c => { c with upCount := 0, downCount := 0 }

def State.noDark (s : State) (ch : ChanId) : Bool :=
  (s.darkBanks ch).isEmpty

/-- Step 1 of R92: pending requests are served while DARK banks last. The fuel is the number of banks. -/
def servePending (ch : ChanId) : Nat → State → State
  | 0, s => s
  | n + 1, s =>
    if 0 < (s.chan ch).pendingUp ∧ !s.noDark ch then
      servePending ch n
        (zeroCounters ch ((stageUp ch s).modChan ch fun c => { c with pendingUp := c.pendingUp - 1 }))
    else s

/-- The bank floor calls for a stage-up (05, R92, step 2). -/
def State.belowFloor (s : State) (ch : ChanId) : Bool :=
  (s.chan ch).startList.length < (s.chan ch).get .minBanks && !s.lighting ch

/-- Saturation calls for a stage-up (05, R92, step 3). -/
def State.saturated (s : State) (ch : ChanId) : Bool :=
  (s.chan ch).get .stageUpPasses ≤ (s.chan ch).upCount && !s.lighting ch

/-- A stage-down is called for (05, R92, step 4). -/
def State.surplus (s : State) (ch : ChanId) : Bool :=
  (s.chan ch).get .stageDownPasses ≤ (s.chan ch).downCount && !s.lighting ch &&
    (s.chan ch).get .minBanks < (s.chan ch).startList.length

/-- A stage-up of steps 2 and 3, taken where a DARK bank exists. -/
def stageUpIf (ch : ChanId) (called : Bool) (s : State) : State :=
  if called && !s.noDark ch then zeroCounters ch (stageUp ch s) else s

/-- The AUTO review's four steps (05, R92). -/
def autoSteps (ch : ChanId) (s : State) : State :=
  let s := servePending ch 12 s
  let s := stageUpIf ch (s.belowFloor ch) s
  let s := stageUpIf ch (s.saturated ch) s
  if s.surplus ch then
    zeroCounters ch (stageDown ch (s.modChan ch fun c => { c with pendingUp := 0 }))
  else s

/-- In AUTO a stage-up is called for and no DARK bank exists (05, R91, R92). -/
def State.autoExhausted (s : State) (ch : ChanId) : Bool :=
  s.noDark ch && (0 < (s.chan ch).pendingUp || s.belowFloor ch || s.saturated ch)

/-- The MANUAL review's moves toward N (05, R93). -/
def manualSteps (ch : ChanId) (s : State) : State :=
  let n := (s.chan ch).manualCount
  let len := (s.chan ch).startList.length
  if len < n then (if !s.lighting ch && !s.noDark ch then stageUp ch s else s)
  else if n < len ∧ !(s.ownedBanks ch).any (fun b => (s.bank b).state = .quenching) then stageDown ch s
  else s

/-- A staging review (05, R88, Table 5-4): the actions of the mode, then STAGE_EXHAUSTED as the state they leave has
it. In EDIT, in UNARMED and while the adoption window runs it takes no action. That a request which step 1 of AUTO
finds no DARK bank for, and whose count step 4 of the same review makes 0, leaves STAGE_EXHAUSTED not holding, is the
model's choice (log 45). -/
def review (ch : ChanId) (s : State) : State :=
  if (s.chan ch).adoption.isSome then s
  else match (s.chan ch).mode with
    | .auto =>
      let s := autoSteps ch s
      report .stageExhausted ch.1 (s.autoExhausted ch) s
    | .manual =>
      let s := manualSteps ch s
      report .stageExhausted ch.1
        (s.noDark ch && (s.chan ch).startList.length < (s.chan ch).manualCount) s
    | .full =>
      report .stageExhausted ch.1 false (if !s.lighting ch && !s.noDark ch then stageUp ch s else s)
    | .standdown =>
      report .stageExhausted ch.1 false (forEach (s.chan ch).startList enterQuenching s)
    | .edit => s
    | .unarmed => s

/-- The review that a change of state of a bank makes at its owner (05, R88). -/
def reviewOwner (b : BankId) (s : State) : State :=
  match (s.bank b).owner with
  | some ch => review ch s
  | none => s

/-- A stage-up request reaches a channel (05, R90): counted, saturating at 4, in AUTO, in EDIT and in every armed mode
during the adoption window (log 34), and a review follows; otherwise discarded. -/
def requestStageUp (ch : ChanId) (s : State) : State :=
  if (s.chan ch).mode = .auto ∨ (s.chan ch).mode = .edit ∨
      ((s.chan ch).adoption.isSome ∧ (s.chan ch).mode ≠ .unarmed) then
    review ch (s.modChan ch fun c => { c with pendingUp := min 4 (c.pendingUp + 1) })
  else s

/-- A stage-up request to the owner of a bank. -/
def requestForBank (b : BankId) (s : State) : State :=
  match (s.bank b).owner with
  | some ch => requestStageUp ch s
  | none => s

/-! ### Bank transitions with their reviews (R95 to R97) -/

/-- The bank enters FAULTED (05, R96). Two reviews are then due (05, R88): the stage-up request and its review come
first, and then the review of the bank's change of state (DESIGN CHOICE, log 40). -/
def faultBank (b : BankId) (s : State) : State :=
  let was := s.listed b
  let s := enterFaulted b s
  reviewOwner b (if was then requestForBank b s else s)

/-- The bank enters RUN and its channel is reviewed (05, R95). -/
def runBank (b : BankId) (s : State) : State :=
  reviewOwner b (enterRun b s)

/-- The bank enters DARK and its channel is reviewed (05, R96, R97). -/
def darkBank (b : BankId) (s : State) : State :=
  reviewOwner b (enterDark b s)

/-- The bank is adopted (05, R85): WARMING with its warm limit, in the list, all its lamps wanted. -/
def adoptBank (ch : ChanId) (b : BankId) (s : State) : State :=
  review ch (wantAll true b (enlist ch b (enterWarming b s)))

/-- A RUN bank whose lit count lies below MinLampsLit enters FAULTED (05, R96). -/
def faultIfShort (b : BankId) (s : State) : State :=
  if (s.bank b).state = .run ∧ s.litCount b < (s.bank b).get .minLampsLit then faultBank b s else s

/-- A changed lit count is judged in RUN and in WARMING (05, R95, R96). -/
def judgeBurning (b : BankId) (s : State) : State :=
  match (s.bank b).state with
  | .run => faultIfShort b s
  | .warming => if (s.bank b).tracker.warm ∧ (s.bank b).get .minLampsLit ≤ s.litCount b then runBank b s else s
  | .dark => s
  | .striking => s
  | .quenching => s
  | .faulted => s
  | .locked => s

/-- The lamp is LIT by an adoption. -/
def State.adoptedLit (s : State) (l : LampId) : Bool :=
  match s.lamp l with
  | some x => x.state = .lit && x.adopted
  | none => false

/-- Each lamp of a standing-down channel that was adopted as LIT is made unwanted at once (05, R85), and then each RUN
or WARMING bank whose lit count this has changed is judged, once (05, R94 to R96; log 17). -/
def putOutChannel (ch : ChanId) (s : State) : State :=
  forEach (s.ownedBanks ch) (fun b out => if out.litCount b = s.litCount b then out else judgeBurning b out)
    (forEach (s.channelLamps ch) (fun l s => if s.adoptedLit l then putOutLit l s else s) s)

/-- The channel's adoption window runs, and it stands down, or is in EDIT from STANDDOWN (05, R85). -/
def State.standingDown (s : State) (ch : ChanId) : Bool :=
  (s.chan ch).adoption.isSome && (s.chan ch).effMode = .standdown

/-- The adoption window runs and the DARK bank has MinLampsLit lamps lit (05, R85). A change that leaves the count at or
above MinLampsLit is taken to reach it, a fall included (DESIGN CHOICE, log 41). -/
def State.reachesLit (s : State) (ch : ChanId) (b : BankId) : Bool :=
  (s.bank b).state = .dark && (s.chan ch).adoption.isSome && (s.bank b).get .minLampsLit ≤ s.litCount b

/-- The bank controller judges a change of its lit count, a fall as well as a rise (05, R85, R95, R96; log 41); not
while dormant (R82). -/
def judgeLit (b : BankId) (s : State) : State :=
  match (s.bank b).owner with
  | none => s
  | some ch =>
    if (s.chan ch).dormant then s
    else if s.reachesLit ch b then (if s.standingDown ch then putOutChannel ch s else adoptBank ch b s)
    else judgeBurning b s

/-- A FAULTED bank whose fault rest has expired is re-checked (05, R96). -/
def recheckFaulted (b : BankId) (s : State) : State :=
  if (s.bank b).state = .faulted ∧ (s.bank b).faultTimer = none ∧
      (s.bank b).get .minLampsLit ≤ s.nonDead b then darkBank b s
  else s

/-- BANK ACTION LOCK (05, R97), the request and its review before the review of the bank's change of state (DESIGN
CHOICE, log 40). -/
def lockBank (b : BankId) (s : State) : State :=
  if (s.bank b).state = .locked then s
  else
    let was := s.listed b
    let s := enterLocked b s
    reviewOwner b (if was then requestForBank b s else s)

/-- BANK ACTION UNLOCK (05, R97). -/
def unlockBank (b : BankId) (s : State) : State :=
  if (s.bank b).state = .locked then darkBank b s else s

end Sys2Proof.Machine
end

