-- ==== Sys2Proof/Machine/Sampling.lean ====
section
/-! DEFINITION. The intensity tracker's events (03): a sample (R42), the sag timer's expiry (R52), and the intensity
point going STALE or changing (R45). -/

namespace Sys2Proof.Machine

/-- The applied demand of the bank's owning channel, none for an unassigned bank (03, R46). -/
def State.appliedOf (s : State) (b : BankId) : Option Nat :=
  match (s.bank b).owner with
  | some ch => some (s.chan ch).power.applied
  | none => none

/-- A sample in WARMING: Sn and the warm check, whose change the bank controller judges (03, R42 step 3, R56). -/
def warmSample (b : BankId) (sn : Nat) (s : State) : State :=
  let x := s.bank b
  let warm := warmTest sn (x.get .expected) (x.get .warmPct)
  let s' := s.modBank b fun x => x.setTracker fun t => { t with sn := some sn, warm := warm }
  if warm = x.tracker.warm then s' else judgeLit b s'

/-- The tracker after a RUN sample that neither seeds the reference nor finds it unseeded: steps 5 and 6 of R42. -/
def Bank.runTracker (x : Bank) (sref sn : Nat) (sagTimeout : Timer) : Tracker :=
  let t := x.tracker
  let sag := sagStep t.sag (enterTest sref sn (x.get .sagPct))
    (exitTest sref sn (exitPct (x.get .sagPct) (x.get .sagHys))) (x.get .sagEnter) (x.get .sagExit)
  let halted := t.settleTimer.isSome || sag ≠ .clear || haltTest sref sn (x.get .haltPct)
  { t with
    sn := some sn
    sag := sag
    sref := some (if halted then sref else moveToward sref sn (x.get .refShift))
    sagTimer := if sag = .clear then none
      else if sag.holds && !t.sag.holds then sagTimeout
      else t.sagTimer }

/-- The sag timer's start at an onset: SagTimeout in seconds, 0 for none (03, R52). -/
def State.sagStart (s : State) (b : BankId) : Timer :=
  if (s.bank b).get .sagTimeout = 0 then none else s.timer (1000 * (s.bank b).get .sagTimeout)

/-- A sample in RUN with the reference seeded and no seeding done: sag, reference, OUTPUT_LOW, and at an onset with
SagStage on a stage-up request (03, R42 steps 5 to 7, R50, R53). -/
def runStep (b : BankId) (sref sn : Nat) (s : State) : State :=
  let x := s.bank b
  let t := x.runTracker sref sn (s.sagStart b)
  let s' := judgeOutputLow b (judgeSag b (s.modBank b fun x => x.setTracker fun _ => t))
  if (t.sag.holds && !x.tracker.sag.holds) && x.get .sagStage = 0 then requestForBank b s' else s'

/-- A sample in RUN (03, R42 steps 4 to 7). -/
def runSample (b : BankId) (sn : Nat) (s : State) : State :=
  let t := (s.bank b).tracker
  if (t.sref = none ∨ t.reseed) ∧ t.settleTimer = none then
    judgeOutputLow b (judgeSag b
      (s.modBank b fun x => x.setTracker fun t => { t.takeLevel (some sn) false with sn := some sn }))
  else match t.sref with
    | none => judgeOutputLow b (s.modBank b fun x => x.setTracker fun t => { t with sn := some sn })
    | some r => runStep b r sn s

/-- The tracker takes a sample (03, R42). -/
def takeSample (b : BankId) (v : Nat) (s : State) : State :=
  let x := s.bank b
  if x.tracker.blank then s
  else
    let sf := filtered x.tracker.sf v (x.get .filtShift)
    let s := s.modBank b fun x => x.setTracker fun t => { t with sf := some sf }
    match s.appliedOf b with
    | none => s
    | some d =>
      match x.state with
      | .warming => warmSample b (normalised sf d) s
      | .run => runSample b (normalised sf d) s
      | .dark => s
      | .striking => s
      | .quenching => s
      | .faulted => s
      | .locked => s

/-- The sag timer runs out: the fallen level is accepted (03, R52). -/
def acceptLevel (b : BankId) (s : State) : State :=
  judgeOutputLow b
    (raise .stepAccepted b.1
      (judgeSag b (s.modBank b fun x => x.setTracker fun t => t.takeLevel t.sn true)))

/-- The tracker loses Sf, as when the intensity point goes STALE or changes (03, R45). -/
def unseedBank (b : BankId) (s : State) : State :=
  s.modBank b fun x => x.setTracker Tracker.unseed

/-- A RUN bank whose intensity point goes STALE sends a stage-up request (02, R33; 05, R90). -/
def requestIfRun (b : BankId) (s : State) : State :=
  if (s.bank b).state = .run then requestForBank b s else s

/-- The bank is told of its intensity point going STALE (02, R33; 03, R45). -/
def intensityStale (b : BankId) (s : State) : State :=
  requestIfRun b (unseedBank b s)

end Sys2Proof.Machine
end

