-- ==== Sys2Proof/Machine/PowerStage.lean ====
section
/-! DEFINITION. The power stage (04): the dose error, the control law of each mode, the rate limiter, the ballast code
and the code change. -/

namespace Sys2Proof.Machine

/-- e = clamp(Dtarget − D, −2000, +2000) (04, R61). -/
def doseError (dtarget d : Nat) : Int :=
  clampInt ((dtarget : Int) - d) (-2000) 2000

/-- Δ = truncate((Kp × (e − e_prev) + Ki × e) / 256) (04, R62). -/
def lawChange (kp ki : Nat) (e ePrev : Int) : Int :=
  ((kp : Int) * (e - ePrev) + (ki : Int) * e).tdiv 256

/-- RampDown (04, R63). DecelHalf on is coded 0. -/
def Channel.rampDown (c : Channel) : Nat :=
  if c.get .decelHalf = 0 then max 1 (c.get .rampUp / 2) else c.get .rampUp

/-- The rate limiter: Pd + clamp(P_raw − Pd, −RampDown, +RampUp) (04, R63). -/
def rateLimit (pd praw : Int) (down up : Nat) : Nat :=
  (pd + clampInt (praw - pd) (-(down : Int)) up).toNat

/-- The demand after a full pass with the error `e`, by the channel's mode (04, R62 to R66). -/
def Channel.nextDemand (c : Channel) (e : Int) : Nat :=
  let pmin : Int := c.get .pmin
  match c.mode with
  | .auto =>
    rateLimit c.power.pd
      (clampInt (c.power.pd + lawChange (c.get .kp) (c.get .ki) e c.power.ePrev) pmin 1000) c.rampDown (c.get .rampUp)
  | .manual => rateLimit c.power.pd (clampInt c.manualValue pmin 1000) c.rampDown (c.get .rampUp)
  | .full => 1000
  | .standdown => c.power.pd
  | .edit => c.power.pd
  | .unarmed => c.power.pd

/-- A bank whose lamps a code change reaches (04, R69). -/
def BankState.takesSet (st : BankState) : Bool :=
  st = .striking || st = .warming || st = .run

/-- A lamp entry a code change reaches: LIT, or with a STRIKE waiting (04, R69). -/
def Lamp.takesSet (x : Lamp) : Bool :=
  x.state = .lit || match x.cmd with
    | some (.strike _) => true
    | _ => false

/-- The settle timer restarts with SettleTime; 0 leaves it stopped (03, R47). -/
def restartSettle (b : BankId) (s : State) : State :=
  s.modBank b fun x => x.setTracker fun t =>
    { t with settleTimer := if x.get .settleTime = 0 then none else s.timer (x.get .settleTime) }

/-- A SET for one lamp entry of the channel, where R69 calls for it. -/
def setLampCode (code : Nat) (l : LampId) (s : State) : State :=
  match s.lamp l with
  | some x => if (s.bank x.bank).state.takesSet && x.takesSet then placeLamp l (.set code) s else s
  | none => s

/-- The code change (04, R69). -/
def changeCode (ch : ChanId) (code : Nat) (s : State) : State :=
  let s := s.modChan ch fun c => c.setPower fun p => { p with code := code, applied := p.pd }
  forEach (s.ownedBanks ch) restartSettle (forEach (s.channelLamps ch) (setLampCode code) s)

/-- The code for the present demand is worked out, and a code that differs from the current one makes a code change
(04, R61, R73). -/
def recode (ch : ChanId) (s : State) : State :=
  let c := s.chan ch
  let code := ballastCode c.ballastCurve c.power.pd
  if code = c.power.code then s else changeCode ch code s

/-- The power stage at a full pass: demand by the mode's law, e_prev, code (04, R61, R67). -/
def powerPass (ch : ChanId) (e : Int) (s : State) : State :=
  recode ch (s.modChan ch fun c =>
    { c with power := { c.power with pd := c.nextDemand e, ePrev := e } })

/-- The arming values of Table 4-6 (04, R74). -/
def Channel.armPower (c : Channel) : Channel :=
  { c with power := { pd := 1000, ePrev := 0, applied := 1000, code := (curveAt c.ballastCurve 7).y } }

end Sys2Proof.Machine
end

