-- ==== Sys2Proof/Machine/Passes.lean ====
section
/-! DEFINITION. The dose pass (01): flow, transmittance factor, bank doses, judgment, volume, pulse accrual and the
handing on, the frozen pass, the pulse line (10, R179), and the resets of the accounting state (01, Table 1-6). -/

namespace Sys2Proof.Machine

/-! ### Pulses (R17, R19; 10, R179) -/

/-- A pulse starts: the line goes high, the backlog loses 1, the width timer starts (10, R179). -/
def startPulse (ch : ChanId) (s : State) : State :=
  s.modChan ch fun c =>
    { c.setAcct (fun a => { a with backlog := a.backlog - 1 }) with
      pulsePhase := .high, pulseTimer := s.timer (c.get .pulseWidth) }

/-- Whole pulse volumes of the remainder turn into backlog (01, R17). -/
def Accounting.toBacklog (a : Accounting) (pulseVolume : Nat) : Accounting :=
  { a with
    pulseRem := a.pulseRem % pulseVolume
    backlog := min 255 (a.backlog + a.pulseRem / pulseVolume) }

/-- Off-spec litres join the pulse remainder, whole pulses join the backlog, and a backlog that becomes non-zero on an
IDLE line starts a pulse (01, R17, R19; 10, R179). -/
def accrue (ch : ChanId) (litres : Nat) (s : State) : State :=
  let old := (s.chan ch).acct.backlog
  let s := s.modChan ch fun c =>
    c.setAcct fun a => { a with pulseRem := a.pulseRem + litres }.toBacklog (c.get .pulseVolume)
  if old = 0 ∧ 0 < (s.chan ch).acct.backlog ∧ (s.chan ch).pulsePhase = .idle then startPulse ch s else s

/-! ### Volume (R14 to R16) -/

/-- Largest total (01, R15). -/
def maxLitres : Nat := 4294967295

/-- Volume into the totals (01, R15). -/
def Accounting.addTotal (a : Accounting) (v : Nat) : Accounting :=
  { a with
    totalL := min maxLitres (a.totalL + (a.totalMl + v) / 1000)
    totalMl := (a.totalMl + v) % 1000 }

/-- Volume into the off-spec totals (01, R16). -/
def Accounting.addOff (a : Accounting) (v : Nat) : Accounting :=
  { a with
    offL := min maxLitres (a.offL + (a.offMl + v) / 1000)
    offMl := (a.offMl + v) % 1000 }

/-- Elapsed time since the last pass (01, R14). -/
def State.elapsed (s : State) (ch : ChanId) : Nat :=
  match (s.chan ch).acct.lastPass with
  | some t => min 5000 (s.now - t)
  | none => 0

/-- The volume stage of a pass of either kind, at the measured flow `qm` (01, R14 to R17). -/
def volumeStage (ch : ChanId) (qm : Nat) (offSpec : Bool) (s : State) : State :=
  let v := qm * s.elapsed ch
  let carried := ((s.chan ch).acct.offMl + v) / 1000
  let s' := s.modChan ch fun c => c.setAcct fun a => { a.addTotal v with lastPass := some s.now }
  if offSpec then accrue ch carried (s'.modChan ch fun c => c.setAcct fun a => a.addOff v) else s'

/-! ### Flow, transmittance, doses (R6 to R10) -/

/-- The measured flow Qm (01, R6). -/
def State.measuredFlow (s : State) (ch : ChanId) : Nat :=
  if s.freshPoint (s.flowPoint ch) then min 30000 ((s.pointNum (s.flowPoint ch)).getD 0)
  else (s.chan ch).get .failFlow

/-- The flow stage marks the pass out-of-range (01, R6). -/
def State.flowOutOfRange (s : State) (ch : ChanId) : Bool :=
  !s.freshPoint (s.flowPoint ch) || (s.chan ch).get .qmax < s.measuredFlow ch

/-- The u of the UVT in use (02, R34). -/
def State.uvtNow (s : State) (ch : ChanId) : Nat :=
  match (s.chan ch).uvtUse with
  | .fresh => (s.pointNum (s.uvtPoint ch)).getD ((s.chan ch).get .failUvt)
  | .held u => u
  | .failsafe => (s.chan ch).get .failUvt

/-- The bank states that a pass may credit (01, R8). -/
def BankState.credited (st : BankState) : Bool :=
  st = .striking || st = .warming || st = .run || st = .quenching

/-- D_b (01, R8, R9). -/
def State.bankDose (s : State) (b : BankId) (f qd : Nat) : Nat :=
  let x := s.bank b
  match x.tracker.sf with
  | some sf =>
    if x.state.credited && s.freshPoint (s.intensityPoint b) then
      min 65535 (sf * f * x.get .kvol / (102400 * qd))
    else 0
  | none => 0

/-- The bank doses by position; 0 where no bank stands (01, R9). Where two banks hold one position, the
higher-numbered (log 29). -/
def State.dosesByPosition (s : State) (ch : ChanId) (f qd : Nat) : Vector Nat 4 :=
  build fun p => (s.ownedBanks ch).foldl
    (fun d b => if (s.bank b).get .position = p.1 then s.bankDose b f qd else d) 0

/-- D (01, R10). -/
def State.channelDose (s : State) (ch : ChanId) (f qd : Nat) : Nat :=
  min 65535 ((s.ownedBanks ch).map fun b => s.bankDose b f qd).sum

/-- The results a full pass computes before its volume stage. -/
structure PassResult where
  qm       : Nat
  dose     : Nat
  doses    : Vector Nat 4
  outRange : Bool
  offSpec  : Bool

/-- The stages of a full pass up to the judgment (01, R6 to R11). -/
def State.fullResult (s : State) (ch : ChanId) : PassResult :=
  let c := s.chan ch
  let qm := s.measuredFlow ch
  let qd := max qm (c.get .qmin)
  let f := uvtFactor c.uvtCurve (s.uvtNow ch)
  let d := s.channelDose ch f.1 qd
  let out := s.flowOutOfRange ch || f.2
  { qm := qm, dose := d, doses := s.dosesByPosition ch f.1 qd, outRange := out,
    offSpec := d < c.get .dtarget || out || (c.mode = .standdown && 0 < qm) }

/-- The accounting state as the judgment of a full pass leaves it (01, R9 to R12). -/
def Accounting.judged (a : Accounting) (r : PassResult) (dtarget : Nat) : Accounting :=
  { a with
    lastDose := r.dose
    bankDoses := r.doses
    outOfRange := r.outRange
    offSpec := r.offSpec
    doseLow := if r.dose < dtarget then min 255 (a.doseLow + 1) else 0 }

/-! ### Handing on (R20) and the passes -/

/-- The staging counters at a full pass (05, R89): in AUTO, not during the adoption window. -/
def Channel.moveCounters (c : Channel) (e : Int) : Channel :=
  if c.mode = .auto ∧ c.adoption = none then
    { c with
      upCount := if c.power.pd = 1000 ∧ 0 < e then min 255 (c.upCount + 1) else 0
      downCount := if c.power.pd ≤ c.get .stageDownLevel ∧ e < 0 then min 255 (c.downCount + 1) else 0 }
  else c

/-- A full pass (01, R5 to R20). -/
def fullPass (ch : ChanId) (s : State) : State :=
  let r := s.fullResult ch
  let dtarget := (s.chan ch).get .dtarget
  let e := doseError dtarget r.dose
  let s := s.modChan ch fun c => c.setAcct fun a => a.judged r dtarget
  let s := judgeOutOfRange ch (judgeDoseLow ch s)
  let s := powerPass ch e (volumeStage ch r.qm r.offSpec s)
  review ch (s.modChan ch fun c => c.moveCounters e)

/-- A frozen pass (01, R22). -/
def frozenPass (ch : ChanId) (s : State) : State :=
  volumeStage ch (s.measuredFlow ch) true
    (s.modChan ch fun c => c.setAcct fun a => { a with offSpec := true })

/-- A channel takes a pass of the kind its mode calls for; in UNARMED none (01, R3). -/
def takePass (ch : ChanId) (s : State) : State :=
  match (s.chan ch).mode with
  | .auto => fullPass ch s
  | .manual => fullPass ch s
  | .full => fullPass ch s
  | .standdown => fullPass ch s
  | .edit => frozenPass ch s
  | .unarmed => s

/-! ### Resets of the accounting state (R4, R23) -/

/-- The rows of Table 1-6 that arming, entry to UNARMED and a warm restart share; the fallback timer apart. -/
def Accounting.clear (a : Accounting) : Accounting :=
  { a with lastDose := 0, bankDoses := Vector.replicate 4 0, lastPass := none, outOfRange := false,
           offSpec := false, doseLow := 0 }

/-- The fallback timer starts with PassFallback (01, R4). -/
def startFallback (ch : ChanId) (s : State) : State :=
  s.modChan ch fun c => c.setAcct fun a => { a with fallback := s.timer (c.get .passFallback) }

def stopFallback (ch : ChanId) (s : State) : State :=
  s.modChan ch fun c => c.setAcct fun a => { a with fallback := none }

/-- The accounting state takes the shared values of Table 1-6, and the conditions they held cease (01, R23). -/
def clearAccounting (ch : ChanId) (s : State) : State :=
  report .outOfRange ch.1 false
    (report .doseLow ch.1 false (s.modChan ch fun c => c.setAcct Accounting.clear))

end Sys2Proof.Machine
end

