-- ==== Sys2Proof/Machine/Intake.lean ====
section
/-! DEFINITION. Point intake (02): the acceptance and scaling of sample items, freshness, the UVT in use, what a
change of freshness or of the serving entry does to each consumer, and the write of a point entry. -/

namespace Sys2Proof.Machine

/-! ### UVT in use (R34) -/

/-- The UVT in use takes a state, FRESH and FAILSAFE with the hold timer stopped, and UVT_STALE is judged. -/
def setUvt (ch : ChanId) (u : UvtUse) (hold : Timer) (s : State) : State :=
  judgeUvtStale ch (s.modChan ch fun c => { c with uvtUse := u, uvtHold := hold })

def uvtFresh (ch : ChanId) (s : State) : State :=
  setUvt ch .fresh none s

/-- FAILSAFE from FRESH or HELD (02, R34). -/
def uvtFailsafe (ch : ChanId) (s : State) : State :=
  setUvt ch .failsafe none s

/-- The channel's UVT point goes STALE with the given value (02, R34): HELD from FRESH for UvtHold seconds, or
FAILSAFE at once with UvtHold 0 or no value. -/
def uvtStale (ch : ChanId) (value : Option Nat) (s : State) : State :=
  let hold := (s.chan ch).get .uvtHold
  match (s.chan ch).uvtUse, value with
  | .fresh, some u => if hold = 0 then uvtFailsafe ch s else setUvt ch (.held u) (s.timer (1000 * hold)) s
  | .fresh, none => uvtFailsafe ch s
  | .held _, _ => s
  | .failsafe, _ => s

/-! ### Items (R28 to R32) -/

/-- The in-place entry that an item matches (02, R28). -/
def State.matchPoint (s : State) (src index : Nat) : Option PointId :=
  allPoints.find? fun p => match s.point p with
    | some x => x.cfg.station = src && x.cfg.index = index
    | none => false

def Targets.wiperRole : Targets → Bool
  | .flow _ => false
  | .uvt _ => false
  | .intensity _ => false
  | .wiper _ => true

/-- Whether an item is accepted (02, R29). -/
def PointCfg.accepts (c : PointCfg) (i : SampleItem) : Bool :=
  (i.quality = .good || i.quality = .suspect) && c.rawMin ≤ i.raw && i.raw ≤ c.rawMax &&
    (!c.targets.wiperRole || i.raw ≤ 2)

/-- value = clamp(floor(raw × gain / 4096) + offset, 0, 65535) (02, R30). -/
def scale (raw gain : Nat) (offset : Int) : Nat :=
  (clampInt (((raw * gain / 4096 : Nat) : Int) + offset) 0 65535).toNat

/-- Raw 0 PARKED, 1 MOVING, 2 JAMMED (02, R31). -/
def wiperOf (raw : Nat) : WiperPos :=
  if raw = 0 then .parked else if raw = 1 then .moving else .jammed

/-- The value of an accepted item (02, R30, R31). -/
def PointCfg.valueOf (c : PointCfg) (raw : Nat) : PointValue :=
  if c.targets.wiperRole then .pos (wiperOf raw) else .num (scale raw c.gain c.offset)

/-- The consumers of an entry are told of an acceptance (02, R32). -/
def tellAccepted (p : PointId) (c : PointCfg) (raw : Nat) (s : State) : State :=
  match c.targets with
  | .flow ch =>
    if s.flowPoint ch = some p then takePass ch (judgeFlowStale ch (stopFallback ch s)) else s
  | .uvt chs => forEach chs (fun ch s => if s.uvtPoint ch = some p then uvtFresh ch s else s) s
  | .intensity b =>
    if s.intensityPoint b = some p then
      takeSample b (scale raw c.gain c.offset) (judgeIntensityStale b s)
    else s
  | .wiper b => if s.wiperPoint b = some p then wiperReport b (wiperOf raw) s else s

/-- An accepted item reaches its entry and then the entry's consumers (02, R32). -/
def acceptItem (p : PointId) (x : Point) (i : SampleItem) (s : State) : State :=
  tellAccepted p x.cfg i.raw
    (s.setPoint p (some { x with
      value := some (x.cfg.valueOf i.raw), fresh := true, timer := s.timer x.cfg.timeout,
      quality := some i.quality, accepted := some s.now }))

/-- One sample item from station `src`, whole (02, R28, R29). -/
def intakeItem (src : Nat) (i : SampleItem) (s : State) : State :=
  match s.matchPoint src i.index with
  | none => s
  | some p =>
    match s.point p with
    | some x => if x.cfg.accepts i then acceptItem p x i s else s
    | none => s

/-- The channel whose pass an item triggers, judged on the state before the item (01, R3). -/
def State.passOf (s : State) (src : Nat) (i : SampleItem) : Option ChanId :=
  match s.matchPoint src i.index with
  | none => none
  | some p =>
    match s.point p with
    | some x =>
      match x.cfg.targets with
      | .flow ch =>
        if x.cfg.accepts i && s.flowPoint ch = some p && (s.chan ch).mode ≠ .unarmed then some ch else none
      | _ => none
    | none => none

/-- The items of a tapped SAMPLE in their order, with the channels that took passes (02, R28; 01, R21). -/
def intakeItems (src : Nat) : List SampleItem → State → State × List ChanId
  | [], s => (s, [])
  | i :: l, s =>
    let r := intakeItems src l (intakeItem src i s)
    match s.passOf src i with
    | some ch => (r.1, ch :: r.2)
    | none => r

/-! ### Going STALE (R33) -/

/-- The flow point of a channel goes STALE, or is replaced by a STALE entry (01, R4; 02, R33, R36). -/
def flowStale (ch : ChanId) (s : State) : State :=
  judgeFlowStale ch (if (s.chan ch).mode ≠ .unarmed then startFallback ch s else s)

/-- The consumers an entry serves are told that it has gone STALE (02, R33). The serving entries are those of the map
as it stands (R27). -/
def tellStale (p : PointId) (x : Point) (s : State) : State :=
  match x.cfg.targets with
  | .flow ch => if s.flowPoint ch = some p then flowStale ch s else s
  | .uvt chs =>
    forEach chs (fun ch s => if s.uvtPoint ch = some p then uvtStale ch (s.pointNum (some p)) s else s) s
  | .intensity b =>
    if s.intensityPoint b = some p then intensityStale b (judgeIntensityStale b s) else s
  | .wiper _ => s

/-- A FRESH point goes STALE at its timer (02, R33). -/
def goStale (p : PointId) (s : State) : State :=
  match s.point p with
  | none => s
  | some x =>
    let x' := { x with fresh := false, timer := none }
    tellStale p x' (s.setPoint p (some x'))

/-! ### Writes of the point map (R26, R27) -/

/-- The parts of an entry whose change discards its state: station, index, role, gain, offset (02, R26). -/
def PointCfg.sameSource (a b : PointCfg) : Bool :=
  a.station = b.station && a.index = b.index && a.gain = b.gain && a.offset = b.offset &&
    (match a.targets, b.targets with
      | .flow _, .flow _ => true
      | .uvt _, .uvt _ => true
      | .intensity _, .intensity _ => true
      | .wiper _, .wiper _ => true
      | _, _ => false)

/-- An entry in place without any state. -/
def Point.blank (c : PointCfg) : Point :=
  { cfg := c, value := none, fresh := false, timer := none, quality := none, accepted := none }

/-- The state of an entry is discarded; consumers it served FRESH are told that it has gone STALE (02, R26). -/
def discardPoint (p : PointId) (s : State) : State :=
  match s.point p with
  | none => s
  | some x =>
    let x' := Point.blank x.cfg
    let s' := s.setPoint p (some x')
    if x.fresh then tellStale p x' s' else s'

/-- The flow point of a channel was `old` before the write (02, R27; 01, R4). -/
def rechooseFlow (ch : ChanId) (old : Option PointId) (s : State) : State :=
  if s.flowPoint ch = old then s
  else if s.freshPoint (s.flowPoint ch) then judgeFlowStale ch (stopFallback ch s)
  else flowStale ch s

/-- The UVT point of a channel was `old` before the write (02, R27, R34). -/
def rechooseUvt (ch : ChanId) (old : Option PointId) (s : State) : State :=
  if s.freshPoint (s.uvtPoint ch) then (if s.uvtPoint ch = old then s else uvtFresh ch s)
  else if s.uvtPoint ch = old ∧ (s.pointNum old).isSome then s
  else uvtFailsafe ch s

/-- The intensity point of a bank was `old` before the write (02, R27; 03, R45). -/
def rechooseIntensity (b : BankId) (old : Option PointId) (s : State) : State :=
  if s.intensityPoint b = old then s
  else
    let s := judgeIntensityStale b (unseedBank b s)
    if s.freshPoint (s.intensityPoint b) then s else requestIfRun b s

/-- The point entry takes its new content, none for an empty entry (02, R26), and every consumer's entry is chosen
anew (02, R27; log 36). -/
def writePoint (p : PointId) (new : Option PointCfg) (s : State) : State :=
  let keeps := match s.point p, new with
    | some x, some c => x.cfg.sameSource c
    | _, _ => false
  let before := s
  let s := if keeps then s else discardPoint p s
  let s := s.setPoint p (match new, s.point p with
    | some c, some x => some (if keeps then { x with cfg := c } else Point.blank c)
    | some c, none => some (Point.blank c)
    | none, _ => none)
  let s := forEach allChans (fun ch => rechooseFlow ch (before.flowPoint ch)) s
  let s := forEach allChans (fun ch => rechooseUvt ch (before.uvtPoint ch)) s
  forEach allBanks (fun b => rechooseIntensity b (before.intensityPoint b)) s

end Sys2Proof.Machine
end

