-- ==== Sys2Proof/Machine/LampEvents.lean ====
section
/-! DEFINITION. The lamp machines' events (07): a status (R127, Table 7-5), LAMP CLEAR, the timers' expiries and the
cooling step, each with what the change of lit count or of DEAD does to the bank (R117). -/

namespace Sys2Proof.Machine

/-- The bank controller is told of a lit count, and judges it if it differs from `old` (07, R117). -/
def judgeLitFrom (b : BankId) (old : Nat) (s : State) : State :=
  if s.litCount b = old then s else judgeLit b s

/-- A lamp in OFF is adopted as LIT (07, R127). In a standing-down channel's adoption window it is made unwanted at
once, or, where its bank's lit count so reaches MinLampsLit, with every lamp of the channel so adopted (05, R85; 07,
R118; log 17); otherwise the lit count is judged. A lamp put out in its own adoption leaves the lit count as it was,
and the bank is not judged for it (log 17). -/
def adoptLamp (l : LampId) (b : BankId) (s : State) : State :=
  let s := becomeLit true l s
  match (s.bank b).owner with
  | some ch => if s.standingDown ch && !s.reachesLit ch b then putOutLit l s else judgeLit b s
  | none => judgeLit b s

/-- A LIT status, by the state before it; `was` is the unconfirmed flag before it (07, R121, R127, Table 7-5). -/
def statusLit (l : LampId) (x : Lamp) (was : Bool) (s : State) : State :=
  match x.state with
  | .off => if was || x.wanted then adoptLamp l x.bank s else placeLamp l .quench s
  | .striking => judgeLit x.bank (becomeLit false l s)
  | .lit => s
  | .retryWait => if x.cmd = some .quench then s else placeLamp l .quench s
  | .longWait => if x.cmd = some .quench then s else placeLamp l .quench s
  | .dead => placeLamp l .quench s

/-- A DARK or DROPOUT status: a dropout in LIT, nothing else (07, R125, R127). -/
def statusLost (l : LampId) (x : Lamp) (s : State) : State :=
  if x.state = .lit then judgeLit x.bank (dropoutLamp l s) else s

/-- An OVERTEMP status (07, R126). -/
def statusHot (l : LampId) (x : Lamp) (s : State) : State :=
  match x.state with
  | .lit => judgeLit x.bank (overtempOut l s)
  | .striking => overtempOut l s
  | .off => s.modLamp l fun x => { x with cool := 1000 }
  | .retryWait => s.modLamp l fun x => { x with cool := 1000 }
  | .longWait => s.modLamp l fun x => { x with cool := 1000 }
  | .dead => s.modLamp l fun x => { x with cool := 1000 }

/-- A status of a governed lamp, already confirmed, by the state before it (07, Table 7-5). -/
def statusActs (l : LampId) (x : Lamp) (st : LampStatus) (s : State) : State :=
  match st with
  | .lit => statusLit l x x.unconfirmed s
  | .dark => statusLost l x s
  | .strikeFail => if x.state = .striking then strikeFailure l s else s
  | .dropout => statusLost l x s
  | .overtemp => statusHot l x s

/-- A LAMP_STATUS reaches the machine of its station (07, R119, R127, R132): it confirms the lamp, acts if the lamp is
governed, and a lamp confirmed in OFF has its strike path tried (R120; log 20). -/
def lampStatus (l : LampId) (st : LampStatus) (s : State) : State :=
  match s.lamp l with
  | none => s
  | some x =>
    let confirmed := s.modLamp l fun x => { x with unconfirmed := false }
    if s.lampGoverned l then
      let s' := statusActs l x st confirmed
      if x.unconfirmed then strikePath l s' else s'
    else confirmed

/-- The lamp entry whose station is `st` (07, R127). -/
def State.lampOfStation (s : State) (st : Nat) : Option LampId :=
  allLamps.find? fun l => match s.lamp l with
    | some x => x.station = st
    | none => false

/-- The status of a LAMP_STATUS payload, none where the payload is not one (11, Table 11-6). -/
def statusOf (payload : List Byte) : Option LampStatus :=
  match payload with
  | [b] =>
    match b.toNat with
    | 1 => some .lit
    | 2 => some .dark
    | 3 => some .strikeFail
    | 4 => some .dropout
    | 5 => some .overtemp
    | _ => none
  | _ => none

/-- A tapped LAMP_STATUS frame from station `src` (07, R127; 11, R182). -/
def tapStatus (src : Nat) (payload : List Byte) (s : State) : State :=
  match statusOf payload, s.lampOfStation src with
  | some st, some l => lampStatus l st s
  | _, _ => s

/-- LAMP CLEAR on an entry in place (07, R124). -/
def clearLamp (l : LampId) (s : State) : State :=
  match s.lamp l with
  | none => s
  | some x =>
    if x.state = .dead then
      strikePath l
        (recheckFaulted x.bank
          (s.modLamp l fun x => { x with state := .off, attempts := 0, sets := 0, dropouts := 0 }))
    else s

/-! ### Expiries (log 2: each acts when its timer runs and its instant has come) -/

/-- The strike window runs out in STRIKING (07, R122). -/
def strikeWindowEnds (l : LampId) (s : State) : State :=
  match s.lamp l with
  | none => s
  | some x => if s.due x.strikeTimer ∧ x.state = .striking then strikeFailure l s else s

/-- A wait ends (07, R123). -/
def waitEnds (l : LampId) (s : State) : State :=
  match s.lamp l with
  | none => s
  | some x =>
    if s.due x.waitTimer then
      strikePath l (s.modLamp l fun x => { x with state := .off, waitTimer := none })
    else s

/-- The dropout-clear timer runs out (07, R125). -/
def dropoutsClear (l : LampId) (s : State) : State :=
  match s.lamp l with
  | none => s
  | some x => if s.due x.clearTimer then s.modLamp l fun x => { x with dropouts := 0, clearTimer := none } else s

/-- Period of the cooling timer (07, R129). -/
def coolPeriod : Nat := 100

/-- The cooling step (07, R129). -/
def coolLamp (l : LampId) (s : State) : State :=
  match s.lamp l with
  | none => s
  | some x =>
    if s.due x.coolTimer then
      let t := coolStep (x.state = .lit) x.cool (s.lampSetting l .friction) (s.lampSetting l .damping)
        (s.lampSetting l .inertia) (s.lampSetting l .warmShift)
      let s' := s.modLamp l fun x => { x with cool := t, coolTimer := s.timer coolPeriod }
      if x.state = .off then strikePath l s' else s'
    else s

end Sys2Proof.Machine
end

