-- ==== Sys2Proof/Machine/BankEvents.lean ====
section
/-! DEFINITION. The bank controllers' timed events (05, 06): program steps and program ends, the warm limit, the fault
rest, the wipe timers, and the end of the adoption window (05, R86). -/

namespace Sys2Proof.Machine

/-- The next step's delay starts (06, R102). -/
def nextStep (b : BankId) (k : ProgKind) (i : Fin 8) (s : State) : State :=
  s.modBank b fun x => { x with stepIdx := i, stepTimer := s.timer ((x.program k).get i).delay }

/-- A WIPE ends: in RUN reseed pending is set and a wipe that is due starts; otherwise wipe due is cleared (06, R104,
R108). -/
def wipeEnds (b : BankId) (s : State) : State :=
  let x := s.bank b
  if x.state = .run then
    let s := s.modBank b fun x =>
      { x.setTracker (fun t => { t with reseed := true }) with wipeDue := false }
    if x.wipeDue then startWipe b s else s
  else s.modBank b fun x => { x with wipeDue := false }

/-- A program ends (06, R104). -/
def endProgram (b : BankId) (k : ProgKind) (s : State) : State :=
  let s := s.modBank b fun x =>
    { x with running := none, stepTimer := none, tracker := x.tracker.clearBlank }
  match k with
  | .strike => reviewOwner b (enterWarming b s)
  | .quench => darkBank b s
  | .wipe => wipeEnds b s

/-- A step's three effects; the lamp set is applied whole and the lit count judged after it (06, R102, R103;
log 21). -/
def stepEffects (b : BankId) (x : Step) (s : State) : State :=
  let s := applyBlank b x.blank s
  let s := if x.wiper then wiperStart b s else s
  match x.set with
  | some m => judgeLitFrom b (s.litCount b) (applyLampSet b m s)
  | none => s

/-- The current step takes its effects, and the program, if its effects have not ended it, goes on or ends (06,
R102). -/
def takeStep (b : BankId) (k : ProgKind) (s : State) : State :=
  let i := (s.bank b).stepIdx
  let x := ((s.bank b).program k).get i
  let s := stepEffects b x s
  if (s.bank b).running = some k then
    (if x.last ∨ i = 7 then endProgram b k s else nextStep b k (i + 1) s)
  else s

/-- The step timer runs out (06, R102). -/
def stepEnds (b : BankId) (s : State) : State :=
  if s.due (s.bank b).stepTimer then
    (match (s.bank b).running with
      | some k => takeStep b k s
      | none => s)
  else s

/-- The wipe-interval timer runs out (06, R107). A dormant channel's bank starts no program and takes no note (05,
R82). -/
def intervalEnds (b : BankId) (s : State) : State :=
  if s.due (s.bank b).wipeInterval then
    let s := s.modBank b fun x => { x with wipeInterval := none }
    if !s.bankGoverned b then s
    else if (s.bank b).running = none then startWipe b s
    else s.modBank b fun x => { x with wipeDue := true }
  else s

/-- The WipeLimit timer runs out (06, R112). -/
def wipeLimitEnds (b : BankId) (s : State) : State :=
  if s.due (s.bank b).wipeLimit ∧ (s.bank b).supervision ≠ .idle then wipeFails b s else s

/-- The warm limit runs out in WARMING: RUN with enough lit lamps, FAULTED otherwise (05, R95). A dormant channel's
bank, whose timer the entry to UNARMED has stopped, makes no transition by it (05, R82). -/
def warmLimitEnds (b : BankId) (s : State) : State :=
  if s.due (s.bank b).warmTimer ∧ (s.bank b).state = .warming then
    let s := s.modBank b fun x => { x with warmTimer := none }
    if s.bankDormant b then s
    else if (s.bank b).get .minLampsLit ≤ s.litCount b then runBank b s
    else faultBank b s
  else s

/-- The fault rest runs out (05, R96). -/
def faultRestEnds (b : BankId) (s : State) : State :=
  if s.due (s.bank b).faultTimer then
    recheckFaulted b (s.modBank b fun x => { x with faultTimer := none })
  else s

/-- The sag timer runs out (03, R52). -/
def sagTimerEnds (b : BankId) (s : State) : State :=
  if s.due (s.bank b).tracker.sagTimer then acceptLevel b s else s

/-- The settle timer stops at its expiry (03, R47). -/
def settleEnds (b : BankId) (s : State) : State :=
  if s.due (s.bank b).tracker.settleTimer then
    s.modBank b fun x => x.setTracker fun t => { t with settleTimer := none }
  else s

/-- Step 1 of R86 for one lamp (07, R128). -/
def confirmAtEnd (l : LampId) (s : State) : State :=
  match s.lamp l with
  | none => s
  | some x =>
    if x.unconfirmed then strikePath l (s.modLamp l fun x => { x with unconfirmed := false }) else s

/-- Step 2 of R86 for one lamp. -/
def putOutUnlisted (l : LampId) (s : State) : State :=
  match s.lamp l with
  | none => s
  | some x => if x.state = .lit ∧ !s.listed x.bank then putOutLit l s else s

/-- Step 3 of R86 for one bank: RUN whatever its warm check, its review left to step 4 (log 24). -/
def runAtEnd (b : BankId) (s : State) : State :=
  if (s.bank b).state = .warming ∧ (s.bank b).get .minLampsLit ≤ s.litCount b then enterRun b s else s

/-- The adoption window ends (05, R86). -/
def windowEnds (ch : ChanId) (s : State) : State :=
  if s.due (s.chan ch).adoption then
    let s := s.modChan ch fun c => { c with adoption := none }
    let s := forEach (s.channelLamps ch) confirmAtEnd s
    let s := forEach (s.channelLamps ch) putOutUnlisted s
    review ch (forEach (s.ownedBanks ch) runAtEnd s)
  else s

end Sys2Proof.Machine
end

