-- ==== Sys2Proof/Machine/Modes.lean ====
section
/-! DEFINITION. Channel modes (05, sections 5.2 and 5.3): entry to EDIT, arming, the departure from EDIT, entry to
UNARMED, SET MODE, the lapse of a lease, and the channels' timed events. -/

namespace Sys2Proof.Machine

/-- Both counters become 0 and STAGE_EXHAUSTED ceases (05, R77, R80, R82, R84). -/
def calmStaging (ch : ChanId) (s : State) : State :=
  report .stageExhausted ch.1 false (zeroCounters ch s)

/-- The fallback timer starts if the flow point is STALE (01, R4). -/
def fallbackIfStale (ch : ChanId) (s : State) : State :=
  if s.freshPoint (s.flowPoint ch) then s else startFallback ch s

/-- Entry to EDIT of a channel not in EDIT (05, R77). From UNARMED its staleness conditions begin to be judged (02,
R36 to R38; 05, R96) and the fallback timer starts if the flow point is STALE (01, R4). -/
def enterEdit (ch : ChanId) (s : State) : State :=
  let old := (s.chan ch).mode
  if old = .edit then s
  else
    let s := calmStaging ch (s.modChan ch fun c => { c with mode := .edit, prevMode := old })
    if old = .unarmed then judgeChannel ch (fallbackIfStale ch s) else s

/-- Length of the adoption window in milliseconds (05, R84). -/
def adoptionPeriod : Nat := 10000

/-- A channel's own items at arming (05, R84), with the power stage's arming values (04, R74). -/
def Channel.armed (c : Channel) (mode : Mode) (adoption : Timer) : Channel :=
  { c.armPower with mode := mode, startList := [], pendingUp := 0, adoption := adoption }

/-- Arming (05, R84), into AUTO or, at a warm restart, the mode R98 gives. -/
def arm (ch : ChanId) (mode : Mode) (s : State) : State :=
  let s := s.modChan ch fun c => c.armed mode (s.timer adoptionPeriod)
  let s := forEach (s.ownedBanks ch) (fun b s => resetTracker b (darkenBank b s)) s
  let s := forEach (s.channelLamps ch) (fun l s => s.modLamp l Lamp.armed) s
  let s := clearAccounting ch (calmStaging ch s)
  judgeChannel ch (fallbackIfStale ch (stopFallback ch s))

/-- The departure from EDIT to the previous mode (05, R78): arming from UNARMED; otherwise the code is worked out (04,
R73) and the pending count is kept in AUTO only. It ends with a staging review. -/
def departEdit (ch : ChanId) (s : State) : State :=
  let prev := (s.chan ch).prevMode
  if prev = .unarmed then review ch (arm ch .auto s)
  else
    review ch
      (recode ch (s.modChan ch fun c =>
        { c with mode := prev, pendingUp := if prev = .auto then c.pendingUp else 0 }))

/-- A channel's own items at entry to UNARMED (05, R82). -/
def Channel.unarmed (c : Channel) : Channel :=
  { c with mode := .unarmed, manualLease := none, adoption := none, pendingUp := 0 }

/-- Entry to UNARMED (05, R82; 07, R132; 01, R23). -/
def enterUnarmed (ch : ChanId) (s : State) : State :=
  let s := s.modChan ch Channel.unarmed
  let s := forEach (s.ownedBanks ch) ungovernBank s
  let s := forEach (s.channelLamps ch) (fun l s => s.modLamp l fun x => { x.ungoverned with cmd := none }) s
  judgeChannel ch (stopFallback ch (clearAccounting ch (calmStaging ch s)))

/-- The edit lock is freed and its lease timer stops (09, Table 9-4). -/
def freeLock (ch : ChanId) (s : State) : State :=
  s.modChan ch fun c => { c with holder := none, editLease := none }

/-- The edit lease lapses (05, R79; 09, R158). -/
def lapse (ch : ChanId) (s : State) : State :=
  let valid := (s.chan ch).profileValid
  let s := freeLock ch s
  if valid then departEdit ch s else raise .editLapsed ch.1 (enterUnarmed ch s)

/-- The effects of a change between the armed modes (05, R80). -/
def changeMode (ch : ChanId) (m : Mode) (s : State) : State :=
  let old := (s.chan ch).mode
  calmStaging ch (s.modChan ch fun c =>
    { c with mode := m, pendingUp := 0, manualLease := if old = .manual then none else c.manualLease })

/-- MANUAL takes its value, bank count and lease in seconds (05, R80). -/
def setManual (ch : ChanId) (value count lease : Nat) (s : State) : State :=
  s.modChan ch fun c =>
    { c with manualValue := value, manualCount := count, manualLease := s.timer (1000 * lease) }

/-- A taken SET MODE naming an armed mode (05, R80). -/
def takeMode (ch : ChanId) (m : Mode) (value count lease : Nat) (s : State) : State :=
  let s := if (s.chan ch).mode = m then s else changeMode ch m s
  review ch (if m = .manual then setManual ch value count lease s else s)

/-- The manual lease runs out (05, R81). -/
def manualLeaseEnds (ch : ChanId) (s : State) : State :=
  if s.due (s.chan ch).manualLease then
    let s := s.modChan ch fun c => { c with manualLease := none }
    match (s.chan ch).mode with
    | .manual => review ch (changeMode ch .auto s)
    | .edit => if (s.chan ch).prevMode = .manual then s.modChan ch fun c => { c with prevMode := .auto } else s
    | .unarmed => s
    | .auto => s
    | .full => s
    | .standdown => s
  else s

/-- The edit lease runs out (09, R158). -/
def editLeaseEnds (ch : ChanId) (s : State) : State :=
  if s.due (s.chan ch).editLease then lapse ch s else s

/-- The fallback timer runs out: a pass, and the timer restarts (01, R4). -/
def fallbackEnds (ch : ChanId) (s : State) : State :=
  if s.due (s.chan ch).acct.fallback then startFallback ch (takePass ch s) else s

/-- The hold timer runs out: FAILSAFE (02, R34). -/
def uvtHoldEnds (ch : ChanId) (s : State) : State :=
  if s.due (s.chan ch).uvtHold then uvtFailsafe ch s else s

/-- A freshness timer runs out (02, R33). -/
def freshnessEnds (p : PointId) (s : State) : State :=
  match s.point p with
  | none => s
  | some x => if s.due x.timer then goStale p s else s

/-- The line goes low for PulseGap (10, R179). -/
def startGap (ch : ChanId) (s : State) : State :=
  s.modChan ch fun c => { c with pulsePhase := .gap, pulseTimer := s.timer (c.get .pulseGap) }

/-- The width timer runs out in HIGH (10, R179). -/
def pulseWidthEnds (ch : ChanId) (s : State) : State :=
  if s.due (s.chan ch).pulseTimer ∧ (s.chan ch).pulsePhase = .high then startGap ch s else s

/-- The gap timer runs out in GAP (10, R179). -/
def pulseGapEnds (ch : ChanId) (s : State) : State :=
  if s.due (s.chan ch).pulseTimer ∧ (s.chan ch).pulsePhase = .gap then
    (if 0 < (s.chan ch).acct.backlog then startPulse ch s
     else s.modChan ch fun c => { c with pulsePhase := .idle, pulseTimer := none })
  else s

end Sys2Proof.Machine
end

