-- ==== Sys2Proof/Machine/Alarms.lean ====
section
/-! DEFINITION. The alarm unit's requests and writes (10): claim, complete, a kind's priority, the threshold. -/

namespace Sys2Proof.Machine

/-- The instance a CLAIM takes: the highest priority, then the lowest kind, then the lowest instance (10, R172). -/
def State.nextClaim (s : State) : Option (AlarmKind × Nat) :=
  s.pendingInstances.foldl (fun best x =>
    match best with
    | none => some x
    | some y => if s.priority y.1 < s.priority x.1 then some x else some y) none

/-- CLAIM ALARM (10, R172). -/
def claim (s : State) : State :=
  match s.nextClaim with
  | some (k, i) => leavePending k i .inService s
  | none => s

/-- Where a completion of an in-service instance leads (10, R173): true for PENDING. A recurred condition instance
does not arise. -/
def completesPending (latched recurred cause enabled : Bool) : Bool :=
  enabled && (if latched then recurred else cause)

/-- COMPLETE ALARM (10, R173). -/
def complete (k : AlarmKind) (i : Nat) (s : State) : State :=
  let a := s.alarm k i
  let finish := fun recurred : Bool =>
    if completesPending k.latched recurred a.cause (s.priority k ≠ 0) then enterPending k i s
    else leavePending k i .idle s
  match a.state with
  | .inService => finish false
  | .inServiceRecurred => finish true
  | .idle => s
  | .pending => s

/-- What a change of priority does to one instance of the kind (10, R171). -/
def reprioritise (k : AlarmKind) (old new i : Nat) (s : State) : State :=
  if old ≠ 0 ∧ new = 0 ∧ (s.alarm k i).state = .pending then leavePending k i .idle s
  else if old = 0 ∧ new ≠ 0 ∧ !k.latched ∧ (s.alarm k i).state = .idle ∧ (s.alarm k i).cause then
    enterPending k i s
  else s

/-- A write of a kind's priority (10, R171). -/
def setPriority (k : AlarmKind) (new : Nat) (s : State) : State :=
  let old := s.priority k
  if old = new then s
  else
    judgeLine (forEach (List.range k.scope) (reprioritise k old new)
      { s with priorities := put s.priorities k.idx new })

/-- A write of the threshold (10, R176). -/
def setThreshold (n : Nat) (s : State) : State :=
  judgeLine { s with threshold := n }

end Sys2Proof.Machine
end

