-- ==== Sys2Proof/Machine/Answers.lean ====
section
/-! DEFINITION. Answers of management (09): outcomes and refusal reasons, references, clamping, the lock test, and the
order in which refusals are tested (R151, R153, R154). -/

namespace Sys2Proof.Machine

/-- Refusal reasons, in the order of 09, Table 9-2. -/
inductive Reason where
  | unknownRequest | badReference | notLocked | lockedByOther | duplicate | inUse | wrongMode | invalidProfile
  deriving DecidableEq, Repr

/-- Codes 1 to 8 (11, R183). -/
def Reason.code : Reason → Nat
  | .unknownRequest => 1 | .badReference => 2 | .notLocked => 3 | .lockedByOther => 4
  | .duplicate => 5 | .inUse => 6 | .wrongMode => 7 | .invalidProfile => 8

/-- The outcome of a request (09, R151): DONE, with its data and perhaps the CLAMPED mark, or REFUSED with a
reason, `extra` being the check and bank of INVALID_PROFILE. -/
inductive Answer where
  | done (clamped : Bool) (data : List Byte)
  | refused (r : Reason) (extra : List Byte)
  deriving DecidableEq, Repr

/-- A reply's bytes from the outcome on (11, Table 11-7). -/
def Answer.bytes : Answer → List Byte
  | .done clamped data => (if clamped then 1 else 0) :: data
  | .refused r extra => 2 :: BitVec.ofNat 8 r.code :: extra

/-- DONE without data or mark. -/
def Answer.ok : Answer := .done false []

def refuse (r : Reason) (s : State) : State × Answer :=
  (s, .refused r [])

/-! ### References -/

/-- The index `b` when it is below `n`. -/
def indexOf (n : Nat) (b : Nat) : Option (Fin n) :=
  if h : b < n then some ⟨b, h⟩ else none

/-- A station that may be absent: 0 absent, else 1 to 126; `none` for a value out of range (09, R153). -/
def stationRef (b : Byte) : Option (Option Nat) :=
  if b.toNat = 0 then some none else if b.toNat ≤ 126 then some (some b.toNat) else none

/-! ### Clamping (R151, R153) -/

/-- The value lies outside its range. -/
def outside (v lo hi : Nat) : Bool :=
  v < lo || hi < v

def Range.clamp (r : Range) (v : Nat) : Nat :=
  clampNat v r.lo r.hi

def Range.outside (r : Range) (v : Nat) : Bool :=
  Machine.outside v r.lo r.hi

/-! ### Tests in order (R151, R153) -/

/-- A test: the reason it refuses with, when it fails. -/
def test (passes : Bool) (r : Reason) : Option Reason :=
  if passes then none else some r

/-- The lock test (09, R154): the first channel, ascending, whose lock the requester does not hold decides. -/
def State.lockTest (s : State) (station : Nat) (chs : List ChanId) : Option Reason :=
  match (allChans.filter chs.contains).find? fun ch => (s.chan ch).holder ≠ some station with
  | none => none
  | some ch => if (s.chan ch).holder = none then some .notLocked else some .lockedByOther

/-- A taken write clears the profile-valid flag of each channel its lock requirement names (05, R83; 09, R156). -/
def clearFlags (chs : List ChanId) (s : State) : State :=
  forEach chs (fun ch s => s.modChan ch fun c => { c with profileValid := false }) s

/-- A write that passes every test is taken, clears the flags and is answered DONE; the first failing test refuses it
and nothing changes (09, R151, R153, R156). -/
def takeWrite (tests : List (Option Reason)) (chs : List ChanId) (clamped : Bool) (effect : State → State)
    (s : State) : State × Answer :=
  match tests.findSome? id with
  | some r => refuse r s
  | none => (effect (clearFlags chs s), .done clamped [])

end Sys2Proof.Machine
end

