-- ==== Sys2Proof/Machine/Tables.lean ====
section
/-! DEFINITION. The writes of management's tables (09, Table 9-3): references, locks, duplicates, in-use tests, the
stored value and what each taken write does to the block that owns the table. -/

namespace Sys2Proof.Machine

/-! ### Channel settings and curves -/

/-- Settings that are enumerated, whose undefined values are refused and not clamped (09, R153; 11, R183). -/
def enumeratedSetting (x : ChanSetting) : Bool :=
  x = .decelHalf || x = .dropoutMode

/-- R130's adjustment of a lamp when a retry setting is lowered from `old` to `v`. -/
def Lamp.adjust (x : ChanSetting) (old v : Nat) (l : Lamp) : Lamp :=
  match x with
  | .firstSetRetries => if v < old ∧ l.sets = 0 ∧ v ≤ l.attempts then { l with attempts := v - 1 } else l
  | .runSetRetries => if v < old ∧ l.sets ≠ 0 ∧ v ≤ l.attempts then { l with attempts := v - 1 } else l
  | .maxSets => if v < old ∧ v < l.sets then { l with sets := v } else l
  | _ => l

/-- What a taken write of a channel setting does at once: PulseVolume accrues (01, R19), Pmin raises the demand (04,
R72), retry limits adjust the channel's lamps (07, R130). -/
def chanSettingActs (ch : ChanId) (x : ChanSetting) (old v : Nat) (s : State) : State :=
  match x with
  | .pulseVolume => accrue ch 0 s
  | .pmin => s.modChan ch fun c => c.setPower fun p => { p with pd := max p.pd v }
  | .firstSetRetries => forEach (s.channelLamps ch) (fun l s => s.modLamp l (Lamp.adjust x old v)) s
  | .runSetRetries => forEach (s.channelLamps ch) (fun l s => s.modLamp l (Lamp.adjust x old v)) s
  | .maxSets => forEach (s.channelLamps ch) (fun l s => s.modLamp l (Lamp.adjust x old v)) s
  | _ => s

def storeChanSetting (ch : ChanId) (x : ChanSetting) (v : Nat) (s : State) : State :=
  chanSettingActs ch x ((s.chan ch).get x) v
    (s.modChan ch fun c => { c with settings := put c.settings x.idx v })

def writeChannelSetting (station : Nat) (ch setting : Byte) (v : Half) (s : State) : State × Answer :=
  match indexOf 4 ch.toNat, chanSettingOfCode setting.toNat with
  | some c, some x =>
    takeWrite [test (!enumeratedSetting x || v.toNat ≤ 1) .badReference, s.lockTest station [c]] [c]
      (x.range.outside v.toNat) (storeChanSetting c x (x.range.clamp v.toNat)) s
  | _, _ => refuse .badReference s

/-- Ranges of the fields of a curve point (01, Table 1-2; 04, Table 4-2). -/
def uvtX : Range := ⟨0, 1000, 0⟩
def uvtY : Range := ⟨1, 8191, 0⟩
def ballastX : Range := ⟨0, 1000, 0⟩
def ballastY : Range := ⟨1, 255, 0⟩

/-- A write of one curve point, `store` putting it in its curve. -/
def writeCurvePoint (rx ry : Range) (store : Fin 8 → CurvePoint → Channel → Channel) (station : Nat) (ch pt : Byte)
    (x y : Half) (s : State) : State × Answer :=
  match indexOf 4 ch.toNat, indexOf 8 pt.toNat with
  | some c, some i =>
    takeWrite [s.lockTest station [c]] [c] (rx.outside x.toNat || ry.outside y.toNat)
      (fun s => s.modChan c (store i ⟨rx.clamp x.toNat, ry.clamp y.toNat⟩)) s
  | _, _ => refuse .badReference s

def storeUvtPoint (i : Fin 8) (p : CurvePoint) (c : Channel) : Channel :=
  { c with uvtCurve := put c.uvtCurve i p }

def storeBallastPoint (i : Fin 8) (p : CurvePoint) (c : Channel) : Channel :=
  { c with ballastCurve := put c.ballastCurve i p }

def writeUvtPoint (station : Nat) (ch pt : Byte) (u f : Half) (s : State) : State × Answer :=
  writeCurvePoint uvtX uvtY storeUvtPoint station ch pt u f s

def writeBallastPoint (station : Nat) (ch pt : Byte) (d c : Half) (s : State) : State × Answer :=
  writeCurvePoint ballastX ballastY storeBallastPoint station ch pt d c s

/-! ### Bank record -/

/-- A write that changes WipeInterval from 0 to non-zero in RUN with the timer stopped and no wipe due starts the timer
(06, R107). -/
def wipeIntervalActs (b : BankId) (old new : Nat) (s : State) : State :=
  let x := s.bank b
  if old = 0 ∧ new ≠ 0 ∧ x.state = .run ∧ x.wipeInterval = none ∧ !x.wipeDue then startInterval b s else s

/-- What a taken write of a bank setting does at once (03, R57; 05, R94, R96; 06, R107). -/
def bankSettingActs (b : BankId) (x : BankSetting) (old v : Nat) (s : State) : State :=
  match x with
  | .expected => judgeOutputLow b s
  | .lowPct => judgeOutputLow b s
  | .minLampsLit => recheckFaulted b s
  | .wipeInterval => wipeIntervalActs b old v s
  | _ => s

def storeBankSetting (b : BankId) (x : BankSetting) (v : Nat) (s : State) : State :=
  bankSettingActs b x ((s.bank b).get x) v
    (s.modBank b fun y => { y with settings := put y.settings x.idx v })

/-- A lamp's governance was `before`; it acts on a change (07, R132). -/
def regovern (before : Bool) (l : LampId) (s : State) : State :=
  if before && !s.lampGoverned l then s.modLamp l Lamp.ungoverned
  else if !before && s.lampGoverned l then becomeGoverned l s
  else s

/-- A write of the owner (05, R94): unchanged, nothing; changed, a WIPE is abandoned (06, R105), the tracker is reset
(03, R58), the lamps' governance changes (07, R132) and the bank's conditions are judged. Two choices of the model's
stand here. LIT unwanted lamps that come to be governed are quenched, and the bank controller of the DARK bank does
not judge these falls of the lit count (log 44). The lamps keep their attempts and sets as they stand, where the new
channel's limits are lower too (log 46). -/
def setOwner (b : BankId) (new : Option ChanId) (s : State) : State :=
  if (s.bank b).owner = new then s
  else
    let before := s.bankGoverned b
    let s := s.modBank b fun x => { x.abandon with owner := new, tracker := Tracker.reset }
    judgeBank b (forEach (s.installed b) (regovern before) s)

/-- A write of the wiper station: a changed one stops supervision and empties the slot (06, R111, R113). -/
def setWiperStation (b : BankId) (st : Option Nat) (s : State) : State :=
  if (s.bank b).wiperStation = st then s
  else s.modBank b fun x => { x.stopWiper with wiperStation := st }

/-- The owner a byte names: 0 unassigned, 1 to 4 for C0 to C3 (log 8). -/
def ownerRef (v : Nat) : Option (Option ChanId) :=
  if v = 0 then some none else (indexOf 4 (v - 1)).map some

/-- DARK, FAULTED or LOCKED, where the owner may change (05, R94). -/
def BankState.idle (st : BankState) : Bool :=
  st = .dark || st = .faulted || st = .locked

/-- The new owner owns fewer than four other banks (09, R155). -/
def State.ownerRoom (s : State) (b : BankId) (new : Option ChanId) : Bool :=
  match new with
  | some ch => ((s.ownedBanks ch).filter (· ≠ b)).length < 4
  | none => true

def writeOwner (station : Nat) (b : BankId) (v : Half) (s : State) : State × Answer :=
  match ownerRef v.toNat with
  | none => refuse .badReference s
  | some new =>
    let old := (s.bank b).owner
    let chs := old.toList ++ new.toList
    takeWrite
      [s.lockTest station chs, test (s.ownerRoom b new) .duplicate,
        test (decide (old = new) || (s.bank b).state.idle) .inUse]
      chs false (setOwner b new) s

def writeBankRecord (station : Nat) (bank field : Byte) (v : Half) (s : State) : State × Answer :=
  match indexOf 12 bank.toNat, bankFieldOfCode field.toNat with
  | some b, some (.setting x) =>
    let chs := (s.bank b).owner.toList
    takeWrite [test (x ≠ .sagStage || v.toNat ≤ 1) .badReference, s.lockTest station chs] chs
      (x.range.outside v.toNat) (storeBankSetting b x (x.range.clamp v.toNat)) s
  | some b, some .owner => writeOwner station b v s
  | some b, some .wiperStation =>
    let chs := (s.bank b).owner.toList
    (match if v.toNat < 256 then stationRef (BitVec.ofNat 8 v.toNat) else none with
      | some st => takeWrite [s.lockTest station chs] chs false (setWiperStation b st) s
      | none => refuse .badReference s)
  | _, none => refuse .badReference s
  | none, _ => refuse .badReference s

/-! ### Programs (R100) -/

/-- BLANK field: 0 SET, 1 CLEAR, 2 KEEP. -/
def blankOf (b : Byte) : Option BlankOp :=
  match b.toNat with
  | 0 => some .set
  | 1 => some .clear
  | 2 => some .keep
  | _ => none

/-- yes 0, no 1. -/
def yesNo (b : Byte) : Option Bool :=
  match b.toNat with
  | 0 => some true
  | 1 => some false
  | _ => none

/-- A step with its references tested and its exponent clamped (06, R100). -/
def stepRef (t : RawStep) : Option Step :=
  match yesNo t.wiper, blankOf t.blank, yesNo t.last with
  | some w, some bl, some la =>
    if (t.set.getD []).all (· < 8) then some ⟨min 15 t.k, t.set.map maskOf, w, bl, la⟩ else none
  | _, _, _ => none

def writeProgram (station : Nat) (bank prog : Byte) (steps : List RawStep) (s : State) : State × Answer :=
  if steps.length ≠ 8 then refuse .unknownRequest s
  else match indexOf 12 bank.toNat, progOfCode prog.toNat, steps.mapM stepRef with
    | some b, some k, some l =>
      let chs := (s.bank b).owner.toList
      takeWrite [s.lockTest station chs, test ((s.bank b).running ≠ some k) .inUse] chs
        (steps.any fun t => 15 < t.k) (fun s => s.modBank b fun x => x.setProgram k (tableOf l idleStep)) s
    | _, _, _ => refuse .badReference s

/-! ### Lamp entries (R116) -/

/-- The content of a lamp entry in place. -/
structure LampCfg where
  station : Nat
  bank    : BankId
  slot    : Nat
  deriving DecidableEq, Repr

/-- A lamp entry's content with its references tested: `some none` empties the entry (log 35). -/
def lampRef (st bank : Byte) (slot : Half) : Option (Option LampCfg) :=
  match stationRef st, indexOf 12 bank.toNat with
  | some none, some _ => if slot.toNat ≤ 7 then some none else none
  | some (some n), some b => if slot.toNat ≤ 7 then some (some ⟨n, b, slot.toNat⟩) else none
  | _, _ => none

/-- The owners of the banks that the present and the new content name (09, R154). -/
def State.lampChans (s : State) (l : LampId) (new : Option LampCfg) : List ChanId :=
  (s.lampOwner l).toList ++ (match new with
    | some c => (s.bank c.bank).owner.toList
    | none => [])

/-- No other entry shares the station, or the bank and slot (09, R155). -/
def State.lampUnique (s : State) (l : LampId) (new : Option LampCfg) : Bool :=
  match new with
  | none => true
  | some c => allLamps.all fun m => decide (m = l) || match s.lamp m with
    | some x => x.station ≠ c.station && !(decide (x.bank = c.bank) && decide (x.slot = c.slot))
    | none => true

/-- The entry is empty, or its lamp OFF or DEAD (09, R153; log 26). -/
def State.lampFree (s : State) (l : LampId) : Bool :=
  match s.lamp l with
  | some x => x.state = .off || x.state = .dead
  | none => true

/-- The machine after a write of its entry (07, R116). -/
def rewritten (old : Option Lamp) (new : Option LampCfg) (cool : Timer) : Option Lamp :=
  match new, old with
  | none, _ => none
  | some c, none => some (Lamp.fresh c.station c.bank c.slot cool)
  | some c, some x =>
    if x.station ≠ c.station then some (Lamp.fresh c.station c.bank c.slot x.coolTimer)
    else if x.bank = c.bank ∧ x.slot = c.slot then some x
    else some { x with bank := c.bank, slot := c.slot, wanted := false, cmd := none }

/-- A taken write of a lamp entry (07, R116): the machine, its governance (R132), and the re-check of each bank
concerned (05, R96). -/
def storeLamp (l : LampId) (new : Option LampCfg) (s : State) : State :=
  let old := s.lamp l
  let before := s.lampGoverned l
  let s := regovern before l (s.setLamp l (rewritten old new (s.timer coolPeriod)))
  let s := match old with
    | some x => recheckFaulted x.bank s
    | none => s
  match new with
  | some c => recheckFaulted c.bank s
  | none => s

def writeLampEntry (station : Nat) (lamp st bank : Byte) (slot : Half) (s : State) : State × Answer :=
  match indexOf 64 lamp.toNat, lampRef st bank slot with
  | some l, some new =>
    let chs := s.lampChans l new
    takeWrite [s.lockTest station chs, test (s.lampUnique l new) .duplicate, test (s.lampFree l) .inUse] chs false
      (storeLamp l new) s
  | _, _ => refuse .badReference s

/-! ### Point entries (R26) -/

/-- Role and targets of a content: role 0 FLOW, 1 UVT, 2 INTENSITY, 3 WIPER; the channels of a UVT entry as an
ascending set (02, R25, R26). -/
def targetsRef (role : Byte) (targets : List Nat) : Option Targets :=
  match role.toNat, targets with
  | 0, [n] => (indexOf 4 n).map .flow
  | 1, l =>
    if 1 ≤ l.length ∧ l.length ≤ 4 ∧ l.all (· < 4) then some (.uvt (allChans.filter fun c => l.contains c.1)) else none
  | 2, [n] => (indexOf 12 n).map .intensity
  | 3, [n] => (indexOf 12 n).map .wiper
  | _, _ => none

/-- Range of Timeout (02, Table 2-1). -/
def timeoutRange : Range := ⟨100, 60000, 0⟩

/-- A point entry's content with its references tested and its numeric fields clamped; RawMax below RawMin is stored
equal to it (02, R26). -/
def pointRef (c : PointContent) : Option (Option PointCfg) :=
  match stationRef c.station, targetsRef c.role c.targets with
  | some st, some t =>
    if c.index.toNat ≤ 15 then
      some (st.map fun n =>
        { station := n, index := c.index.toNat, targets := t, gain := c.gain.toNat, offset := c.offset.toInt,
          rawMin := c.rawMin.toNat, rawMax := max c.rawMin.toNat c.rawMax.toNat,
          timeout := timeoutRange.clamp c.timeout.toNat })
    else none
  | _, _ => none

/-- A numeric field of the content was clamped, or RawMax made equal to RawMin, in an emptying write too (02, R26; 09,
R153). -/
def pointClamped (c : PointContent) : Bool :=
  timeoutRange.outside c.timeout.toNat || c.rawMax.toNat < c.rawMin.toNat

/-- The channels an entry's targets need locks of (09, R154). -/
def State.targetChans (s : State) : Targets → List ChanId
  | .flow ch => [ch]
  | .uvt chs => chs
  | .intensity b => (s.bank b).owner.toList
  | .wiper b => (s.bank b).owner.toList

def State.pointChans (s : State) (p : PointId) (new : Option PointCfg) : List ChanId :=
  (match s.point p with
    | some x => s.targetChans x.cfg.targets
    | none => []) ++
  (match new with
    | some c => s.targetChans c.targets
    | none => [])

/-- No other entry shares the station and index (02, R25; 09, R155). -/
def State.pointUnique (s : State) (p : PointId) (new : Option PointCfg) : Bool :=
  match new with
  | none => true
  | some c => allPoints.all fun q => decide (q = p) || match s.point q with
    | some x => !(decide (x.cfg.station = c.station) && decide (x.cfg.index = c.index))
    | none => true

def writePointEntry (station : Nat) (point : Byte) (c : PointContent) (s : State) : State × Answer :=
  match indexOf 96 point.toNat, pointRef c with
  | some p, some new =>
    let chs := s.pointChans p new
    takeWrite [s.lockTest station chs, test (s.pointUnique p new) .duplicate] chs (pointClamped c)
      (writePoint p new) s
  | _, _ => refuse .badReference s

/-! ### Alarm kinds and device settings (10, R171, R176; 08, R135) -/

def priorityRange : Range := ⟨0, 7, 0⟩

def writePriority (kind : Byte) (v : Half) (s : State) : State × Answer :=
  match alarmKindOfCode kind.toNat with
  | some k => takeWrite [] [] (priorityRange.outside v.toNat) (setPriority k (priorityRange.clamp v.toNat)) s
  | none => refuse .badReference s

/-- The device settings (11, R183). -/
inductive DeviceSetting where
  | errorLimit (p : Port)
  | threshold
  | alertDest
  deriving DecidableEq, Repr

def deviceSettingOf (n : Nat) : Option DeviceSetting :=
  match n with
  | 1 => some (.errorLimit .north)
  | 2 => some (.errorLimit .south)
  | 3 => some .threshold
  | 4 => some .alertDest
  | _ => none

def DeviceSetting.range : DeviceSetting → Range
  | .errorLimit _ => ⟨1, 65535, 16⟩
  | .threshold => ⟨0, 7, 0⟩
  | .alertDest => ⟨1, 127, 127⟩

def storeDevice (x : DeviceSetting) (v : Nat) (s : State) : State :=
  match x with
  | .errorLimit p => s.modPort p fun ps => { ps with errorLimit := v }
  | .threshold => setThreshold v s
  | .alertDest => { s with alertDest := v }

def writeDevice (setting : Byte) (v : Half) (s : State) : State × Answer :=
  match deviceSettingOf setting.toNat with
  | some x => takeWrite [] [] (x.range.outside v.toNat) (storeDevice x (x.range.clamp v.toNat)) s
  | none => refuse .badReference s

end Sys2Proof.Machine
end

