-- ==== Sys2Proof/Machine/Validation.lean ====
section
/-! DEFINITION. Validation of a channel's profile at GIVE EDIT (09, R160, Table 9-5) and the shape of programs (06,
R106). -/

namespace Sys2Proof.Machine

/-- The checks, in the order they are made (09, Table 9-5). -/
inductive Check where
  | flowPointMissing | uvtPointMissing | noBanks | positionClash | bankIncomplete | wiperPointMissing
  | curveOrder | curveSpan | programShape | limits
  deriving DecidableEq, Repr

/-- Codes 1 to 10 (11, R183). -/
def Check.code : Check → Nat
  | .flowPointMissing => 1 | .uvtPointMissing => 2 | .noBanks => 3 | .positionClash => 4 | .bankIncomplete => 5
  | .wiperPointMissing => 6 | .curveOrder => 7 | .curveSpan => 8 | .programShape => 9 | .limits => 10

/-- A failed check with the bank it reports, if any. -/
structure Failure where
  check : Check
  bank  : Option BankId
  deriving DecidableEq, Repr

/-- A failing check of the whole channel. -/
def failWhen (fails : Bool) (c : Check) : Option Failure :=
  if fails then some ⟨c, none⟩ else none

/-- The first bank the channel owns, ascending, that fails. -/
def State.failBank (s : State) (ch : ChanId) (c : Check) (fails : BankId → Bool) : Option Failure :=
  ((s.ownedBanks ch).find? fails).map fun b => ⟨c, some b⟩

/-- The bank is the second, in number, of those its channel has at its position. -/
def State.secondPlaced (s : State) (ch : ChanId) (b : BankId) : Bool :=
  ((s.ownedBanks ch).filter fun a => a < b && (s.bank a).get .position = (s.bank b).get .position).length = 1

/-- The second bank, in number, of the lowest position held by two or more (09, R160). -/
def State.clash (s : State) (ch : ChanId) : Option Failure :=
  (s.firstPlaced ((s.ownedBanks ch).filter (s.secondPlaced ch))).map fun b => ⟨.positionClash, some b⟩

/-- x strictly increasing and y non-decreasing over the eight points (09, Table 9-5, CURVE_ORDER). -/
def curveOrdered (c : Vector CurvePoint 8) : Bool :=
  (List.finRange 7).all fun i =>
    (curveAt c i.castSucc).x < (curveAt c i.succ).x && (curveAt c i.castSucc).y ≤ (curveAt c i.succ).y

/-- d_0 at or below Pmin, and d_7 = 1000 (09, Table 9-5, CURVE_SPAN). -/
def curveSpans (c : Vector CurvePoint 8) (pmin : Nat) : Bool :=
  (curveAt c 0).x ≤ pmin && (curveAt c 7).x = 1000

/-- The slots of a bank's installed lamps, as a mask. -/
def State.installedSlots (s : State) (b : BankId) : Byte :=
  maskOf ((s.installed b).filterMap fun l => (s.lamp l).map fun x => x.slot)

/-- The programs of a bank have a good shape (06, R106). -/
def State.goodShape (s : State) (b : BankId) : Bool :=
  let x := s.bank b
  let wipe := runSteps x.wipe
  decide (finalSet x.strike = some (s.installedSlots b)) && decide (finalSet x.quench = some 0) &&
    wipe.all (fun t => t.set.isNone) && (x.wiperStation.isSome == wipe.any fun t => t.wiper)

/-- BANK_INCOMPLETE (09, Table 9-5). -/
def State.incomplete (s : State) (b : BankId) : Bool :=
  (s.intensityPoint b).isNone || (s.installed b).isEmpty || (s.installed b).length < (s.bank b).get .minLampsLit

/-- LIMITS fails (09, Table 9-5). -/
def State.limitsFail (s : State) (ch : ChanId) : Bool :=
  let c := s.chan ch
  c.get .qmax < c.get .qmin || c.get .stageDownLevel < c.get .pmin || s.bankCount ch < c.get .minBanks

/-- The checks in their order, stopping at the first that fails (09, R160). -/
def State.validate (s : State) (ch : ChanId) : Option Failure :=
  let c := s.chan ch
  [failWhen (s.flowPoint ch).isNone .flowPointMissing,
   failWhen (s.uvtPoint ch).isNone .uvtPointMissing,
   failWhen (s.ownedBanks ch).isEmpty .noBanks,
   s.clash ch,
   s.failBank ch .bankIncomplete s.incomplete,
   s.failBank ch .wiperPointMissing (fun b => (s.bank b).wiperStation.isSome && (s.wiperPoint b).isNone),
   failWhen (!curveOrdered c.uvtCurve || !curveOrdered c.ballastCurve) .curveOrder,
   failWhen (!curveSpans c.ballastCurve (c.get .pmin)) .curveSpan,
   s.failBank ch .programShape (fun b => !s.goodShape b),
   failWhen (s.limitsFail ch) .limits].findSome? id

end Sys2Proof.Machine
end

