-- ==== Sys2Proof/Machine/Records.lean ====
section
/-! DEFINITION. The data of DONE replies (11, R183): READ ENTRY (09, R152), READ STATE (R163; 01 R24, 02 R41, 03 R59,
04 R75, 05 R99, 06 R115, 07 R133, 08 R149, 10 R178), READ TOTALS (09, R164), CLAIM ALARM (R165) and IDENTIFY (R164).
Fields stand in the order of the owning rule; widths and numberings that R183 leaves to be inferred are those of
log 9, empty entries those of log 10. -/

namespace Sys2Proof.Machine

/-! ### Fields -/

/-- A one-byte field. -/
def byte (n : Nat) : List Byte :=
  [BitVec.ofNat 8 n]

/-- An on/off, set/clear, yes/no, PASS/FAIL, FRESH/STALE, asserted/released or "holds or does not hold" field: the first
value listed is 0. -/
def flag (b : Bool) : List Byte :=
  byte (if b then 0 else 1)

/-- "stopped, or running" of a timer and "empty, or one" command or frame of a slot (06, Table 6-3; 08, Table 8-1): the
first value listed is 0, here too. -/
def heldFlag (b : Bool) : List Byte :=
  byte (if b then 1 else 0)

/-- A two-byte value that may be absent. -/
def opt2 (v : Option Nat) : List Byte :=
  match v with
  | some n => 1 :: bytes2 n
  | none => [0, 0, 0]

/-- A four-byte value that may be absent. -/
def opt4 (v : Option Nat) : List Byte :=
  match v with
  | some n => 1 :: bytes4 n
  | none => [0, 0, 0, 0, 0]

/-- Milliseconds left on a timer, capped at 65535. -/
def State.msField (s : State) (t : Timer) : List Byte :=
  opt2 ((s.msLeft t).map (min 65535))

/-- Seconds left on a timer, capped at 65535 (log 7). -/
def State.secField (s : State) (t : Timer) : List Byte :=
  opt2 ((s.msLeft t).map fun ms => min 65535 (Config.secondsLeft ms))

/-- Milliseconds since an instant, capped at 65535. -/
def State.sinceField (s : State) (t : Option Nat) : List Byte :=
  opt2 (t.map fun i => min 65535 (s.now - i))

/-- A signed number in two bytes, two's complement. -/
def signed2 (n : Int) : List Byte :=
  halfBytes (BitVec.ofInt 16 n)

/-! ### Enumerations in the order of the owning tables -/

/-- Modes as annotation items code them (11, Table 11-5), which is the order of 05, Table 5-1. -/
def Mode.code : Mode → Nat
  | .unarmed => 0 | .auto => 1 | .manual => 2 | .full => 3 | .standdown => 4 | .edit => 5

def BankState.code : BankState → Nat
  | .dark => 0 | .striking => 1 | .warming => 2 | .run => 3 | .quenching => 4 | .faulted => 5 | .locked => 6

def LampState.code : LampState → Nat
  | .off => 0 | .striking => 1 | .lit => 2 | .retryWait => 3 | .longWait => 4 | .dead => 5

def programCode : Option ProgKind → Nat
  | none => 0
  | some .strike => 1
  | some .quench => 2
  | some .wipe => 3

def Supervision.code : Supervision → Nat
  | .idle => 0 | .started => 1 | .moving => 2

def WipeResult.code : WipeResult → Nat
  | .none => 0 | .ok => 1 | .fault => 2

def AlarmState.code : AlarmState → Nat
  | .idle => 0 | .pending => 1 | .inService => 2 | .inServiceRecurred => 3

def PulsePhase.code : PulsePhase → Nat
  | .idle => 0 | .high => 1 | .gap => 2

/-- CLEAR, ENTERING n, ACTIVE, LEAVING n: the state's byte, and then the count as a value that may be absent, by R183's
scheme (log 9). -/
def SagState.field : SagState → List Byte
  | .clear => byte 0 ++ opt2 none
  | .entering n => byte 1 ++ opt2 (some n)
  | .active => byte 2 ++ opt2 none
  | .leaving n => byte 3 ++ opt2 (some n)

def UvtUse.code : UvtUse → Nat
  | .fresh => 0 | .held _ => 1 | .failsafe => 2

/-- none, GOOD, SUSPECT (02, Table 2-2). -/
def qualityField (q : Option Quality) : List Byte :=
  byte (match q with
    | none => 0
    | some .good => 1
    | some _ => 2)

def WiperPos.code : WiperPos → Nat
  | .parked => 0 | .moving => 1 | .jammed => 2

/-- The command slot: 0 empty, else the command kind, then its code (07, R133; 11, Table 11-6). -/
def cmdField : Option LampCmd → List Byte
  | none => byte 0 ++ bytes2 0
  | some (.strike c) => byte 1 ++ bytes2 c
  | some (.set c) => byte 2 ++ bytes2 c
  | some .quench => byte 3 ++ bytes2 0

/-- 0 unassigned, 1 to 4 for C0 to C3. -/
def ownerCode : Option ChanId → Nat
  | none => 0
  | some c => c.1 + 1

/-! ### READ STATE -/

def State.channelAccounting (s : State) (ch : ChanId) : List Byte :=
  let c := s.chan ch
  let a := c.acct
  bytes2 a.lastDose ++ (a.bankDoses.toList.flatMap bytes2) ++ flag a.outOfRange ++ flag a.offSpec ++ bytes2 a.doseLow
    ++ s.sinceField a.lastPass ++ heldFlag a.fallback.isSome ++ byte c.uvtUse.code ++ bytes2 (s.uvtNow ch)
    ++ s.secField c.uvtHold

def State.channelPower (s : State) (ch : ChanId) : List Byte :=
  let c := s.chan ch
  bytes2 c.power.pd ++ bytes2 c.power.applied ++ bytes2 c.power.code ++ signed2 c.power.ePrev ++ bytes2 c.rampDown

def State.channelControl (s : State) (ch : ChanId) : List Byte :=
  let c := s.chan ch
  byte c.mode.code ++ byte c.prevMode.code ++ bytes2 c.manualValue ++ bytes2 c.manualCount ++ s.secField c.manualLease
    ++ byte c.startList.length ++ (c.startList.flatMap fun b => byte b.1) ++ bytes2 c.upCount ++ bytes2 c.downCount
    ++ bytes2 c.pendingUp ++ s.msField c.adoption ++ flag c.profileValid ++ flag (s.holds .stageExhausted ch.1)
    ++ byte (c.holder.getD 0) ++ s.secField c.editLease

def State.bankTracking (s : State) (b : BankId) : List Byte :=
  let t := (s.bank b).tracker
  opt2 t.sf ++ opt4 t.sn ++ opt4 t.sref ++ flag t.reseed ++ t.sag.field ++ s.secField t.sagTimer
    ++ s.msField t.settleTimer ++ flag t.blank ++ flag t.warm ++ flag (s.holds .outputLow b.1)

def State.bankControl (s : State) (b : BankId) : List Byte :=
  let x := s.bank b
  byte (ownerCode x.owner) ++ bytes2 (x.get .position) ++ byte x.state.code ++ bytes2 (s.litCount b)
    ++ bytes2 (s.installed b).length ++ s.secField x.warmTimer ++ s.secField x.faultTimer
    ++ byte (programCode x.running) ++ bytes2 x.stepIdx.1 ++ s.msField x.stepTimer ++ s.secField x.wipeInterval
    ++ flag x.wipeDue ++ heldFlag x.wiperSlot.isSome ++ byte x.supervision.code ++ s.secField x.wipeLimit
    ++ byte x.lastWipe.code

/-- A lamp record: a presence byte, then the machine; an empty entry has no machine state (09, R163). -/
def State.lampRecord (s : State) (l : LampId) : List Byte :=
  match s.lamp l with
  | none => byte 0
  | some x =>
    byte 1 ++ byte x.state.code ++ flag x.wanted ++ flag x.unconfirmed ++ bytes2 x.cool ++ bytes2 x.attempts
      ++ bytes2 x.sets ++ bytes2 x.dropouts ++ s.msField x.strikeTimer ++ s.msField x.waitTimer
      ++ s.msField x.clearTimer ++ cmdField x.cmd

def Targets.roleCode : Targets → Nat
  | .flow _ => 0 | .uvt _ => 1 | .intensity _ => 2 | .wiper _ => 3

/-- A point's value: a presence byte, then two bytes, or for a WIPER entry the decoded position's one byte (02, R41). An
absent value is filled with as many zero bytes as one that is present takes (log 9). -/
def valueField (targets : Targets) : Option PointValue → List Byte
  | none => if targets.roleCode = 3 then byte 0 ++ byte 0 else opt2 none
  | some (.num n) => opt2 (some n)
  | some (.pos w) => byte 1 ++ byte w.code

/-- The consumers an entry serves (02, R41): a presence byte, then the channel, the mask of channels or the bank. -/
def State.servesField (s : State) (p : PointId) : Targets → List Byte
  | .flow ch => if s.flowPoint ch = some p then byte 1 ++ byte ch.1 else byte 0 ++ byte 0
  | .uvt chs =>
    let l := chs.filter fun ch => s.uvtPoint ch = some p
    if l.isEmpty then byte 0 ++ byte 0 else byte 1 ++ [maskOf (l.map fun c => c.1)]
  | .intensity b => if s.intensityPoint b = some p then byte 1 ++ byte b.1 else byte 0 ++ byte 0
  | .wiper b => if s.wiperPoint b = some p then byte 1 ++ byte b.1 else byte 0 ++ byte 0

/-- A point record (02, R41): a presence byte, then the point's state. An empty entry is reported with no value, STALE,
no quality, no acceptance and no consumer (02, R25), its value filled as a two-byte one (log 10). -/
def State.pointRecord (s : State) (p : PointId) : List Byte :=
  match s.point p with
  | none => byte 0 ++ opt2 none ++ flag false ++ qualityField none ++ s.sinceField none ++ byte 0 ++ byte 0
  | some x =>
    byte 1 ++ valueField x.cfg.targets x.value ++ flag x.fresh ++ qualityField x.quality ++ s.sinceField x.accepted
      ++ s.servesField p x.cfg.targets

/-- Lamp and wiper slots that hold a command (08, R149). -/
def State.slotsWaiting (s : State) : Nat :=
  (List.finRange 76).countP fun q => (s.slotFrame q).isSome

/-- A port record (08, R149). The station address is a numeric field of two bytes; the slot that the round-robin pointer
names is one byte, its place in the cycle of R146: 0 to 63 for L0 to L63, 64 to 75 for B0 to B11 (log 9). -/
def State.portRecord (s : State) (p : Port) : List Byte :=
  let ps := s.port p
  bytes2 s.address ++ flag s.repeater ++ bytes2 ps.errors ++ bytes2 ps.errorLimit ++ bytes2 ps.queue.length
    ++ bytes2 ps.ownCount ++ heldFlag (match s.replySlot with
      | some w => w.port = p
      | none => false)
    ++ (match p with
      | .north => heldFlag s.alertSlot.isSome
      | .south => bytes2 s.slotsWaiting ++ byte s.pointer.1)

def State.alarmRecord (s : State) (k : AlarmKind) (i : Nat) : List Byte :=
  bytes2 (s.priority k) ++ byte (s.alarm k i).state.code ++ (if k.latched then [] else flag (s.alarm k i).cause)

def State.inServiceCount (s : State) : Nat :=
  allInstances.countP fun x =>
    (s.alarm x.1 x.2).state = .inService || (s.alarm x.1 x.2).state = .inServiceRecurred

/-- The alarm summary (10, R178). The alert destination is a numeric field of two bytes (log 9). -/
def State.alarmSummary (s : State) : List Byte :=
  bytes2 s.threshold ++ bytes2 s.alertDest ++ flag s.alertLine ++ heldFlag s.alertSlot.isSome
    ++ bytes2 s.pendingInstances.length
    ++ bytes2 (s.pendingInstances.countP fun x => s.threshold < s.priority x.1) ++ bytes2 s.inServiceCount
    ++ allChans.flatMap fun ch =>
      byte (s.chan ch).pulsePhase.code ++ s.msField (s.chan ch).pulseTimer ++ bytes2 (s.chan ch).acct.backlog

def portOf (n : Nat) : Option Port :=
  match n with
  | 0 => some .north
  | 1 => some .south
  | _ => none

/-- A kind and instance within the kind's scope (09, R165; 10, R178). -/
def instanceOf (kind inst : Byte) : Option (AlarmKind × Nat) :=
  match alarmKindOfCode kind.toNat with
  | some k => if inst.toNat < k.scope then some (k, inst.toNat) else none
  | none => none

/-- The record of a kind and index bytes (09, R163; 11, R183), `none` for a bad reference. -/
def State.record (s : State) (kind : Byte) (index : List Byte) : Option (List Byte) :=
  match kind.toNat, index with
  | 1, [i] => (indexOf 4 i.toNat).map s.channelAccounting
  | 2, [i] => (indexOf 4 i.toNat).map s.channelPower
  | 3, [i] => (indexOf 4 i.toNat).map s.channelControl
  | 4, [i] => (indexOf 12 i.toNat).map s.bankTracking
  | 5, [i] => (indexOf 12 i.toNat).map s.bankControl
  | 6, [i] => (indexOf 64 i.toNat).map s.lampRecord
  | 7, [i] => (indexOf 96 i.toNat).map s.pointRecord
  | 8, [i] => (portOf i.toNat).map s.portRecord
  | 9, [k, i] => (instanceOf k i).map fun x => s.alarmRecord x.1 x.2
  | 10, [] => some s.alarmSummary
  | _, _ => none

/-! ### READ TOTALS, CLAIM ALARM, IDENTIFY -/

def State.totalsRecord (s : State) (ch : ChanId) : List Byte :=
  let a := (s.chan ch).acct
  bytes4 a.totalL ++ bytes2 a.totalMl ++ bytes4 a.offL ++ bytes2 a.offMl ++ bytes2 a.pulseRem ++ bytes2 a.backlog

/-- NONE, or kind, instance and priority. -/
def State.claimRecord (s : State) : List Byte :=
  match s.nextClaim with
  | none => byte 0
  | some (k, i) => byte 1 ++ byte k.number ++ byte i ++ bytes2 (s.priority k)

/-- The part number (09, R164). -/
def partNumber : Nat := 6400

/-- What the reply limit of 48 bytes (11, R183) leaves for the free bytes of the IDENTIFY data: tag, kind and outcome
take three bytes, the part number and the address two each. -/
def identifyRoom : Nat := 41

/-- The IDENTIFY data (09, R164), the part number and the address two bytes each; the bytes of the family, the revision
and the capacities, free values, are together no more than the reply has room for (log 6). -/
def State.identity (s : State) : List Byte :=
  let family := Config.identifyFamily.take identifyRoom
  let revision := Config.identifyRevision.take (identifyRoom - family.length)
  family ++ bytes2 partNumber ++ revision ++ bytes2 s.address
    ++ Config.identifyCapacities.take (identifyRoom - family.length - revision.length)

/-! ### READ ENTRY -/

def Step.raw (t : Step) : RawStep :=
  { k := t.k, set := t.set.map maskMembers, wiper := if t.wiper then 0 else 1,
    blank := match t.blank with
      | .set => 0
      | .clear => 1
      | .keep => 2
    last := if t.last then 0 else 1 }

def pointBytes (p : CurvePoint) : List Byte :=
  bytes2 p.x ++ bytes2 p.y

def Targets.field : Targets → List Byte
  | .flow ch => byte ch.1
  | .uvt chs => [maskOf (chs.map fun c => c.1)]
  | .intensity b => byte b.1
  | .wiper b => byte b.1

def PointCfg.bytes (c : PointCfg) : List Byte :=
  byte c.station ++ bytes2 c.index ++ byte c.targets.roleCode ++ c.targets.field ++ bytes2 c.gain ++ signed2 c.offset
    ++ bytes2 c.rawMin ++ bytes2 c.rawMax ++ bytes2 c.timeout

/-- A settled value in one byte or two. -/
def settingBytes (isByte : Bool) (v : Nat) : List Byte :=
  if isByte then byte v else bytes2 v

def Bank.fieldBytes (x : Bank) (code : Nat) : BankField → List Byte
  | .setting f => settingBytes (bankFieldIsByte code) (x.get f)
  | .owner => byte (ownerCode x.owner)
  | .wiperStation => byte (x.wiperStation.getD 0)

/-- A device setting's value. The alert destination is a numeric field of two bytes (log 9). -/
def State.deviceBytes (s : State) : DeviceSetting → List Byte
  | .errorLimit p => bytes2 (s.port p).errorLimit
  | .threshold => bytes2 s.threshold
  | .alertDest => bytes2 s.alertDest

/-- Data of a value found at two references. -/
def bothOf {α β : Type} (a : Option α) (b : Option β) (f : α → β → List Byte) : Option (List Byte) :=
  match a, b with
  | some x, some y => some (f x y)
  | _, _ => none

/-- The entry that table, index and setting bytes name (09, R152; 11, R183), `none` for a bad reference. -/
def State.entry (s : State) (table index setting : Byte) : Option (List Byte) :=
  let i := index.toNat
  let n := setting.toNat
  match table.toNat with
  | 1 => bothOf (indexOf 4 i) (chanSettingOfCode n) fun c x =>
      settingBytes (chanSettingIsByte n) ((s.chan c).get x)
  | 2 => bothOf (indexOf 4 i) (indexOf 8 n) fun c p => pointBytes (curveAt (s.chan c).uvtCurve p)
  | 3 => bothOf (indexOf 4 i) (indexOf 8 n) fun c p => pointBytes (curveAt (s.chan c).ballastCurve p)
  | 4 => bothOf (indexOf 12 i) (bankFieldOfCode n) fun b f => (s.bank b).fieldBytes n f
  | 5 => bothOf (indexOf 12 i) (progOfCode n) fun b k =>
      programBytes (((s.bank b).program k).toList.map Step.raw)
  | 6 => bothOf (indexOf 64 i) (indexOf 1 n) fun l _ => match s.lamp l with
      | some x => byte x.station ++ byte x.bank.1 ++ bytes2 x.slot
      | none => byte 0
  | 7 => bothOf (indexOf 96 i) (indexOf 1 n) fun p _ => match s.point p with
      | some x => x.cfg.bytes
      | none => byte 0
  | 8 => bothOf (alarmKindOfCode i) (indexOf 1 n) fun k _ => bytes2 (s.priority k)
  | 9 => bothOf (indexOf 1 i) (deviceSettingOf n) fun _ d => s.deviceBytes d
  | _ => none

end Sys2Proof.Machine
end

