-- ==== Sys2Proof/Machine/Management.lean ====
section
/-! DEFINITION. Management (09): the handling of each request, and the consuming, dropping and answering of requests
(R150, R151). -/

namespace Sys2Proof.Machine

/-! ### The requests -/

/-- Data of a read, or BAD_REFERENCE. -/
def answerRead (data : Option (List Byte)) (s : State) : State × Answer :=
  match data with
  | some d => (s, .done false d)
  | none => refuse .badReference s

/-- A request that names a channel below C4. -/
def forChannel (ch : Byte) (f : ChanId → State → State × Answer) (s : State) : State × Answer :=
  match indexOf 4 ch.toNat with
  | some c => f c s
  | none => refuse .badReference s

/-- A request that names a bank below B12. -/
def forBank (bank : Byte) (f : BankId → State → State × Answer) (s : State) : State × Answer :=
  match indexOf 12 bank.toNat with
  | some b => f b s
  | none => refuse .badReference s

/-- IDENTIFY (09, R164). -/
def handleIdentify (s : State) : State × Answer :=
  (s, .done false s.identity)

/-- Ranges of leases in seconds, of the manual value and of the bank count (09, R157, R161). -/
def editLeaseRange : Range := ⟨1, 600, 0⟩
def manualLeaseRange : Range := ⟨10, 3600, 0⟩
def manualValueRange : Range := ⟨0, 1000, 0⟩
def manualCountRange : Range := ⟨0, 4, 0⟩

/-- The edit lock is held by a station under a lease in seconds (09, R157). -/
def holdLock (ch : ChanId) (station lease : Nat) (s : State) : State :=
  s.modChan ch fun c => { c with holder := some station, editLease := s.timer (1000 * lease) }

/-- TAKE EDIT (09, R157). -/
def handleTakeEdit (station : Nat) (ch : Byte) (lease : Half) (s : State) : State × Answer :=
  forChannel ch (fun c s =>
    let n := editLeaseRange.clamp lease.toNat
    let clamped := editLeaseRange.outside lease.toNat
    if station = 0 ∨ station = 127 then refuse .badReference s
    else match (s.chan c).holder with
      | none => (enterEdit c (holdLock c station n s), .done clamped [])
      | some h => if h = station then (holdLock c station n s, .done clamped []) else refuse .lockedByOther s) s

/-- The bytes that name a failed check and its bank; 255 for no bank (11, R183). -/
def Failure.bytes (f : Failure) : List Byte :=
  byte f.check.code ++ byte (match f.bank with
    | some b => b.1
    | none => 255)

/-- A GIVE that passed validation (05, R78; 09, R159). -/
def giveBack (ch : ChanId) (s : State) : State :=
  departEdit ch (freeLock ch (s.modChan ch fun c => { c with profileValid := true }))

/-- GIVE EDIT (09, R159). -/
def handleGiveEdit (station : Nat) (ch : Byte) (s : State) : State × Answer :=
  forChannel ch (fun c s =>
    match s.lockTest station [c] with
    | some r => refuse r s
    | none =>
      match s.validate c with
      | some f => (s, .refused .invalidProfile f.bytes)
      | none => (giveBack c s, .ok)) s

/-- The armed mode a mode byte names (11, Table 11-8). -/
def armedModeOf (mode : Byte) : Option Mode :=
  match mode.toNat with
  | 1 => some .auto
  | 2 => some .manual
  | 3 => some .full
  | 4 => some .standdown
  | _ => none

/-- The mode byte of UNARM. -/
def unarmByte : Byte := 6

/-- SET MODE UNARM (05, R82; 09, R161). -/
def handleUnarm (ch : Byte) (s : State) : State × Answer :=
  forChannel ch (fun c s =>
    if (s.chan c).mode.armed then (enterUnarmed c s, .ok) else refuse .wrongMode s) s

/-- SET MODE naming an armed mode (05, R80; 09, R161): the value, count and lease are clamped and used for MANUAL
only. -/
def handleArmedMode (ch : Byte) (m : Mode) (value : Half) (count : Byte) (lease : Half) (s : State) : State × Answer :=
  forChannel ch (fun c s =>
    if (s.chan c).mode.armed then
      (takeMode c m (manualValueRange.clamp value.toNat) (manualCountRange.clamp count.toNat)
          (manualLeaseRange.clamp lease.toNat) s,
        .done (m = .manual && (manualValueRange.outside value.toNat || manualCountRange.outside count.toNat ||
          manualLeaseRange.outside lease.toNat)) [])
    else refuse .wrongMode s) s

/-- SET MODE (09, R161). -/
def handleSetMode (ch mode : Byte) (value : Half) (count : Byte) (lease : Half) (s : State) : State × Answer :=
  if mode = unarmByte then handleUnarm ch s
  else match armedModeOf mode with
    | some m => handleArmedMode ch m value count lease s
    | none => refuse .badReference s

/-- BANK ACTION LOCK (05, R97; 09, R162). -/
def handleLock (bank : Byte) (s : State) : State × Answer :=
  forBank bank (fun b s => (lockBank b s, .ok)) s

/-- BANK ACTION UNLOCK (05, R97; 09, R162). -/
def handleUnlock (bank : Byte) (s : State) : State × Answer :=
  forBank bank (fun b s => (unlockBank b s, .ok)) s

/-- Why a WIPE NOW is refused, if it is (06, R110), IN_USE before WRONG_MODE as R151 orders them (log 25). -/
def State.wipeRefusal (s : State) (b : BankId) : Option Reason :=
  let x := s.bank b
  if x.state = .striking ∨ x.state = .quenching ∨ x.running ≠ none then some .inUse
  else if !s.bankGoverned b ∨ x.state = .faulted ∨ x.state = .locked then some .wrongMode
  else none

/-- BANK ACTION WIPE NOW (06, R110; 09, R162). -/
def handleWipeNow (bank : Byte) (s : State) : State × Answer :=
  forBank bank (fun b s =>
    match s.wipeRefusal b with
    | some r => refuse r s
    | none => (startWipe b s, .ok)) s

/-- Action bytes of BANK ACTION (11, Table 11-8). -/
def lockByte : Byte := 1
def unlockByte : Byte := 2
def wipeNowByte : Byte := 3

/-- BANK ACTION (09, R162). -/
def handleBankAction (bank action : Byte) (s : State) : State × Answer :=
  match action.toNat with
  | 1 => handleLock bank s
  | 2 => handleUnlock bank s
  | 3 => handleWipeNow bank s
  | _ => refuse .badReference s

/-- LAMP CLEAR (07, R124; 09, R162). -/
def handleLampClear (lamp : Byte) (s : State) : State × Answer :=
  match indexOf 64 lamp.toNat with
  | some l => if (s.lamp l).isSome then (clearLamp l s, .ok) else refuse .badReference s
  | none => refuse .badReference s

/-- READ STATE (09, R163), the index bytes counted first, for a kind byte that names no record too (09, R151; 11, R183,
Table 11-8). -/
def handleReadState (kind : Byte) (index : List Byte) (s : State) : State × Answer :=
  if readStateOk kind index then answerRead (s.record kind index) s else refuse .unknownRequest s

/-- READ ENTRY (09, R152). -/
def handleReadEntry (table index setting : Byte) (s : State) : State × Answer :=
  answerRead (s.entry table index setting) s

/-- READ TOTALS (09, R164). -/
def handleReadTotals (ch : Byte) (s : State) : State × Answer :=
  forChannel ch (fun c s => (s, .done false (s.totalsRecord c))) s

/-- What CLEAR TOTALS zeroes (01, R18). -/
def Accounting.clearTotals (a : Accounting) : Accounting :=
  { a with totalL := 0, totalMl := 0, offL := 0, offMl := 0, pulseRem := 0 }

/-- CLEAR TOTALS (01, R18; 09, R164). -/
def handleClearTotals (ch : Byte) (s : State) : State × Answer :=
  forChannel ch (fun c s => (s.modChan c fun x => x.setAcct Accounting.clearTotals, .ok)) s

/-- CLAIM ALARM (09, R165; 10, R172). -/
def handleClaim (s : State) : State × Answer :=
  (claim s, .done false s.claimRecord)

/-- COMPLETE ALARM (09, R165; 10, R173). -/
def handleComplete (kind inst : Byte) (s : State) : State × Answer :=
  match instanceOf kind inst with
  | some (k, i) => (complete k i s, .ok)
  | none => refuse .badReference s

/-- RESTART (09, R166). -/
def handleRestart (s : State) : State × Answer :=
  ({ s with restartPending := true }, .ok)

/-- A request of any kind, from the station `station`. -/
def handle (station : Nat) (req : Request) (s : State) : State × Answer :=
  match req with
  | .identify => handleIdentify s
  | .readEntry t i n => handleReadEntry t i n s
  | .writeChannelSetting ch x v => writeChannelSetting station ch x v s
  | .writeUvtCurvePoint ch pt u f => writeUvtPoint station ch pt u f s
  | .writeBallastCurvePoint ch pt d c => writeBallastPoint station ch pt d c s
  | .writeBankRecord b f v => writeBankRecord station b f v s
  | .writeProgram b k steps => writeProgram station b k steps s
  | .writeLampEntry l st b sl => writeLampEntry station l st b sl s
  | .writePointEntry p c => writePointEntry station p c s
  | .writeAlarmPriority k v => writePriority k v s
  | .writeDeviceSetting x v => writeDevice x v s
  | .takeEdit ch lease => handleTakeEdit station ch lease s
  | .giveEdit ch => handleGiveEdit station ch s
  | .setMode ch m v n lease => handleSetMode ch m v n lease s
  | .bankAction b a => handleBankAction b a s
  | .lampClear l => handleLampClear l s
  | .readState k i => handleReadState k i s
  | .readTotals ch => handleReadTotals ch s
  | .clearTotals ch => handleClearTotals ch s
  | .claimAlarm => handleClaim s
  | .completeAlarm k i => handleComplete k i s
  | .restart => handleRestart s
  | .badReference => refuse .badReference s
  | .unknown => refuse .unknownRequest s

/-! ### Consuming and answering (R150) -/

/-- The reply is made in the reply slot for the port of arrival and enters that port's queue at once if the limits
allow (09, R150; 08, R144, R147; log 33). -/
def sendReply (r : Sender) (kind : Byte) (restart : Bool) (a : Answer) (s : State) : State :=
  let f := s.ownFrame (stationOf r.src) kindReply (r.tag :: kind :: a.bytes)
  if s.directEntry r.port then pushFrame r.port ⟨f, true, restart⟩ s
  else { s with replySlot := some ⟨r.port, f, restart⟩ }

/-- A request in normal operation (09, R150): discarded with restart pending, dropped at an occupied reply slot,
otherwise handled whole and answered after all it causes. -/
def consume (r : Sender) (kind : Byte) (restart : Bool) (h : State → State × Answer) (s : State) : State :=
  if s.restartPending then s
  else if s.replySlot.isSome then endEvent (raise .requestDropped 0 s)
  else
    let out := h s
    sendReply r kind restart out.2 (endEvent out.1)

/-- A request row: the request is taken by management, or in repeater mode its frame is forwarded like any other
(08, R137). -/
def requestRow (r : Sender) (req : Request) (h : State → State × Answer) (s : State) : State :=
  if s.repeater then endEvent (forwardFrame r.port (requestFrame s.address r req) s)
  else consume r req.kindByte (req = .restart) h s

/-- A REQUEST frame addressed to the part (09, R150; 11, R183): one shorter than two bytes is never answered. -/
def manageFrame (p : Port) (f : Frame) (s : State) : State :=
  match f.payload with
  | tag :: kind :: args =>
    let req := requestOf kind args
    consume ⟨p, f.src, tag⟩ kind (req = .restart) (handle (stationOf f.src) req) s
  | _ =>
    if s.restartPending then s
    else if s.replySlot.isSome then endEvent (raise .requestDropped 0 s)
    else s

end Sys2Proof.Machine
end

