-- ==== Sys2Proof/Machine/Restart.lean ====
section
/-! DEFINITION. The full reset (09, R167) and the warm restart (09, R166; 01 R23, 02 R40, 03 R58, 04 R74, 05 R98,
06 R114, 07 R133, 08 R148, 10 R177, R179). -/

namespace Sys2Proof.Machine

/-- The full reset with the given straps; the model's time base, its queue of commands and its count of strap readings
go on (log 4). -/
def fullReset (straps : BitVec 7) (s : State) : State :=
  { State.afterReset straps with now := s.now, pending := s.pending, strapReads := s.strapReads }

/-- The mode of a channel after a warm restart (05, R98). -/
def Channel.restartMode (c : Channel) : Mode :=
  match c.mode with
  | .edit => if c.profileValid then .auto else .unarmed
  | .manual => .auto
  | .auto => .auto
  | .full => .full
  | .standdown => .standdown
  | .unarmed => .unarmed

/-- What every channel takes at a warm restart (01, R23; 02, R40; 05, R98; 09, R166; 10, R179). -/
def Channel.restartBase (c : Channel) (now : Nat) : Channel :=
  { c with
    mode := c.restartMode
    acct := { c.acct.clear with fallback := none }
    uvtUse := .failsafe
    uvtHold := none
    manualLease := none
    startList := []
    upCount := 0
    downCount := 0
    pendingUp := 0
    adoption := none
    holder := none
    editLease := none
    pulsePhase := .gap
    pulseTimer := some (now + c.get .pulseGap) }

/-- A channel at a warm restart; one that is armed after it takes the arming values (05, R84), its fallback timer
started, since every point is STALE (01, R23). -/
def Channel.restarted (c : Channel) (now : Nat) : Channel :=
  let x := c.restartBase now
  if x.mode.armed then
    { x.armPower with
      adoption := some (now + adoptionPeriod)
      acct := { x.acct with fallback := some (now + c.get .passFallback) } }
  else x

/-- A bank at a warm restart: DARK unless LOCKED, no program, no timers, no supervision, tracker reset (03, R58; 05,
R98; 06, R114). The last wipe result becomes NONE, as R114 says in giving the wiper's values at a warm restart,
although R113 leaves it unchanged where supervision stops (DESIGN CHOICE, log 42). -/
def Bank.restarted (x : Bank) : Bank :=
  { x.abandon.stopWiper with
    state := if x.state = .locked then .locked else .dark
    tracker := Tracker.reset
    warmTimer := none
    faultTimer := none
    wipeInterval := none
    lastWipe := .none }

/-- Every instance IDLE with its cause flag at no (10, R177). -/
def idleAlarms : Vector Alarm 118 :=
  Vector.replicate 118 ⟨.idle, false⟩

/-- A port at a warm restart: queue emptied, errors 0, ErrorLimit kept (08, R148). -/
def PortState.restarted (p : PortState) : PortState :=
  { p with queue := [], errors := 0 }

/-- Every block's restart values, before RESTARTED is raised and conditions are judged. -/
def State.restartValues (s : State) (straps : BitVec 7) : State :=
  { s with
    straps := straps
    address := straps.toNat
    north := s.north.restarted
    south := s.south.restarted
    replySlot := none
    alertSlot := none
    pointer := 75
    restartPending := false
    channels := build fun c => (s.chan c).restarted s.now
    banks := build fun b => (s.bank b).restarted
    lamps := build fun l => (s.lamp l).map Lamp.armed
    points := build fun p => (s.point p).map fun x => Point.blank x.cfg
    alarms := idleAlarms
    alertLine := false
    alertsDue := []
    slotsMade := [] }

/-- The warm restart (09, R166): the restart values, RESTARTED, then the conditions that hold (02, R40; 10, R177). -/
def warmRestart (straps : BitVec 7) (s : State) : State :=
  endEvent (forEach allChans judgeChannel (raise .restarted 0 (s.restartValues straps)))

/-- The head of a port's queue, the frame in transmission, is the marked RESTART reply (08, R142; 09, R166). -/
def State.restartLeaving (s : State) : Bool :=
  [Port.north, Port.south].any fun p => match (s.port p).queue.head? with
    | some h => h.restart
    | none => false

/-- The warm restart at the completion of the RESTART reply's transmission, the straps read anew: their levels are a
free value (08, R136, R148; 09, R166; log 3). -/
def restartAtCompletion (s : State) : State :=
  warmRestart (Config.strapsRead s.strapReads) { s with strapReads := s.strapReads + 1 }

end Sys2Proof.Machine
end

