-- ==== Sys2Proof/Machine/Chain.lean ====
section
/-! DEFINITION. The station chain (08): reception, taps, forwarding with annotation, absorption, transmission and the
arbiters. -/

namespace Sys2Proof.Machine

/-! ### Faulty frames (R134, R135) -/

/-- A faulty frame is counted, saturating at 65535, and LINE_ERRORS is raised when the count comes to a whole multiple
of ErrorLimit (08, R134, R135). -/
def faultyFrame (p : Port) (s : State) : State :=
  let ps := s.port p
  if ps.errors < 65535 then
    let n := ps.errors + 1
    let s' := s.modPort p fun ps => { ps with errors := n }
    if n % ps.errorLimit = 0 then raise .lineErrors (portNumber p) s' else s'
  else s

/-! ### Forwarding (R138, R143) -/

/-- The frame is addressed to the part. -/
def State.addressed (s : State) (f : Frame) : Bool :=
  stationOf f.dst = s.address

/-- A frame that is neither tapped nor absorbed: discarded if addressed to the part, else forwarded (08, R138). -/
def passOn (p : Port) (f : Frame) (s : State) : State :=
  if s.addressed f then s else endEvent (forwardFrame p f s)

/-! ### Taps and annotation (R139, R141; 11, R182) -/

/-- The six bytes of an annotation item (01, R21; 11, Table 11-5), from the values the pass left. -/
def State.annotation (s : State) (ch : ChanId) : List Byte :=
  let c := s.chan ch
  byte (ch.1 + (if c.acct.offSpec then 4 else 0) + 8 * c.mode.code) ++ bytes2 c.acct.lastDose ++ bytes2 c.power.pd
    ++ byte s.address

/-- One annotation item appended within 48 bytes, the head's count raised by 1 (11, R182). -/
def appendItem (item : List Byte) (f : Frame) : Frame :=
  match f.payload with
  | head :: rest =>
    if f.payload.length + 6 ≤ Config.payloadBytes then { f with payload := (head + 16) :: (rest ++ item) } else f
  | [] => f

/-- The items of the channels that took passes, in channel order (08, R141). -/
def annotate (s : State) (chs : List ChanId) (f : Frame) : Frame :=
  (allChans.filter chs.contains).foldl (fun f ch => appendItem (s.annotation ch) f) f

/-- A well-formed SAMPLE is handed to intake (08, R139; 11, R182). -/
def tapSample (f : Frame) (s : State) : State × List ChanId :=
  match sampleItems f.payload with
  | some items => intakeItems (stationOf f.src) items s
  | none => (s, [])

/-- A good SAMPLE received on the south port: tapped, then forwarded north with annotation, or discarded if addressed
to the part; what the tap makes takes its places first (08, R138, R139, R141). -/
def southSample (f : Frame) (s : State) : State :=
  let r := tapSample f s
  let s' := endEvent r.1
  passOn .south (annotate s' r.2 f) s'

/-- A good LAMP_STATUS received on the south port: tapped, then forwarded north (08, R139). -/
def southStatus (f : Frame) (s : State) : State :=
  passOn .south f (endEvent (tapStatus (stationOf f.src) f.payload s))

/-! ### Absorption (R140) -/

/-- The channel that governs the lamp at a station. -/
def State.lampGovernor (s : State) (station : Nat) : Option ChanId :=
  match s.lampOfStation station with
  | some l => if s.lampGoverned l then s.lampOwner l else none
  | none => none

/-- The channels that govern a bank whose wiper has the station, ascending. -/
def State.wiperGovernors (s : State) (station : Nat) : List ChanId :=
  allChans.filter fun ch =>
    (s.ownedBanks ch).any fun b => (s.bank b).wiperStation = some station && s.bankGoverned b

/-- A LAMP_CMD received on the north port, not addressed to the part (08, R140). -/
def northLampCmd (f : Frame) (s : State) : State :=
  match s.lampGovernor (stationOf f.dst) with
  | some ch => endEvent (raise .foreignCommand ch.1 s)
  | none => passOn .north f s

/-- A WIPER_CMD received on the north port, not addressed to the part (08, R140). -/
def northWiperCmd (f : Frame) (s : State) : State :=
  match s.wiperGovernors (stationOf f.dst) with
  | [] => passOn .north f s
  | chs => endEvent (forEach chs (fun ch => raise .foreignCommand ch.1) s)

/-! ### Reception (R138, Table 8-3) -/

/-- A good frame in normal operation on the north port, not a request to the part. -/
def fromNorth (f : Frame) (s : State) : State :=
  if s.addressed f then s
  else if f.kind = kindLampCmd then northLampCmd f s
  else if f.kind = kindWiperCmd then northWiperCmd f s
  else passOn .north f s

/-- A good frame in normal operation on the south port, not a request to the part. -/
def fromSouth (f : Frame) (s : State) : State :=
  if f.kind = kindSample then southSample f s
  else if f.kind = kindLampStatus then southStatus f s
  else passOn .south f s

/-- A good frame (08, R137, R138). -/
def receiveGood (p : Port) (f : Frame) (s : State) : State :=
  if s.repeater then endEvent (forwardFrame p f s)
  else if s.addressed f ∧ f.kind = kindRequest then manageFrame p f s
  else match p with
    | .north => fromNorth f s
    | .south => fromSouth f s

/-- A frame given by its fields, its check good; a payload longer than 48 bytes is faulty (08, R134). -/
def receiveFrame (p : Port) (f : Frame) (s : State) : State :=
  if f.payload.length ≤ Config.payloadBytes then receiveGood p f s else endEvent (faultyFrame p s)

/-- The bytes of a frame on a port (08, R134; 11, R180). -/
def receiveBytes (p : Port) (bytes : List Byte) (s : State) : State :=
  match Frame.ofBytes bytes with
  | some f => receiveGood p f s
  | none => endEvent (faultyFrame p s)

/-! ### Transmission and the arbiters (R142, R145, R146) -/

/-- The first slot, from the position after the pointer, that holds a command (08, R146). -/
def State.nextSlot (s : State) : Option SlotId :=
  (List.range 76).findSome? fun i =>
    let q : SlotId := ⟨(s.pointer.1 + 1 + i) % 76, Nat.mod_lt _ (by decide)⟩
    if (s.slotFrame q).isSome then some q else none

/-- The command slots in round-robin order; the pointer names the slot served (08, R146). -/
def serveSlots (s : State) : State :=
  match s.nextSlot with
  | some q => { enterSouth q s with pointer := q }
  | none => s

/-- The alert slot (08, R145). -/
def serveAlert (s : State) : State :=
  match s.alertSlot with
  | some f => { pushFrame .north ⟨f, true, false⟩ s with alertSlot := none }
  | none => s

/-- After the reply slot, what the port's arbiter serves (08, R145). -/
def serveOther (p : Port) (s : State) : State :=
  match p with
  | .north => serveAlert s
  | .south => serveSlots s

/-- The freed place is offered to the own frames waiting, while the queue holds fewer than 8 own frames (08, R145). -/
def arbiter (p : Port) (s : State) : State :=
  if (s.port p).ownRoom then
    match s.replySlot with
    | some w =>
      if w.port = p then { pushFrame p ⟨w.frame, true, w.restart⟩ s with replySlot := none } else serveOther p s
    | none => serveOther p s
  else s

/-- The head leaves the queue (08, R142). -/
def dropHead (p : Port) (s : State) : State :=
  s.modPort p fun ps => { ps with queue := ps.queue.tail }

/-- A transmission completes on a port (08, R142): the head leaves; at the RESTART reply the warm restart takes place
(09, R166); otherwise the freed place is offered, but not in repeater mode (08, R137). With no head nothing is being
sent. -/
def transmissionDone (p : Port) (s : State) : State :=
  match (s.port p).queue.head? with
  | none => s
  | some h =>
    if h.restart ∧ s.restartPending then restartAtCompletion s
    else if s.repeater then dropHead p s
    else arbiter p (dropHead p s)

end Sys2Proof.Machine
end

