-- ==== Sys2Proof/Machine/FrameCommands.lean ====
section
/-! DEFINITION. The meanings of the reset, frame and line commands: one definition per row of the table. -/

namespace Sys2Proof.Machine

/-- FULL_RESET (09, R167): RESET is released with these straps. -/
def execFullReset (straps : BitVec 7) (s : State) : Host.Outcome State Fault Refusal :=
  .next (fullReset straps s)

/-- WARM_RESTART (09, R166): the RESTART reply's transmission completes with the straps at these levels, and every block
takes its warm restart state. With restart pending clear, or the reply not yet in transmission, it does not take place
(log 14). -/
def execWarmRestart (straps : BitVec 7) (s : State) : Host.Outcome State Fault Refusal :=
  .next (if s.restartPending && s.restartLeaving then warmRestart straps s else s)

/-- FRAME_RECEPTION (08, R138): the bytes of one frame arrive whole on a port. -/
def execFrameReception (p : Port) (bytes : List Byte) (s : State) : Host.Outcome State Fault Refusal :=
  .next (receiveBytes p bytes s)

/-- SAMPLE_FRAME (08, R139): a SAMPLE arrives on the south port. -/
def execSampleFrame (dst src : Byte) (payload : List Byte) (s : State) : Host.Outcome State Fault Refusal :=
  .next (receiveFrame .south ⟨dst, src, kindSample, payload⟩ s)

/-- LAMP_STATUS_FRAME (07, R127): a LAMP_STATUS arrives on the south port. -/
def execLampStatusFrame (dst src : Byte) (payload : List Byte) (s : State) : Host.Outcome State Fault Refusal :=
  .next (receiveFrame .south ⟨dst, src, kindLampStatus, payload⟩ s)

/-- LAMP_CMD_FRAME (08, R140): a LAMP_CMD arrives on the north port. -/
def execLampCmdFrame (dst src : Byte) (payload : List Byte) (s : State) : Host.Outcome State Fault Refusal :=
  .next (receiveFrame .north ⟨dst, src, kindLampCmd, payload⟩ s)

/-- WIPER_CMD_FRAME (08, R140): a WIPER_CMD arrives on the north port. -/
def execWiperCmdFrame (dst src : Byte) (payload : List Byte) (s : State) : Host.Outcome State Fault Refusal :=
  .next (receiveFrame .north ⟨dst, src, kindWiperCmd, payload⟩ s)

/-- TRANSMISSION_COMPLETE (08, R142): the head of a port's queue has left. -/
def execTransmissionComplete (p : Port) (s : State) : Host.Outcome State Fault Refusal :=
  .next (transmissionDone p s)

end Sys2Proof.Machine
end

