-- ==== Sys2Proof/Machine/RequestCommands.lean ====
section
/-! DEFINITION. The meanings of the request commands (09, R150): one definition per row of the table. Each is the
consuming of a REQUEST addressed to the part; in repeater mode its frame is forwarded. -/

namespace Sys2Proof.Machine

/-- IDENTIFY (09, R164). -/
def execIdentify (r : Sender) (s : State) : Host.Outcome State Fault Refusal :=
  .next (requestRow r .identify handleIdentify s)

/-- READ_ENTRY (09, R152). -/
def execReadEntry (r : Sender) (table index setting : Byte) (s : State) : Host.Outcome State Fault Refusal :=
  .next (requestRow r (.readEntry table index setting) (handleReadEntry table index setting) s)

/-- WRITE_CHANNEL_SETTING (09, R153; 01 R19; 04 R72; 07 R130). -/
def execWriteChannelSetting (r : Sender) (ch setting : Byte) (value : Half) (s : State) :
    Host.Outcome State Fault Refusal :=
  .next (requestRow r (.writeChannelSetting ch setting value)
    (writeChannelSetting (stationOf r.src) ch setting value) s)

/-- WRITE_UVT_CURVE_POINT (09, R153; 01 R1). -/
def execWriteUvtCurvePoint (r : Sender) (ch pt : Byte) (u f : Half) (s : State) : Host.Outcome State Fault Refusal :=
  .next (requestRow r (.writeUvtCurvePoint ch pt u f) (writeUvtPoint (stationOf r.src) ch pt u f) s)

/-- WRITE_BALLAST_CURVE_POINT (04, R72; 09, R153). -/
def execWriteBallastCurvePoint (r : Sender) (ch pt : Byte) (d c : Half) (s : State) :
    Host.Outcome State Fault Refusal :=
  .next (requestRow r (.writeBallastCurvePoint ch pt d c) (writeBallastPoint (stationOf r.src) ch pt d c) s)

/-- WRITE_BANK_RECORD (05, R94; 03 R57; 06 R107, R111; 09 R153). -/
def execWriteBankRecord (r : Sender) (bank field : Byte) (value : Half) (s : State) :
    Host.Outcome State Fault Refusal :=
  .next (requestRow r (.writeBankRecord bank field value) (writeBankRecord (stationOf r.src) bank field value) s)

/-- WRITE_PROGRAM (06, R100). -/
def execWriteProgram (r : Sender) (bank prog : Byte) (steps : List RawStep) (s : State) :
    Host.Outcome State Fault Refusal :=
  .next (requestRow r (.writeProgram bank prog steps) (writeProgram (stationOf r.src) bank prog steps) s)

/-- WRITE_LAMP_ENTRY (07, R116). -/
def execWriteLampEntry (r : Sender) (lamp station bank : Byte) (slot : Half) (s : State) :
    Host.Outcome State Fault Refusal :=
  .next (requestRow r (.writeLampEntry lamp station bank slot)
    (writeLampEntry (stationOf r.src) lamp station bank slot) s)

/-- WRITE_POINT_ENTRY (02, R26, R27). -/
def execWritePointEntry (r : Sender) (point : Byte) (content : PointContent) (s : State) :
    Host.Outcome State Fault Refusal :=
  .next (requestRow r (.writePointEntry point content) (writePointEntry (stationOf r.src) point content) s)

/-- WRITE_ALARM_PRIORITY (10, R171). -/
def execWriteAlarmPriority (r : Sender) (kind : Byte) (priority : Half) (s : State) :
    Host.Outcome State Fault Refusal :=
  .next (requestRow r (.writeAlarmPriority kind priority) (writePriority kind priority) s)

/-- WRITE_DEVICE_SETTING (10, R176; 08 R135). -/
def execWriteDeviceSetting (r : Sender) (setting : Byte) (value : Half) (s : State) :
    Host.Outcome State Fault Refusal :=
  .next (requestRow r (.writeDeviceSetting setting value) (writeDevice setting value) s)

/-- TAKE_EDIT (09, R157; 05 R77). -/
def execTakeEdit (r : Sender) (ch : Byte) (lease : Half) (s : State) : Host.Outcome State Fault Refusal :=
  .next (requestRow r (.takeEdit ch lease) (handleTakeEdit (stationOf r.src) ch lease) s)

/-- GIVE_EDIT (09, R159, R160; 05 R78). -/
def execGiveEdit (r : Sender) (ch : Byte) (s : State) : Host.Outcome State Fault Refusal :=
  .next (requestRow r (.giveEdit ch) (handleGiveEdit (stationOf r.src) ch) s)

/-- SET_MODE (05, R80; 09 R161). -/
def execSetMode (r : Sender) (ch mode : Byte) (value : Half) (count : Byte) (lease : Half) (s : State) :
    Host.Outcome State Fault Refusal :=
  .next (requestRow r (.setMode ch mode value count lease) (handleSetMode ch mode value count lease) s)

/-- SET_MODE_UNARM (05, R82; 09 R161); the operands UNARM does not read are 0 (log 37). -/
def execSetModeUnarm (r : Sender) (ch : Byte) (s : State) : Host.Outcome State Fault Refusal :=
  .next (requestRow r (.setMode ch unarmByte 0 0 0) (handleUnarm ch) s)

/-- BANK_ACTION_LOCK (05, R97). -/
def execBankActionLock (r : Sender) (bank : Byte) (s : State) : Host.Outcome State Fault Refusal :=
  .next (requestRow r (.bankAction bank lockByte) (handleLock bank) s)

/-- BANK_ACTION_UNLOCK (05, R97). -/
def execBankActionUnlock (r : Sender) (bank : Byte) (s : State) : Host.Outcome State Fault Refusal :=
  .next (requestRow r (.bankAction bank unlockByte) (handleUnlock bank) s)

/-- BANK_ACTION_WIPE_NOW (06, R110). -/
def execBankActionWipeNow (r : Sender) (bank : Byte) (s : State) : Host.Outcome State Fault Refusal :=
  .next (requestRow r (.bankAction bank wipeNowByte) (handleWipeNow bank) s)

/-- LAMP_CLEAR (07, R124; 09 R162). -/
def execLampClear (r : Sender) (lamp : Byte) (s : State) : Host.Outcome State Fault Refusal :=
  .next (requestRow r (.lampClear lamp) (handleLampClear lamp) s)

/-- READ_STATE (09, R163). -/
def execReadState (r : Sender) (kind : Byte) (index : List Byte) (s : State) : Host.Outcome State Fault Refusal :=
  .next (requestRow r (.readState kind index) (handleReadState kind index) s)

/-- READ_TOTALS (09, R164). -/
def execReadTotals (r : Sender) (ch : Byte) (s : State) : Host.Outcome State Fault Refusal :=
  .next (requestRow r (.readTotals ch) (handleReadTotals ch) s)

/-- CLEAR_TOTALS (01, R18). -/
def execClearTotals (r : Sender) (ch : Byte) (s : State) : Host.Outcome State Fault Refusal :=
  .next (requestRow r (.clearTotals ch) (handleClearTotals ch) s)

/-- CLAIM_ALARM (10, R172). -/
def execClaimAlarm (r : Sender) (s : State) : Host.Outcome State Fault Refusal :=
  .next (requestRow r .claimAlarm handleClaim s)

/-- COMPLETE_ALARM (10, R173). -/
def execCompleteAlarm (r : Sender) (kind inst : Byte) (s : State) : Host.Outcome State Fault Refusal :=
  .next (requestRow r (.completeAlarm kind inst) (handleComplete kind inst) s)

/-- RESTART (09, R166). -/
def execRestart (r : Sender) (s : State) : Host.Outcome State Fault Refusal :=
  .next (requestRow r .restart handleRestart s)

end Sys2Proof.Machine
end

