-- ==== Sys2Proof/Machine/TimerCommands.lean ====
section
/-! DEFINITION. The meanings of the timer commands: one definition per row of the table. Each acts when its timer
runs and its instant has come, and changes nothing otherwise (log 2). -/

namespace Sys2Proof.Machine

/-- FALLBACK_TIMER_EXPIRY (01, R4). -/
def execFallbackTimerExpiry (ch : ChanId) (s : State) : Host.Outcome State Fault Refusal :=
  .next (endEvent (fallbackEnds ch s))

/-- FRESHNESS_TIMER_EXPIRY (02, R33). -/
def execFreshnessTimerExpiry (p : PointId) (s : State) : Host.Outcome State Fault Refusal :=
  .next (endEvent (freshnessEnds p s))

/-- UVT_HOLD_TIMER_EXPIRY (02, R34). -/
def execUvtHoldTimerExpiry (ch : ChanId) (s : State) : Host.Outcome State Fault Refusal :=
  .next (endEvent (uvtHoldEnds ch s))

/-- SAG_TIMER_EXPIRY (03, R52). -/
def execSagTimerExpiry (b : BankId) (s : State) : Host.Outcome State Fault Refusal :=
  .next (endEvent (sagTimerEnds b s))

/-- SETTLE_TIMER_EXPIRY (03, R47). -/
def execSettleTimerExpiry (b : BankId) (s : State) : Host.Outcome State Fault Refusal :=
  .next (endEvent (settleEnds b s))

/-- MANUAL_LEASE_EXPIRY (05, R81). -/
def execManualLeaseExpiry (ch : ChanId) (s : State) : Host.Outcome State Fault Refusal :=
  .next (endEvent (manualLeaseEnds ch s))

/-- ADOPTION_WINDOW_EXPIRY (05, R86). -/
def execAdoptionWindowExpiry (ch : ChanId) (s : State) : Host.Outcome State Fault Refusal :=
  .next (endEvent (windowEnds ch s))

/-- WARM_LIMIT_EXPIRY (05, R95). -/
def execWarmLimitExpiry (b : BankId) (s : State) : Host.Outcome State Fault Refusal :=
  .next (endEvent (warmLimitEnds b s))

/-- FAULT_REST_EXPIRY (05, R96). -/
def execFaultRestExpiry (b : BankId) (s : State) : Host.Outcome State Fault Refusal :=
  .next (endEvent (faultRestEnds b s))

/-- EDIT_LEASE_LAPSE (05, R79; 09 R158). -/
def execEditLeaseLapse (ch : ChanId) (s : State) : Host.Outcome State Fault Refusal :=
  .next (endEvent (editLeaseEnds ch s))

/-- STEP_TIMER_EXPIRY (06, R102). -/
def execStepTimerExpiry (b : BankId) (s : State) : Host.Outcome State Fault Refusal :=
  .next (endEvent (stepEnds b s))

/-- WIPE_INTERVAL_EXPIRY (06, R107). -/
def execWipeIntervalExpiry (b : BankId) (s : State) : Host.Outcome State Fault Refusal :=
  .next (endEvent (intervalEnds b s))

/-- WIPE_LIMIT_EXPIRY (06, R112). -/
def execWipeLimitExpiry (b : BankId) (s : State) : Host.Outcome State Fault Refusal :=
  .next (endEvent (wipeLimitEnds b s))

/-- STRIKE_WINDOW_EXPIRY (07, R122). -/
def execStrikeWindowExpiry (l : LampId) (s : State) : Host.Outcome State Fault Refusal :=
  .next (endEvent (strikeWindowEnds l s))

/-- WAIT_TIMER_EXPIRY (07, R123). -/
def execWaitTimerExpiry (l : LampId) (s : State) : Host.Outcome State Fault Refusal :=
  .next (endEvent (waitEnds l s))

/-- DROPOUT_CLEAR_EXPIRY (07, R125). -/
def execDropoutClearExpiry (l : LampId) (s : State) : Host.Outcome State Fault Refusal :=
  .next (endEvent (dropoutsClear l s))

/-- COOLING_STEP (07, R129). -/
def execCoolingStep (l : LampId) (s : State) : Host.Outcome State Fault Refusal :=
  .next (endEvent (coolLamp l s))

/-- PULSE_WIDTH_EXPIRY (10, R179). -/
def execPulseWidthExpiry (ch : ChanId) (s : State) : Host.Outcome State Fault Refusal :=
  .next (endEvent (pulseWidthEnds ch s))

/-- PULSE_GAP_EXPIRY (10, R179). -/
def execPulseGapExpiry (ch : ChanId) (s : State) : Host.Outcome State Fault Refusal :=
  .next (endEvent (pulseGapEnds ch s))

end Sys2Proof.Machine
end

