-- ==== Sys2Proof/Machine/Dispatch.lean ====
section
/-! DEFINITION. The dispatch of commands to their meanings, one arm per row of spec/opcode_table.json. -/

namespace Sys2Proof.Machine

def exec (i : Instr) (s : State) : Host.Outcome State Fault Refusal :=
  match i with
  | .fullReset straps => Sys2Proof.Machine.execFullReset straps s
  | .warmRestart straps => Sys2Proof.Machine.execWarmRestart straps s
  | .frameReception p bytes => Sys2Proof.Machine.execFrameReception p bytes s
  | .sampleFrame dst src payload => Sys2Proof.Machine.execSampleFrame dst src payload s
  | .lampStatusFrame dst src payload => Sys2Proof.Machine.execLampStatusFrame dst src payload s
  | .lampCmdFrame dst src payload => Sys2Proof.Machine.execLampCmdFrame dst src payload s
  | .wiperCmdFrame dst src payload => Sys2Proof.Machine.execWiperCmdFrame dst src payload s
  | .identify r => Sys2Proof.Machine.execIdentify r s
  | .readEntry r table index setting => Sys2Proof.Machine.execReadEntry r table index setting s
  | .writeChannelSetting r ch setting value => Sys2Proof.Machine.execWriteChannelSetting r ch setting value s
  | .writeUvtCurvePoint r ch pt u f => Sys2Proof.Machine.execWriteUvtCurvePoint r ch pt u f s
  | .writeBallastCurvePoint r ch pt d c => Sys2Proof.Machine.execWriteBallastCurvePoint r ch pt d c s
  | .writeBankRecord r bank field value => Sys2Proof.Machine.execWriteBankRecord r bank field value s
  | .writeProgram r bank prog steps => Sys2Proof.Machine.execWriteProgram r bank prog steps s
  | .writeLampEntry r lamp station bank slot => Sys2Proof.Machine.execWriteLampEntry r lamp station bank slot s
  | .writePointEntry r point content => Sys2Proof.Machine.execWritePointEntry r point content s
  | .writeAlarmPriority r kind priority => Sys2Proof.Machine.execWriteAlarmPriority r kind priority s
  | .writeDeviceSetting r setting value => Sys2Proof.Machine.execWriteDeviceSetting r setting value s
  | .takeEdit r ch lease => Sys2Proof.Machine.execTakeEdit r ch lease s
  | .giveEdit r ch => Sys2Proof.Machine.execGiveEdit r ch s
  | .setMode r ch mode value count lease => Sys2Proof.Machine.execSetMode r ch mode value count lease s
  | .setModeUnarm r ch => Sys2Proof.Machine.execSetModeUnarm r ch s
  | .bankActionLock r bank => Sys2Proof.Machine.execBankActionLock r bank s
  | .bankActionUnlock r bank => Sys2Proof.Machine.execBankActionUnlock r bank s
  | .bankActionWipeNow r bank => Sys2Proof.Machine.execBankActionWipeNow r bank s
  | .lampClear r lamp => Sys2Proof.Machine.execLampClear r lamp s
  | .readState r kind index => Sys2Proof.Machine.execReadState r kind index s
  | .readTotals r ch => Sys2Proof.Machine.execReadTotals r ch s
  | .clearTotals r ch => Sys2Proof.Machine.execClearTotals r ch s
  | .claimAlarm r => Sys2Proof.Machine.execClaimAlarm r s
  | .completeAlarm r kind inst => Sys2Proof.Machine.execCompleteAlarm r kind inst s
  | .restart r => Sys2Proof.Machine.execRestart r s
  | .transmissionComplete p => Sys2Proof.Machine.execTransmissionComplete p s
  | .fallbackTimerExpiry ch => Sys2Proof.Machine.execFallbackTimerExpiry ch s
  | .freshnessTimerExpiry p => Sys2Proof.Machine.execFreshnessTimerExpiry p s
  | .uvtHoldTimerExpiry ch => Sys2Proof.Machine.execUvtHoldTimerExpiry ch s
  | .sagTimerExpiry b => Sys2Proof.Machine.execSagTimerExpiry b s
  | .settleTimerExpiry b => Sys2Proof.Machine.execSettleTimerExpiry b s
  | .manualLeaseExpiry ch => Sys2Proof.Machine.execManualLeaseExpiry ch s
  | .adoptionWindowExpiry ch => Sys2Proof.Machine.execAdoptionWindowExpiry ch s
  | .warmLimitExpiry b => Sys2Proof.Machine.execWarmLimitExpiry b s
  | .faultRestExpiry b => Sys2Proof.Machine.execFaultRestExpiry b s
  | .editLeaseLapse ch => Sys2Proof.Machine.execEditLeaseLapse ch s
  | .stepTimerExpiry b => Sys2Proof.Machine.execStepTimerExpiry b s
  | .wipeIntervalExpiry b => Sys2Proof.Machine.execWipeIntervalExpiry b s
  | .wipeLimitExpiry b => Sys2Proof.Machine.execWipeLimitExpiry b s
  | .strikeWindowExpiry l => Sys2Proof.Machine.execStrikeWindowExpiry l s
  | .waitTimerExpiry l => Sys2Proof.Machine.execWaitTimerExpiry l s
  | .dropoutClearExpiry l => Sys2Proof.Machine.execDropoutClearExpiry l s
  | .coolingStep l => Sys2Proof.Machine.execCoolingStep l s
  | .pulseWidthExpiry ch => Sys2Proof.Machine.execPulseWidthExpiry ch s
  | .pulseGapExpiry ch => Sys2Proof.Machine.execPulseGapExpiry ch s

end Sys2Proof.Machine
end

