-- ==== Sys2Proof/Safety.lean ====
section
/-! DEFINITION. The terms in which claims about the part are stated: readiness for a request, how a reply leaves, what
a frame of unchanged state is, and the invariants of a sound state. -/

namespace Sys2Proof

/-! ### Commands by what they carry -/

/-- The station of a request's source byte (09, R157; 11, R180). -/
def Sender.station (r : Sender) : Nat :=
  r.src.toNat % 128

/-- The sender and the request of a request row (11, Table 11-8). -/
def Instr.request : Instr → Option (Sender × Request)
  | .identify r => some (r, .identify)
  | .readEntry r t i x => some (r, .readEntry t i x)
  | .writeChannelSetting r ch x v => some (r, .writeChannelSetting ch x v)
  | .writeUvtCurvePoint r ch pt u f => some (r, .writeUvtCurvePoint ch pt u f)
  | .writeBallastCurvePoint r ch pt d c => some (r, .writeBallastCurvePoint ch pt d c)
  | .writeBankRecord r b f v => some (r, .writeBankRecord b f v)
  | .writeProgram r b k steps => some (r, .writeProgram b k steps)
  | .writeLampEntry r l st b sl => some (r, .writeLampEntry l st b sl)
  | .writePointEntry r p c => some (r, .writePointEntry p c)
  | .writeAlarmPriority r k v => some (r, .writeAlarmPriority k v)
  | .writeDeviceSetting r x v => some (r, .writeDeviceSetting x v)
  | .takeEdit r ch lease => some (r, .takeEdit ch lease)
  | .giveEdit r ch => some (r, .giveEdit ch)
  | .setMode r ch m v n lease => some (r, .setMode ch m v n lease)
  | .setModeUnarm r ch => some (r, .setMode ch 6 0 0 0)
  | .bankActionLock r b => some (r, .bankAction b 1)
  | .bankActionUnlock r b => some (r, .bankAction b 2)
  | .bankActionWipeNow r b => some (r, .bankAction b 3)
  | .lampClear r l => some (r, .lampClear l)
  | .readState r k i => some (r, .readState k i)
  | .readTotals r ch => some (r, .readTotals ch)
  | .clearTotals r ch => some (r, .clearTotals ch)
  | .claimAlarm r => some (r, .claimAlarm)
  | .completeAlarm r k i => some (r, .completeAlarm k i)
  | .restart r => some (r, .restart)
  | _ => none

/-- The timer commands. -/
def Instr.isExpiry : Instr → Bool
  | .fallbackTimerExpiry _ => true
  | .freshnessTimerExpiry _ => true
  | .uvtHoldTimerExpiry _ => true
  | .sagTimerExpiry _ => true
  | .settleTimerExpiry _ => true
  | .manualLeaseExpiry _ => true
  | .adoptionWindowExpiry _ => true
  | .warmLimitExpiry _ => true
  | .faultRestExpiry _ => true
  | .editLeaseLapse _ => true
  | .stepTimerExpiry _ => true
  | .wipeIntervalExpiry _ => true
  | .wipeLimitExpiry _ => true
  | .strikeWindowExpiry _ => true
  | .waitTimerExpiry _ => true
  | .dropoutClearExpiry _ => true
  | .coolingStep _ => true
  | .pulseWidthExpiry _ => true
  | .pulseGapExpiry _ => true
  | _ => false

/-- The writes of management's tables, and the commands that can carry one or clear them all: FULL_RESET and
FRAME_RECEPTION (09, R153, R167). -/
def Instr.mayWrite : Instr → Bool
  | .fullReset _ => true
  | .frameReception _ _ => true
  | .writeChannelSetting _ _ _ _ => true
  | .writeUvtCurvePoint _ _ _ _ _ => true
  | .writeBallastCurvePoint _ _ _ _ _ => true
  | .writeBankRecord _ _ _ _ => true
  | .writeProgram _ _ _ _ => true
  | .writeLampEntry _ _ _ _ _ => true
  | .writePointEntry _ _ _ => true
  | .writeAlarmPriority _ _ _ => true
  | .writeDeviceSetting _ _ _ => true
  | _ => false

end Sys2Proof

namespace Sys2Proof.Machine

/-! ### Readiness and replies -/

/-- No event is in progress: nothing waits to be offered to a queue (log 12, log 13). -/
def State.atRest (s : State) : Prop :=
  s.alertsDue = [] ∧ s.slotsMade = []

/-- Normal operation (08, R136): a station address of 1 to 126. -/
def State.normal (s : State) : Prop :=
  1 ≤ s.address ∧ s.address ≤ 126

/-- A request to the part is consumed (09, R150): normal operation, restart pending clear, reply slot empty. -/
def State.ready (s : State) : Prop :=
  s.normal ∧ s.restartPending = false ∧ s.replySlot = none ∧ s.atRest

/-- The REPLY frame that answers a request of the given kind byte (11, Table 11-7), `outcome` being its bytes from the
outcome on. -/
def State.replyFrame (s : State) (r : Sender) (kind : Byte) (outcome : List Byte) : Frame :=
  ⟨BitVec.ofNat 8 (r.station), BitVec.ofNat 8 s.address, 0x11, r.tag :: kind :: outcome⟩

/-- The outcome byte of a taken request: 1 with the CLAMPED mark, for a value outside its range (09, R151). -/
def clampMark (v lo hi : Nat) : Byte :=
  if v < lo ∨ hi < v then 1 else 0

/-- The state with the reply made: at the tail of the queue of the port of arrival if that holds fewer than 16 frames
and fewer than 8 own frames, else in the reply slot (08, R144, R147; 09, R150). `restart` marks the RESTART reply. -/
def State.withReply (s : State) (r : Sender) (kind : Byte) (outcome : List Byte) (restart : Bool := false) : State :=
  if (s.port r.port).queue.length < 16 ∧ (s.port r.port).ownCount < 8 then
    s.modPort r.port fun ps => { ps with queue := ps.queue ++ [⟨s.replyFrame r kind outcome, true, restart⟩] }
  else { s with replySlot := some ⟨r.port, s.replyFrame r kind outcome, restart⟩ }

/-! ### Fields of replies (11, R183) -/

/-- Yes, set, on, PASS, FRESH, asserted or holds is 0 and its contrary 1, as the owning tables list them (log 9). -/
def yes (b : Bool) : Byte :=
  if b then 0 else 1

/-- An empty slot and a stopped timer are 0, a slot that holds something and a running timer 1, as the owning tables
list them (log 9). -/
def held (b : Bool) : Byte :=
  if b then 1 else 0

/-- An enumerated value as one byte: its place, from 0, in the owning table's order. -/
def placeIn {α : Type} [DecidableEq α] (order : List α) (x : α) : Byte :=
  BitVec.ofNat 8 (order.idxOf x)

/-- A two-byte value that may be absent: a presence byte, then the value, zeros for none (log 9). -/
def present2 (v : Option Nat) : List Byte :=
  match v with
  | some n => 1 :: bytes2 n
  | none => [0, 0, 0]

/-- A four-byte value that may be absent. -/
def present4 (v : Option Nat) : List Byte :=
  match v with
  | some n => 1 :: bytes4 n
  | none => [0, 0, 0, 0, 0]

/-- The milliseconds left on a timer, capped at 65535, or that it is stopped. -/
def State.millisOf (s : State) (t : Timer) : List Byte :=
  present2 (t.map fun d => min 65535 (d - s.now))

/-- The seconds left on a timer, capped at 65535, or that it is stopped. A part of a second counts as one or as none, a
free value (log 7). -/
def State.secondsOf (s : State) (t : Timer) : List Byte :=
  present2 (t.map fun d => min 65535 ((d - s.now) / 1000 +
    (if (d - s.now) % 1000 = 0 then 0 else if Config.roundsUp (d - s.now) then 1 else 0)))

/-! ### Unchanged state -/

/-- Everything written by management's tables: settings, curves, owners, wiper stations, programs, lamp and point
entries, priorities and device settings (09, Table 9-3). -/
structure Tables where
  chanSettings : ChanId → Vector Nat 33
  uvtCurves    : ChanId → Vector CurvePoint 8
  ballast      : ChanId → Vector CurvePoint 8
  bankSettings : BankId → Vector Nat 20
  owners       : BankId → Option ChanId
  wipers       : BankId → Option Nat
  programs     : BankId → ProgKind → Vector Step 8
  lampEntries  : LampId → Option (Nat × BankId × Nat)
  pointEntries : PointId → Option PointCfg
  priorities   : Vector Nat 18
  threshold    : Nat
  alertDest    : Nat
  errorLimits  : Nat × Nat

/-- The contents of the tables in a state. -/
def State.tables (s : State) : Tables where
  chanSettings := fun c => (s.chan c).settings
  uvtCurves := fun c => (s.chan c).uvtCurve
  ballast := fun c => (s.chan c).ballastCurve
  bankSettings := fun b => (s.bank b).settings
  owners := fun b => (s.bank b).owner
  wipers := fun b => (s.bank b).wiperStation
  programs := fun b => (s.bank b).program
  lampEntries := fun l => (s.lamp l).map fun x => (x.station, x.bank, x.slot)
  pointEntries := fun p => (s.point p).map fun x => x.cfg
  priorities := s.priorities
  threshold := s.threshold
  alertDest := s.alertDest
  errorLimits := (s.north.errorLimit, s.south.errorLimit)

/-- The volume accounts of a channel (01, R15, R16): total litres and remainder, off-spec litres and remainder. -/
def State.totals (s : State) (ch : ChanId) : Nat × Nat × Nat × Nat :=
  let a := (s.chan ch).acct
  (a.totalL, a.totalMl, a.offL, a.offMl)

/-- What no event of a channel, a bank, a lamp, a point or an alarm reaches: the commands waiting, the instant, the
straps and the count of their readings, the address, the reply slot, the round-robin pointer, restart pending and the
line error counts. -/
structure Outer where
  pending        : List Instr
  now            : Nat
  straps         : BitVec 7
  strapReads     : Nat
  address        : Nat
  replySlot      : Option WaitingReply
  pointer        : SlotId
  restartPending : Bool
  northErrors    : Nat
  southErrors    : Nat
  deriving DecidableEq, Repr

def State.outer (s : State) : Outer where
  pending := s.pending
  now := s.now
  straps := s.straps
  strapReads := s.strapReads
  address := s.address
  replySlot := s.replySlot
  pointer := s.pointer
  restartPending := s.restartPending
  northErrors := s.north.errors
  southErrors := s.south.errors

/-- Each of `made` is an ALERT frame of the part, which names an instance and its kind's priority (10, R175). -/
def State.areAlerts (s : State) (made : List QFrame) : Prop :=
  ∀ q ∈ made, ∃ (k : AlarmKind) (i : Nat), i < k.scope ∧
    q = ⟨s.ownFrame s.alertDest 0x12 [BitVec.ofNat 8 k.number, BitVec.ofNat 8 i, BitVec.ofNat 8 (s.priority k)],
      true, false⟩

/-- Each of `made` is a lamp or wiper command of the part (07, R131; 06, R111). -/
def State.areCommands (s : State) (made : List QFrame) : Prop :=
  ∀ q ∈ made, ∃ station : Nat, (∃ c : LampCmd, q = ⟨s.ownFrame station 0x03 c.payload, true, false⟩) ∨
    q = ⟨s.ownFrame station 0x04 [1], true, false⟩

/-- `t` differs from `s` at most in channels, banks, lamps, alarms and own frames on their way: what `outer` names, the
tables, the volume accounts and the points are those of `s`, the north queue has gained ALERT frames only and the south
queue lamp and wiper commands only. -/
def State.sameBase (s t : State) : Prop :=
  t.outer = s.outer ∧ t.tables = s.tables ∧ (∀ ch, t.totals ch = s.totals ch) ∧ t.points = s.points ∧
    (∃ made, s.areAlerts made ∧ t.north.queue = s.north.queue ++ made) ∧
    ∃ made, s.areCommands made ∧ t.south.queue = s.south.queue ++ made

/-- A channel's record without its start order list, which a bank leaves wherever it is listed (05, R87). -/
def Channel.butList (c : Channel) : Channel :=
  { c with startList := [] }

/-- Where a latched event leads (10, R169, at a priority other than 0). -/
def AlarmState.raised : AlarmState → AlarmState
  | .idle => .pending
  | .pending => .pending
  | .inService => .inServiceRecurred
  | .inServiceRecurred => .inServiceRecurred

/-- Between `s` and `t` a latched event was reported for one instance and no other instance moved (10, R169). -/
def State.raisedOnly (s t : State) (k : AlarmKind) (i : Nat) : Prop :=
  (t.alarm k i).state = (if s.priority k = 0 then (s.alarm k i).state else (s.alarm k i).state.raised) ∧
    (t.alarm k i).cause = (s.alarm k i).cause ∧
    ∀ q, q ≠ alarmSlot k i → t.alarms.get q = s.alarms.get q

/-- What a tapped frame puts behind `n` frames that its tap has put in the north queue: itself, unless it is for the
part or finds the queue full (08, R138, R139, R143). -/
def State.goingOn (s : State) (f : Frame) (n : Nat) : List QFrame :=
  if stationOf f.dst = s.address ∨ 16 ≤ s.north.queue.length + n then [] else [⟨f, false, false⟩]

/-- `t` is `s` but for the alarm unit and for the north queue, which has gained the ALERT frames that the alarm unit
made and then, where one is given, the tapped frame that goes on. -/
def State.onlyAlarms (s t : State) (tapped : Option Frame := none) : Prop :=
  { t with alarms := s.alarms, alertLine := s.alertLine, alertSlot := s.alertSlot,
           north := { t.north with queue := s.north.queue } } = s ∧
    ∃ made, s.areAlerts made ∧
      t.north.queue = s.north.queue ++ made ++ (match tapped with
        | some f => s.goingOn f made.length
        | none => [])

/-- Between `s` and `t` the command `c` was made in a lamp's slot: from an empty slot it has entered the south queue if
that had room within its limits, else it waits in the slot. `waiting` is the slot before, `slot` after (07, R131; 08,
R144). A SET over a STRIKE is not described here. -/
def State.placedIn (s t : State) (station : Nat) (waiting slot : Option LampCmd) (c : LampCmd) : Prop :=
  if waiting = none ∧ s.repeater = false ∧ s.south.queue.length < 16 ∧ s.south.ownCount < 8 then
    slot = none ∧
      t.south = { s.south with queue := s.south.queue ++ [⟨s.ownFrame station 0x03 c.payload, true, false⟩] }
  else slot = some c ∧ t.south = s.south

/-- Between `s` and `t` the own frame `f` has entered the south queue. -/
def State.sentSouth (s t : State) (f : Frame) : Prop :=
  s.repeater = false ∧ ∃ made, t.south.queue = s.south.queue ++ made ∧ ⟨f, true, false⟩ ∈ made

/-- An own command finds no place in the south queue of `t` (08, R137, R144). -/
def State.southFull (t : State) : Prop :=
  t.repeater = true ∨ 16 ≤ t.south.queue.length ∨ 8 ≤ t.south.ownCount

/-- Between `s` and `t` an event, which may have made other commands too, made the command `c` for a lamp, its record
`x` before and `z` after: from an empty slot it has entered the south queue, else it waits in the slot (07, R131; 08,
R144). -/
def State.cmdMade (s t : State) (x z : Lamp) (c : LampCmd) : Prop :=
  (z.cmd = some c ∧ (x.cmd ≠ none ∨ t.southFull)) ∨
    (x.cmd = none ∧ z.cmd = none ∧ s.sentSouth t (s.ownFrame x.station 0x03 c.payload))

/-- Between `s` and `t` an event tried, maybe among others, the strike path of a lamp with the record `y`, `z` being its
record after: with every condition met a STRIKE with the channel's code is made and the lamp is STRIKING, otherwise
nothing moves (07, R120). -/
def State.strikeTried (s t : State) (y z : Lamp) : Prop :=
  match (s.bank y.bank).owner with
  | some ch =>
    if (s.chan ch).dormant = false ∧ y.state = .off ∧ y.wanted = true ∧ y.unconfirmed = false ∧
        y.cool ≤ (s.chan ch).get .restrikeLevel then
      z = { y with
        state := .striking, strikeTimer := some (s.now + 1000 * (s.chan ch).get .strikeWindow), cmd := z.cmd } ∧
        s.cmdMade t y z (.strike (s.chan ch).power.code)
    else z = y
  | none => z = y

/-- Between `s` and `t` an event put out, maybe among others, a LIT lamp: `x` its record before, `z` after (07, R118).
-/
def State.putOut (s t : State) (x z : Lamp) : Prop :=
  z = { x with state := .off, wanted := false, clearTimer := none, cmd := z.cmd } ∧ s.cmdMade t x z .quench

/-- Between `s` and `t` an event made, maybe among others, the wanted-lit flag of a lamp `w`: `x` its record before, `z`
after (07, R118, R120, R132). -/
def State.flagBecame (s t : State) (w : Bool) (x z : Lamp) : Prop :=
  if x.wanted = w then z = x
  else if s.bankGoverned x.bank = false then z = { x with wanted := w }
  else if w = true then s.strikeTried t { x with wanted := true } z
  else match x.state with
    | .striking =>
      z = { x with wanted := false, state := .off, strikeTimer := none, cmd := z.cmd } ∧ s.cmdMade t x z .quench
    | .lit => s.putOut t x z
    | .retryWait => z = { x with wanted := false, state := .off, waitTimer := none }
    | .longWait => z = { x with wanted := false, state := .off, waitTimer := none }
    | .off => z = { x with wanted := false }
    | .dead => z = { x with wanted := false }

/-- A tracker after a step's blank field (06, R102; 03, R44; log 16). -/
def Tracker.afterBlank (k : Tracker) : BlankOp → Tracker
  | .set => { k with blank := true }
  | .clear => if k.blank = true then { k with blank := false, sf := none, sn := none, warm := false } else k
  | .keep => k

/-- Between `s` and `t` an event started the wiper of a bank, where `start` says so and the bank has a wiper station,
`slot` being its wiper slot after: the START has entered the south queue from an empty slot, else it waits (06, R111;
08, R144). -/
def State.wiperPlaced (s t : State) (b : BankId) (start : Bool) (slot : Option Nat) : Prop :=
  match start, (s.bank b).wiperStation with
  | true, some st =>
    (slot = some st ∧ ((s.bank b).wiperSlot ≠ none ∨ t.southFull)) ∨
      (slot = none ∧ (s.bank b).wiperSlot = none ∧ s.sentSouth t (s.ownFrame st 0x04 [1]))
  | _, _ => slot = (s.bank b).wiperSlot

/-- Between `s` and `t` the strike path of lamp `l` was tried, its record being `y` before: with every condition met a
STRIKE with the channel's code is made and the lamp is STRIKING, otherwise nothing moves (07, R120). -/
def State.triedStrike (s t : State) (l : LampId) (y : Lamp) : Prop :=
  match (s.bank y.bank).owner with
  | some ch =>
    if (s.chan ch).dormant = false ∧ y.state = .off ∧ y.wanted = true ∧ y.unconfirmed = false ∧
        y.cool ≤ (s.chan ch).get .restrikeLevel then
      ∃ slot, s.placedIn t y.station y.cmd slot (.strike (s.chan ch).power.code) ∧
        t.lamp l = some { y with
          state := .striking, strikeTimer := some (s.now + 1000 * (s.chan ch).get .strikeWindow), cmd := slot }
    else t.lamp l = some y ∧ t.south = s.south
  | none => t.lamp l = some y ∧ t.south = s.south

/-- Between `s` and `t` only lamp `l` and the south port's frames moved. -/
def State.lampOnly (s t : State) (l : LampId) : Prop :=
  { t with lamps := s.lamps, south := s.south } = s ∧ ∀ m, m ≠ l → t.lamp m = s.lamp m

/-! ### Passes, locks and lines -/

/-- Between `s` and `t` a pass of the channel counted `v` millilitres (01, R15 to R17, R19; 10, R179): into the totals,
and off-spec into the off-spec totals too, whose whole litres join the pulse remainder. Whole pulse volumes become
backlog, and a backlog that was 0 starts a pulse on an IDLE line. -/
def State.volumeCounted (s t : State) (ch : ChanId) (v : Nat) (offSpec : Bool) : Prop :=
  let c := s.chan ch
  let a := c.acct
  let b := (t.chan ch).acct
  let rem := a.pulseRem + (a.offMl + v) / 1000
  let n := min 255 (a.backlog + rem / c.get .pulseVolume)
  b.totalL = min 4294967295 (a.totalL + (a.totalMl + v) / 1000) ∧ b.totalMl = (a.totalMl + v) % 1000 ∧
    if offSpec then
      b.offL = min 4294967295 (a.offL + (a.offMl + v) / 1000) ∧ b.offMl = (a.offMl + v) % 1000 ∧
        b.pulseRem = rem % c.get .pulseVolume ∧
        if a.backlog = 0 ∧ 0 < n ∧ c.pulsePhase = .idle then
          b.backlog = n - 1 ∧ (t.chan ch).pulsePhase = .high ∧
            (t.chan ch).pulseTimer = some (s.now + c.get .pulseWidth)
        else b.backlog = n ∧ (t.chan ch).pulsePhase = c.pulsePhase ∧ (t.chan ch).pulseTimer = c.pulseTimer
    else
      b.offL = a.offL ∧ b.offMl = a.offMl ∧ b.pulseRem = a.pulseRem ∧ b.backlog = a.backlog ∧
        (t.chan ch).pulsePhase = c.pulsePhase ∧ (t.chan ch).pulseTimer = c.pulseTimer

/-- Between `s` and `t` the channel took a full pass with the results `r` (01, R10 to R17, R20; 04, R61, R67 to
R69). -/
def State.passTaken (s t : State) (ch : ChanId) (r : PassResult) : Prop :=
  let c := s.chan ch
  let d := t.chan ch
  let e := clampInt ((c.get .dtarget : Int) - r.dose) (-2000) 2000
  d.acct.lastDose = r.dose ∧ d.acct.bankDoses = r.doses ∧ d.acct.outOfRange = r.outRange ∧
    d.acct.offSpec = r.offSpec ∧
    d.acct.doseLow = (if r.dose < c.get .dtarget then min 255 (c.acct.doseLow + 1) else 0) ∧
    d.acct.lastPass = some s.now ∧ s.volumeCounted t ch (r.qm * s.elapsed ch) r.offSpec ∧
    d.power.ePrev = e ∧ d.power.pd = c.nextDemand e ∧ d.power.code = ballastCode c.ballastCurve d.power.pd ∧
    d.power.applied = (if d.power.code = c.power.code then c.power.applied else d.power.pd) ∧
    d.mode = c.mode ∧ d.prevMode = c.prevMode ∧ d.settings = c.settings

/-- The station holds the lock of each of the channels (09, R154). -/
def State.holdsLocks (s : State) (station : Nat) (chs : List ChanId) : Prop :=
  ∀ ch ∈ chs, (s.chan ch).holder = some station

/-- The profile-valid flags of the channels cleared, as a taken write does (05, R83; 09, R156). -/
def State.flagsCleared (s : State) (chs : List ChanId) : State :=
  { s with channels := build fun c => if c ∈ chs then { s.chan c with profileValid := false } else s.chan c }

/-- The ALERT line is asserted exactly while an instance is PENDING above the threshold, and never in repeater mode
(10, R174; 08, R137). -/
def State.lineRight (s : State) : Prop :=
  s.alertLine = true ↔ s.repeater = false ∧
    ∃ k i, i < k.scope ∧ (s.alarm k i).state = .pending ∧ s.threshold < s.priority k

/-! ### Lamp statuses -/

/-- Between `s` and `t` lamp `l` took the record `y` with the command `c` made in its slot, `x` being its record before
(07, R131). -/
def State.lampCommanded (s t : State) (l : LampId) (x y : Lamp) (c : LampCmd) : Prop :=
  ∃ slot, s.placedIn t x.station x.cmd slot c ∧ t.lamp l = some { y with cmd := slot }

/-- Between `s` and `t` only lamp `l` and the south port's frames moved, and the frame `f` went on north (08, R138,
R139). -/
def State.lampAndFrame (s t : State) (l : LampId) (f : Frame) : Prop :=
  { t with lamps := s.lamps, south := s.south, north := s.north } = s ∧ (∀ m, m ≠ l → t.lamp m = s.lamp m) ∧
    t.north = { s.north with queue := s.north.queue ++ [⟨f, false, false⟩] }

/-- A lit count of `n` calls for no transition of the bank, owned by the channel (05, R85, R95, R96). -/
def State.countQuiet (s : State) (ch : ChanId) (b : BankId) (n : Nat) : Prop :=
  ((s.bank b).state = .run → (s.bank b).get .minLampsLit ≤ n) ∧
    ((s.bank b).state = .warming → (s.bank b).tracker.warm = false ∨ n < (s.bank b).get .minLampsLit) ∧
    ((s.bank b).state = .dark → (s.chan ch).adoption = none ∨ n < (s.bank b).get .minLampsLit)

/-- A lamp of the bank is LIT by an adoption, and the bank is the channel's: what R85 puts out in a standing-down window
changes its lit count (log 17). -/
def State.putOutReaches (s : State) (ch : ChanId) (b : BankId) : Prop :=
  (s.bank b).owner = some ch ∧ ∃ m y, s.lamp m = some y ∧ y.bank = b ∧ y.state = .lit ∧ y.adopted = true

/-- How many lamps of the bank are LIT but by an adoption. -/
def State.struckLit (s : State) (b : BankId) : Nat :=
  s.countLamps b fun x => x.state = .lit && !x.adopted

/-- A RUN bank whose lit count the putting out changes and leaves below MinLampsLit (05, R85, R96). -/
def State.leftShort (s : State) (ch : ChanId) (b : BankId) : Prop :=
  s.putOutReaches ch b ∧ (s.bank b).state = .run ∧ s.struckLit b < (s.bank b).get .minLampsLit

/-- A WARMING bank with a PASS whose lit count the putting out changes and leaves at or above MinLampsLit (05, R85,
R95). -/
def State.leftWarm (s : State) (ch : ChanId) (b : BankId) : Prop :=
  s.putOutReaches ch b ∧ (s.bank b).state = .warming ∧ (s.bank b).tracker.warm = true ∧
    (s.bank b).get .minLampsLit ≤ s.struckLit b

/-- A strike failure's record and whether it makes the lamp DEAD (07, R122, R124). -/
def State.failureOf (s : State) (ch : ChanId) (x : Lamp) : Lamp × Bool :=
  let limit := if x.sets = 0 then (s.chan ch).get .firstSetRetries else (s.chan ch).get .runSetRetries
  let delay := 1000 * (s.chan ch).get .retryDelay
  if x.attempts + 1 < limit then
    ({ x with state := .retryWait, strikeTimer := none, attempts := x.attempts + 1,
              waitTimer := some (s.now + delay) }, false)
  else if x.sets + 1 < (s.chan ch).get .maxSets then
    ({ x with state := .longWait, strikeTimer := none, attempts := 0, sets := x.sets + 1,
              waitTimer := some (s.now + delay * (s.chan ch).get .longMult) }, false)
  else
    ({ x with state := .dead, strikeTimer := none, waitTimer := none, clearTimer := none, attempts := 0,
              sets := (s.chan ch).get .maxSets }, true)

/-! ### Staging -/

/-- A channel's start order list holds each bank at most once, and exactly its banks that are STRIKING, WARMING or RUN
(05, R87). -/
def State.listsSound (s : State) : Prop :=
  ∀ ch, (s.chan ch).startList.Nodup ∧
    ∀ b, b ∈ (s.chan ch).startList ↔
      (s.bank b).owner = some ch ∧
        ((s.bank b).state = .striking ∨ (s.bank b).state = .warming ∨ (s.bank b).state = .run)

/-- Bank `a` stands before bank `b` in position order (05, R91), and within one position by number (log 29). -/
def State.before (s : State) (a b : BankId) : Prop :=
  (s.bank a).get .position < (s.bank b).get .position ∨
    ((s.bank a).get .position = (s.bank b).get .position ∧ a < b)

/-- A DARK bank that the channel owns. -/
def State.darkOf (s : State) (ch : ChanId) (b : BankId) : Prop :=
  (s.bank b).owner = some ch ∧ (s.bank b).state = .dark

/-- Every installed lamp of the bank has a cooling index at or below the channel's RestrikeLevel (05, R91). -/
def State.cooled (s : State) (ch : ChanId) (b : BankId) : Prop :=
  ∀ l x, s.lamp l = some x → x.bank = b → x.cool ≤ (s.chan ch).get .restrikeLevel

/-- The bank a stage-up selects: the first cooled DARK bank, and where none is cooled the first DARK bank (05, R91). -/
def State.selected (s : State) (ch : ChanId) (b : BankId) : Prop :=
  s.darkOf ch b ∧
    ((s.cooled ch b ∧ ∀ c, s.darkOf ch c → s.cooled ch c → c ≠ b → s.before b c) ∨
      ((∀ c, s.darkOf ch c → ¬ s.cooled ch c) ∧ ∀ c, s.darkOf ch c → c ≠ b → s.before b c))

/-- A list bank is STRIKING or WARMING, which holds staging back (05, R92, R93). -/
def State.listLighting (s : State) (ch : ChanId) : Prop :=
  ∃ b ∈ (s.chan ch).startList, (s.bank b).state = .striking ∨ (s.bank b).state = .warming

/-- How many DARK banks the channel owns. -/
def State.darkCount (s : State) (ch : ChanId) : Nat :=
  (List.finRange 12).countP fun b => (s.bank b).owner = some ch && (s.bank b).state = .dark

/-- The bank staged up: STRIKING at the start of its STRIKE program, at the end of the list, any WIPE abandoned (05,
R91; 06, R101, R105). -/
def State.stagedUp (s : State) (ch : ChanId) (b : BankId) : State :=
  (s.modBank b fun x => { x with
    state := .striking
    running := some .strike
    stepIdx := 0
    stepTimer := some (s.now + 10 * 2 ^ (x.strike.get 0).k)
    wipeDue := false
    tracker := if x.tracker.blank then { x.tracker with blank := false, sf := none, sn := none, warm := false }
      else x.tracker }).modChan ch fun c => { c with startList := c.startList ++ [b] }

/-- Between `s` and `t` the bank, listed by the channel, was staged down: QUENCHING at the start of its QUENCH program,
out of the list, what it ran abandoned (05, R92, R97; 03, R54). Its tracker, described apart, is that of `t`. -/
def State.stagedDown (s t : State) (ch : ChanId) (b : BankId) : State :=
  (s.modBank b fun x => { x with
    state := .quenching
    running := some .quench
    stepIdx := 0
    stepTimer := some (s.now + 10 * 2 ^ (x.quench.get 0).k)
    wipeDue := false
    wipeInterval := if x.state = .run then none else x.wipeInterval
    warmTimer := none
    tracker := (t.bank b).tracker }).modChan ch fun c => { c with startList := c.startList.filter (· ≠ b) }

/-- The tracker of a bank that has left its list for QUENCHING or LOCKED or the like: no blank, and after RUN no
reference and no sag (03, R44, R54). -/
def Tracker.left (old new : Tracker) (was : BankState) : Prop :=
  new.blank = false ∧ new.settleTimer = old.settleTimer ∧ new.sf = (if old.blank then none else old.sf) ∧
    (was = .run → new.sref = none ∧ new.reseed = false ∧ new.sag = .clear ∧ new.sagTimer = none) ∧
    (was = .warming ∨ was = .run → new.sn = none ∧ new.warm = false)

/-- The channel takes bank `b` before bank `c`: cooled banks go before others, and those alike in that by their places
(05, R91). -/
def State.goesBefore (s : State) (ch : ChanId) (b c : BankId) : Prop :=
  (s.cooled ch c → s.cooled ch b) ∧ ((s.cooled ch b ↔ s.cooled ch c) → s.before b c)

/-- Between `s` and `t` the review of an AUTO channel served its pending requests while DARK banks lasted: it staged
up the first DARK banks, one for each request, in the order in which staging takes them, and took no further action,
and STAGE_EXHAUSTED holds where requests are left over (05, R91, R92). -/
def State.requestsServed (s t : State) (ch : ChanId) (tapped : Option Frame := none) : Prop :=
  ∃ staged : List BankId, staged.length = min (s.chan ch).pendingUp (s.darkCount ch) ∧
    (∀ b ∈ staged, s.darkOf ch b) ∧ staged.Pairwise (fun b c => b ≠ c ∧ s.goesBefore ch b c) ∧
    (∀ b c, b ∈ staged → c ∉ staged → s.darkOf ch c → s.goesBefore ch b c) ∧
    ({ (s.modChan ch fun c => { c with
        startList := c.startList ++ staged
        pendingUp := c.pendingUp - staged.length
        upCount := 0
        downCount := 0 }) with
      banks := build fun b => if b ∈ staged then (s.stagedUp ch b).bank b else s.bank b } : State).onlyAlarms t tapped ∧
    ((t.alarm .stageExhausted ch.1).cause = true ↔ s.darkCount ch < (s.chan ch).pendingUp)

/-- Between `s` and `t` the review of an AUTO channel staged down the last bank of its list, the counters and the
pending count becoming 0 (05, R92). -/
def State.surplusServed (s t : State) (ch : ChanId) (tapped : Option Frame := none) : Prop :=
  ∀ b, (s.chan ch).startList.getLast? = some b →
    ((s.stagedDown t ch b).modChan ch fun c =>
      { c with pendingUp := 0, upCount := 0, downCount := 0 }).onlyAlarms t tapped ∧
    Tracker.left (s.bank b).tracker (t.bank b).tracker (s.bank b).state

/-- Between `s` and `t` a stage-up request reached the channel (05, R90). An AUTO channel outside the window counts it
and is reviewed (R91, R92), one in EDIT or in the window counts it, and any other discards it. -/
def State.requested (s t : State) (ch : ChanId) (tapped : Option Frame := none) : Prop :=
  ∀ (c : Channel) (u : State), c = s.chan ch →
    u = s.modChan ch (fun c => { c with pendingUp := min 4 (c.pendingUp + 1) }) →
    (c.mode = .unarmed ∨ (c.adoption = none ∧ c.mode ≠ .auto ∧ c.mode ≠ .edit) → s.onlyAlarms t tapped) ∧
    (c.mode = .edit ∨ (c.adoption ≠ none ∧ c.mode ≠ .unarmed) → u.onlyAlarms t tapped) ∧
    (c.mode = .auto → c.adoption = none →
      (s.darkCount ch ≠ 0 → u.requestsServed t ch tapped) ∧
      (s.darkCount ch = 0 → s.listsSound →
        (c.downCount < c.get .stageDownPasses ∨ s.listLighting ch ∨ c.startList.length ≤ c.get .minBanks →
          u.onlyAlarms t tapped ∧ (t.alarm .stageExhausted ch.1).cause = true) ∧
        (c.get .stageDownPasses ≤ c.downCount → ¬ s.listLighting ch → c.get .minBanks < c.startList.length →
          u.surplusServed t ch tapped)))

/-! ### Point entries -/

/-- Between `s` and `t`, a write of the point map, each consumer's point was chosen anew and the consumer took what that
gives it, only ALERT frames going north (02, R27, R34, R36 to R38; 01, R4; 03, R45; 06, R113). -/
def State.pointsRechosen (s t : State) : Prop :=
  (∀ ch, t.flowPoint ch ≠ s.flowPoint ch →
    ((t.alarm .flowStale ch.1).cause = true ↔ (s.chan ch).mode ≠ .unarmed ∧ t.freshPoint (t.flowPoint ch) = false) ∧
      (t.freshPoint (t.flowPoint ch) = true → (t.chan ch).acct.fallback = none) ∧
      (t.freshPoint (t.flowPoint ch) = false → (s.chan ch).mode ≠ .unarmed →
        (t.chan ch).acct.fallback = some (s.now + (s.chan ch).get .passFallback))) ∧
  (∀ ch,
    (t.freshPoint (t.uvtPoint ch) = true → t.uvtPoint ch ≠ s.uvtPoint ch →
      (t.chan ch).uvtUse = .fresh ∧ (t.chan ch).uvtHold = none) ∧
    (t.freshPoint (t.uvtPoint ch) = false → t.uvtPoint ch ≠ s.uvtPoint ch ∨ t.pointNum (t.uvtPoint ch) = none →
      (t.chan ch).uvtUse = .failsafe ∧ (t.chan ch).uvtHold = none) ∧
    (t.uvtPoint ch = s.uvtPoint ch → t.freshPoint (t.uvtPoint ch) = true ∨ t.pointNum (t.uvtPoint ch) ≠ none →
      (t.chan ch).uvtUse = (s.chan ch).uvtUse ∧ (t.chan ch).uvtHold = (s.chan ch).uvtHold) ∧
    ((t.chan ch).uvtUse ≠ (s.chan ch).uvtUse →
      ((t.alarm .uvtStale ch.1).cause = true ↔ (s.chan ch).mode ≠ .unarmed ∧ (t.chan ch).uvtUse ≠ .fresh))) ∧
  (∀ b, t.intensityPoint b ≠ s.intensityPoint b →
    (t.bank b).tracker.sf = none ∧ (t.bank b).tracker.sn = none ∧ (t.bank b).tracker.warm = false ∧
      ((t.alarm .intensityStale b.1).cause = true ↔
        (∃ ch, (s.bank b).owner = some ch ∧ (s.chan ch).mode ≠ .unarmed) ∧ (s.bank b).state ≠ .locked ∧
          t.freshPoint (t.intensityPoint b) = false)) ∧
  (∀ b, (t.bank b).supervision = (s.bank b).supervision ∧ (t.bank b).wipeLimit = (s.bank b).wipeLimit ∧
    (t.bank b).lastWipe = (s.bank b).lastWipe) ∧
  ∃ made, s.areAlerts made ∧ t.north.queue = s.north.queue ++ made

/-! ### Profiles -/

/-- Step `i` of a program is run: no step before it is marked last (06, R106). -/
def runsStep (p : Vector Step 8) (i : Fin 8) : Prop :=
  ∀ j, j < i → (p.get j).last = false

/-- The program's final set is `m` (06, R106). -/
def endsWithSet (p : Vector Step 8) (m : Byte) : Prop :=
  ∃ i, runsStep p i ∧ (p.get i).set = some m ∧ ∀ j, i < j → runsStep p j → (p.get j).set = none

/-- The bank's programs have a good shape (06, R106). -/
def State.shapeGood (s : State) (b : BankId) : Prop :=
  (∃ m, endsWithSet (s.bank b).strike m ∧
      ∀ n, n < 8 → (m.getLsbD n = true ↔ ∃ l x, s.lamp l = some x ∧ x.bank = b ∧ x.slot = n)) ∧
    endsWithSet (s.bank b).quench 0 ∧ (∀ i, runsStep (s.bank b).wipe i → ((s.bank b).wipe.get i).set = none) ∧
    ((s.bank b).wiperStation ≠ none ↔ ∃ i, runsStep (s.bank b).wipe i ∧ ((s.bank b).wipe.get i).wiper = true)

/-- A curve's x is strictly increasing and its y nowhere decreases (09, Table 9-5). -/
def curveRises (c : Vector CurvePoint 8) : Prop :=
  ∀ i : Fin 7, (c.get i.castSucc).x < (c.get i.succ).x ∧ (c.get i.castSucc).y ≤ (c.get i.succ).y

/-- A bank lacks what its channel's profile needs of it (09, Table 9-5, BANK_INCOMPLETE). -/
def State.lacking (s : State) (b : BankId) : Prop :=
  s.intensityPoint b = none ∨ (s.installed b).length = 0 ∨ (s.installed b).length < (s.bank b).get .minLampsLit

/-- Among the channel's banks, in ascending number, `b` is the first for which `bad` holds (09, R160). -/
def State.firstOwned (s : State) (ch : ChanId) (bad : BankId → Prop) (b : BankId) : Prop :=
  (s.bank b).owner = some ch ∧ bad b ∧ ∀ a, a < b → (s.bank a).owner = some ch → ¬ bad a

/-- `b` is the second, in number, of the channel's banks at its position, and no two of its banks share a lower one (09,
R160, POSITION_CLASH). -/
def State.clashesAt (s : State) (ch : ChanId) (b : BankId) : Prop :=
  (s.bank b).owner = some ch ∧
    (∃ a, a < b ∧ (s.bank a).owner = some ch ∧ (s.bank a).get .position = (s.bank b).get .position ∧
      ∀ c, c < b → (s.bank c).owner = some ch → (s.bank c).get .position = (s.bank b).get .position → c = a) ∧
    ∀ c d, c < d → (s.bank c).owner = some ch → (s.bank d).owner = some ch →
      (s.bank c).get .position = (s.bank d).get .position →
      (s.bank b).get .position ≤ (s.bank c).get .position

/-- Check number `k` of Table 9-5 fails for the channel, `n` being the number of the bank it reports, 255 for none (09,
R160; 11, R183). -/
def State.checkFails (s : State) (ch : ChanId) (k n : Nat) : Prop :=
  let c := s.chan ch
  (k = 1 ∧ n = 255 ∧ s.flowPoint ch = none) ∨ (k = 2 ∧ n = 255 ∧ s.uvtPoint ch = none) ∨
    (k = 3 ∧ n = 255 ∧ ∀ b, (s.bank b).owner ≠ some ch) ∨
    (k = 4 ∧ ∃ b : BankId, n = b.1 ∧ s.clashesAt ch b) ∨
    (k = 5 ∧ ∃ b : BankId, n = b.1 ∧ s.firstOwned ch s.lacking b) ∨
    (k = 6 ∧ ∃ b : BankId, n = b.1 ∧
      s.firstOwned ch (fun a => (s.bank a).wiperStation ≠ none ∧ s.wiperPoint a = none) b) ∨
    (k = 7 ∧ n = 255 ∧ ¬ (curveRises c.uvtCurve ∧ curveRises c.ballastCurve)) ∨
    (k = 8 ∧ n = 255 ∧ (c.get .pmin < (c.ballastCurve.get 0).x ∨ (c.ballastCurve.get 7).x ≠ 1000)) ∨
    (k = 9 ∧ ∃ b : BankId, n = b.1 ∧ s.firstOwned ch (fun a => ¬ s.shapeGood a) b) ∨
    (k = 10 ∧ n = 255 ∧ (c.get .qmax < c.get .qmin ∨ c.get .stageDownLevel < c.get .pmin ∨
      ((List.finRange 12).filter fun b => (s.bank b).owner = some ch).length < c.get .minBanks))

/-! ### Timers of timer commands -/

/-- The timer whose expiry a timer command is (00, section 4.5). The pulse line has one timer, its width timer in HIGH
and its gap timer in GAP (10, R179). -/
def State.timerOf (s : State) : Instr → Timer
  | .fallbackTimerExpiry ch => (s.chan ch).acct.fallback
  | .freshnessTimerExpiry p => (s.point p).bind fun x => x.timer
  | .uvtHoldTimerExpiry ch => (s.chan ch).uvtHold
  | .sagTimerExpiry b => (s.bank b).tracker.sagTimer
  | .settleTimerExpiry b => (s.bank b).tracker.settleTimer
  | .manualLeaseExpiry ch => (s.chan ch).manualLease
  | .adoptionWindowExpiry ch => (s.chan ch).adoption
  | .warmLimitExpiry b => (s.bank b).warmTimer
  | .faultRestExpiry b => (s.bank b).faultTimer
  | .editLeaseLapse ch => (s.chan ch).editLease
  | .stepTimerExpiry b => (s.bank b).stepTimer
  | .wipeIntervalExpiry b => (s.bank b).wipeInterval
  | .wipeLimitExpiry b => (s.bank b).wipeLimit
  | .strikeWindowExpiry l => (s.lamp l).bind fun x => x.strikeTimer
  | .waitTimerExpiry l => (s.lamp l).bind fun x => x.waitTimer
  | .dropoutClearExpiry l => (s.lamp l).bind fun x => x.clearTimer
  | .coolingStep l => (s.lamp l).bind fun x => x.coolTimer
  | .pulseWidthExpiry ch => if (s.chan ch).pulsePhase = .high then (s.chan ch).pulseTimer else none
  | .pulseGapExpiry ch => if (s.chan ch).pulsePhase = .gap then (s.chan ch).pulseTimer else none
  | _ => none

/-- The timer of a timer command runs and its instant has come. -/
def State.expired (s : State) (i : Instr) : Prop :=
  ∃ d, s.timerOf i = some d ∧ d ≤ s.now

/-! ### Invariants of a sound state -/

/-- Each outgoing queue holds at most 16 frames, of which at most 8 own (08, R142). -/
def State.queuesBounded (s : State) : Prop :=
  ∀ p, (s.port p).queue.length ≤ 16 ∧ (s.port p).ownCount ≤ 8

/-- The volume accounts are sound (01, R15, R16): remainders below a litre, totals saturating at 4294967295, and the
off-spec volume at most the total volume unless the total has saturated. -/
def Accounting.sound (a : Accounting) : Prop :=
  a.totalMl < 1000 ∧ a.offMl < 1000 ∧ a.totalL ≤ 4294967295 ∧ a.offL ≤ 4294967295 ∧
    (a.totalL = 4294967295 ∨ a.offL * 1000 + a.offMl ≤ a.totalL * 1000 + a.totalMl)

def State.totalsSound (s : State) : Prop :=
  ∀ ch, (s.chan ch).acct.sound

/-- A channel's lock is held exactly while it is in EDIT (09, section 9.3), and the mode EDIT was entered from is not
EDIT (05, Table 5-1). -/
def Channel.lockSound (c : Channel) : Prop :=
  (c.holder.isSome ↔ c.mode = .edit) ∧ c.prevMode ≠ .edit

def State.locksSound (s : State) : Prop :=
  ∀ ch, (s.chan ch).lockSound

/-- The pulse remainder lies below PulseVolume and the backlog is at most 255 (01, R17). -/
def Channel.pulseSound (c : Channel) : Prop :=
  1 ≤ c.get .pulseVolume ∧ c.acct.pulseRem < c.get .pulseVolume ∧ c.acct.backlog ≤ 255

def State.pulsesSound (s : State) : Prop :=
  ∀ ch, (s.chan ch).pulseSound

/-- A STRIKE runs in a STRIKING bank only, a QUENCH in a QUENCHING one (06, R101, R105). -/
def State.programsSound (s : State) : Prop :=
  ∀ b, ((s.bank b).running = some .strike → (s.bank b).state = .striking) ∧
    ((s.bank b).running = some .quench → (s.bank b).state = .quenching)

/-- No two in-place point entries share station and index, no two in-place lamp entries share a station or a bank and
slot, and no channel owns more than four banks (09, R155). -/
def State.entriesUnique (s : State) : Prop :=
  (∀ p q x y, s.point p = some x → s.point q = some y → x.cfg.station = y.cfg.station →
    x.cfg.index = y.cfg.index → p = q) ∧
  (∀ l m x y, s.lamp l = some x → s.lamp m = some y → x.station = y.station → l = m) ∧
  (∀ l m x y, s.lamp l = some x → s.lamp m = some y → x.bank = y.bank → x.slot = y.slot → l = m) ∧
  ∀ ch, (s.ownedBanks ch).length ≤ 4

/-- A safe run keeps every invariant above, with no event left in progress between commands. -/
def State.sound (s : State) : Prop :=
  s.queuesBounded ∧ s.totalsSound ∧ s.pulsesSound ∧ s.locksSound ∧ s.listsSound ∧ s.programsSound ∧
    s.entriesUnique ∧ s.atRest

end Sys2Proof.Machine
end

