-- ==== Sys2Proof/Certificates/Slice0/Obligations.lean ====
section
/-! DEFINITION. The statements about the part for the provers, each with the rules of spec/ it rests on. A statement
with premises has its witness in Sys2Proof/Tests/Slice0.lean. -/

open Sys2Proof Sys2Proof.Machine

/-! ### Steps and time -/

/-- A step takes the command at the front and runs it with the queue's rest. -/
def Obligations.StepRunsTheFrontCommand : Prop :=
  ∀ (c : Instr) (rest : List Instr) (s : State),
    step { s with pending := c :: rest } = exec c { s with pending := rest }

/-- On an empty queue one millisecond passes, and exactly the timers that have run out by then queue their expiries
(00, section 4.5). The tick is the model's choice (log 1). -/
def Obligations.IdleStepIsOneMillisecond : Prop :=
  ∀ s : State, s.pending = [] →
    ∃ t, step s = .next t ∧ t.now = s.now + 1 ∧ { t with now := s.now, pending := [] } = s ∧
      ∀ i, i ∈ t.pending ↔ ∃ d, s.timerOf i = some d ∧ d ≤ s.now + 1

/-- A timer command whose timer is stopped, or runs on, changes nothing: an expiry that another event has forestalled
does not happen (01 R4, 02 R33, 07 R121). That such a command may arrive is the model's choice (log 2). -/
def Obligations.ExpiryNeedsItsTimer : Prop :=
  ∀ (i : Instr) (s : State), i.isExpiry = true → s.atRest → ¬ s.expired i → exec i s = .next s

/-! ### Resets -/

/-- FULL_RESET: every block at its full reset values (01 R1, R23; 02 R39; 03 R58; 04 R74; 05 R76, R94; 06 R100, R114;
07 R133; 08 R136, R148; 09 R167; 10 R177, R179). That the time base and the queue of commands go on is the model's
choice (log 4). -/
def Obligations.FullResetSetsEveryBlock : Prop :=
  ∀ (straps : BitVec 7) (s : State), ∃ t, exec (.fullReset straps) s = .next t ∧
    t.now = s.now ∧ t.pending = s.pending ∧ t.straps = straps ∧ t.address = straps.toNat ∧
    (∀ ch, (t.chan ch).settings.toList =
        [300, 10, 30000, 30000, 0, 5, 1000, 1000, 300, 64, 16, 40, 0, 300, 10, 30, 500, 1,
         10, 30, 8, 3, 2, 4, 1, 600, 40, 400, 200, 4, 300, 100, 100] ∧
      (t.chan ch).uvtCurve.toList.map (fun p => (p.x, p.y)) =
        [(400, 300), (450, 450), (500, 600), (550, 750), (600, 900), (650, 1024), (700, 1150), (750, 1280)] ∧
      (t.chan ch).ballastCurve.toList.map (fun p => (p.x, p.y)) =
        [(100, 20), (200, 45), (300, 70), (400, 95), (600, 145), (800, 195), (900, 230), (1000, 255)] ∧
      (t.chan ch).mode = .unarmed ∧ (t.chan ch).prevMode = .unarmed ∧ (t.chan ch).manualValue = 0 ∧
      (t.chan ch).manualCount = 0 ∧ (t.chan ch).manualLease = none ∧ (t.chan ch).startList = [] ∧
      (t.chan ch).upCount = 0 ∧ (t.chan ch).downCount = 0 ∧ (t.chan ch).pendingUp = 0 ∧
      (t.chan ch).adoption = none ∧ (t.chan ch).profileValid = false ∧ (t.chan ch).holder = none ∧
      (t.chan ch).editLease = none ∧ (t.chan ch).pulsePhase = .idle ∧ (t.chan ch).pulseTimer = none ∧
      (t.chan ch).uvtUse = .failsafe ∧ (t.chan ch).uvtHold = none ∧
      (t.chan ch).power = { pd := 1000, ePrev := 0, applied := 1000, code := 255 } ∧
      (t.chan ch).acct =
        { lastDose := 0, bankDoses := Vector.replicate 4 0, lastPass := none, outOfRange := false, offSpec := false,
          doseLow := 0, totalL := 0, totalMl := 0, offL := 0, offMl := 0, pulseRem := 0, backlog := 0,
          fallback := none }) ∧
    (∀ b, (t.bank b).settings.toList =
        [400, 2, 8, 3000, 16, 32, 64, 3, 3, 900, 0, 20000, 154, 179, 0, 6, 300, 600, 240, 60] ∧
      (t.bank b).owner = none ∧ (t.bank b).wiperStation = none ∧ (t.bank b).state = .dark ∧
      (t.bank b).running = none ∧ (t.bank b).stepTimer = none ∧ (t.bank b).wipeInterval = none ∧
      (t.bank b).wipeDue = false ∧ (t.bank b).wiperSlot = none ∧ (t.bank b).supervision = .idle ∧
      (t.bank b).wipeLimit = none ∧ (t.bank b).lastWipe = .none ∧ (t.bank b).warmTimer = none ∧
      (t.bank b).faultTimer = none ∧
      (t.bank b).tracker =
        { sf := none, sn := none, sref := none, reseed := false, sag := .clear, sagTimer := none, settleTimer := none,
          blank := false, warm := false } ∧
      (t.bank b).strike.toList = [⟨0, some 0x03, false, .keep, false⟩, ⟨6, some 0x0F, false, .keep, false⟩,
        ⟨6, some 0x3F, false, .keep, false⟩, ⟨6, some 0xFF, false, .keep, true⟩] ++
        List.replicate 4 ⟨0, none, false, .keep, false⟩ ∧
      (t.bank b).quench.toList = [⟨0, some 0x00, false, .keep, true⟩] ++
        List.replicate 7 ⟨0, none, false, .keep, false⟩ ∧
      (t.bank b).wipe.toList = [⟨0, none, true, .set, false⟩, ⟨12, none, false, .clear, true⟩] ++
        List.replicate 6 ⟨0, none, false, .keep, false⟩) ∧
    (∀ l, t.lamp l = none) ∧ (∀ p, t.point p = none) ∧
    t.priorities.toList = [3, 6, 6, 4, 5, 7, 5, 2, 6, 4, 2, 2, 4, 2, 2, 2, 2, 2] ∧
    t.threshold = 0 ∧ t.alertDest = 127 ∧
    t.alarm .restarted 0 = ⟨.pending, false⟩ ∧
    (∀ q, q ≠ alarmSlot .restarted 0 → t.alarms.get q = ⟨.idle, false⟩) ∧
    (∀ p, (t.port p).errors = 0 ∧ (t.port p).errorLimit = 16) ∧ t.south.queue = [] ∧ t.replySlot = none ∧
    t.pointer = 75 ∧ t.restartPending = false ∧
    (t.repeater = false → t.alertLine = true ∧ t.alertSlot = none ∧
      t.north.queue = [⟨⟨127, BitVec.ofNat 8 t.address, 0x12, [1, 0, 3]⟩, true, false⟩]) ∧
    (t.repeater = true → t.alertLine = false ∧ t.north.queue = [] ∧
      t.alertSlot = some ⟨127, BitVec.ofNat 8 t.address, 0x12, [1, 0, 3]⟩)

/-- The state right after a full reset meets every invariant of a sound state (01 R16, R17; 05 R87; 08 R142; 09
R155). -/
def Obligations.ResetIsSound : Prop :=
  ∀ straps : BitVec 7, (State.afterReset straps).sound

/-- RESTART is answered DONE and sets restart pending (09, R166). The warm restart takes place at the completion of that
reply's transmission: in the model the TRANSMISSION_COMPLETE performs it, in the same step, as the WARM_RESTART row does
with the straps then read. That the straps' levels are a free value there (log 3), and that the row is that completion
and the restart in one (log 14), are the model's choices. -/
def Obligations.RestartIsAnsweredThenTaken : Prop :=
  (∀ (r : Sender) (s : State), s.ready →
    exec (.restart r) s =
      .next (({ s with restartPending := true } : State).withReply r 0x0E [0] (restart := true))) ∧
  ∀ (p : Port) (h : QFrame) (q : List QFrame) (s : State),
    (s.port p).queue = h :: q → h.restart = true → s.restartPending = true →
    exec (.transmissionComplete p) s =
      exec (.warmRestart (Config.strapsRead s.strapReads)) { s with strapReads := s.strapReads + 1 }

/-- WARM_RESTART, restart pending and the RESTART reply in transmission: what every block takes (01 R23; 02 R40; 03 R58;
04 R74; 05 R98; 06 R114; 07 R133; 08 R148; 09 R166; 10 R174, R177, R179), every alarm instance and the ALERT line
included. That otherwise nothing happens (log 14), and that the last wipe result becomes NONE (R114 against R113, log
42), are the model's choices. -/
def Obligations.WarmRestartRestartsEveryBlock : Prop :=
  (∀ (straps : BitVec 7) (s : State),
    s.restartPending = false ∨ (∀ p h, (s.port p).queue.head? = some h → h.restart = false) →
    exec (.warmRestart straps) s = .next s) ∧
  ∀ (straps : BitVec 7) (p : Port) (h : QFrame) (s : State),
    s.restartPending = true → (s.port p).queue.head? = some h → h.restart = true →
    ∃ t, exec (.warmRestart straps) s = .next t ∧
      t.now = s.now ∧ t.pending = s.pending ∧ t.straps = straps ∧ t.address = straps.toNat ∧
      t.restartPending = false ∧ t.replySlot = none ∧ t.pointer = 75 ∧ t.south.queue = [] ∧
      (∀ p, (t.port p).errors = 0) ∧ (∀ f ∈ t.north.queue, f.own = true ∧ f.frame.kind = 0x12) ∧
      t.tables = s.tables ∧ (∀ ch, t.totals ch = s.totals ch) ∧
      (∀ ch,
        (t.chan ch).mode = (match (s.chan ch).mode with
          | .edit => if (s.chan ch).profileValid then .auto else .unarmed
          | .manual => .auto
          | m => m) ∧
        (t.chan ch).prevMode = (s.chan ch).prevMode ∧ (t.chan ch).manualValue = (s.chan ch).manualValue ∧
        (t.chan ch).manualCount = (s.chan ch).manualCount ∧ (t.chan ch).profileValid = (s.chan ch).profileValid ∧
        (t.chan ch).manualLease = none ∧ (t.chan ch).holder = none ∧ (t.chan ch).editLease = none ∧
        (t.chan ch).startList = [] ∧ (t.chan ch).upCount = 0 ∧ (t.chan ch).downCount = 0 ∧
        (t.chan ch).pendingUp = 0 ∧ (t.chan ch).uvtUse = .failsafe ∧ (t.chan ch).uvtHold = none ∧
        (t.chan ch).acct.lastDose = 0 ∧ (t.chan ch).acct.bankDoses = Vector.replicate 4 0 ∧
        (t.chan ch).acct.lastPass = none ∧ (t.chan ch).acct.outOfRange = false ∧
        (t.chan ch).acct.offSpec = false ∧ (t.chan ch).acct.doseLow = 0 ∧
        (t.chan ch).acct.pulseRem = (s.chan ch).acct.pulseRem ∧
        (t.chan ch).acct.backlog = (s.chan ch).acct.backlog ∧
        (t.chan ch).pulsePhase = .gap ∧
        (t.chan ch).pulseTimer = some (s.now + (s.chan ch).get .pulseGap) ∧
        ((t.chan ch).mode ≠ .unarmed → (t.chan ch).adoption = some (s.now + 10000) ∧
          (t.chan ch).acct.fallback = some (s.now + (s.chan ch).get .passFallback) ∧
          (t.chan ch).power = { pd := 1000, ePrev := 0, applied := 1000, code := ((s.chan ch).ballastCurve.get 7).y } ∧
          (t.alarm .flowStale ch.1).cause = true ∧ (t.alarm .uvtStale ch.1).cause = true) ∧
        ((t.chan ch).mode = .unarmed → (t.chan ch).adoption = none ∧ (t.chan ch).acct.fallback = none ∧
          (t.chan ch).power = (s.chan ch).power ∧
          (t.alarm .flowStale ch.1).cause = false ∧ (t.alarm .uvtStale ch.1).cause = false)) ∧
      (∀ b, t.bank b = { s.bank b with
        state := if (s.bank b).state = .locked then .locked else .dark
        tracker :=
          { sf := none, sn := none, sref := none, reseed := false, sag := .clear, sagTimer := none, settleTimer := none,
            blank := false, warm := false }
        running := none
        stepTimer := none
        wipeInterval := none
        wipeDue := false
        wiperSlot := none
        supervision := .idle
        wipeLimit := none
        lastWipe := .none
        warmTimer := none
        faultTimer := none }) ∧
      (∀ l x, s.lamp l = some x → t.lamp l = some (
        if x.state = .dead then { x with strikeTimer := none, waitTimer := none, clearTimer := none, cmd := none }
        else { x with state := .off, wanted := false, unconfirmed := true, cool := 1000, attempts := 0, sets := 0,
                      dropouts := 0, strikeTimer := none, waitTimer := none, clearTimer := none, cmd := none })) ∧
      (∀ p x, s.point p = some x →
        t.point p = some { x with value := none, fresh := false, timer := none, quality := none, accepted := none }) ∧
      (t.alarm .restarted 0).state = (if s.priority .restarted = 0 then .idle else .pending) ∧
      (∀ k i, k.latched = true → k ≠ .restarted → i < k.scope → t.alarm k i = ⟨.idle, false⟩) ∧
      (∀ k i, k.latched = false → i < k.scope →
        (k ≠ .flowStale → k ≠ .uvtStale → k ≠ .intensityStale → (t.alarm k i).cause = false) ∧
        (t.alarm k i).state = if (t.alarm k i).cause = true ∧ s.priority k ≠ 0 then .pending else .idle) ∧
      (∀ b, (t.alarm .intensityStale b.1).cause = true ↔
        (s.bank b).state ≠ .locked ∧ ∃ ch, (s.bank b).owner = some ch ∧ (t.chan ch).mode ≠ .unarmed) ∧
      t.lineRight

/-! ### Frames on the line -/

/-- A frame of at most 48 bytes of payload is read back from its bytes (08 R134; 11 R180, R181), and the frame rows are
the reception of those bytes; one flipped bit anywhere makes the bytes a faulty frame. -/
def Obligations.FrameBytesAreReadBackAndGuarded : Prop :=
  (∀ f : Frame, f.payload.length ≤ 48 → Frame.ofBytes f.toBytes = some f) ∧
  (∀ (dst src : Byte) (payload : List Byte) (s : State), payload.length ≤ 48 →
    exec (.frameReception .south (Frame.mk dst src 0x01 payload).toBytes) s = exec (.sampleFrame dst src payload) s ∧
    exec (.frameReception .south (Frame.mk dst src 0x02 payload).toBytes) s =
      exec (.lampStatusFrame dst src payload) s ∧
    exec (.frameReception .north (Frame.mk dst src 0x03 payload).toBytes) s = exec (.lampCmdFrame dst src payload) s ∧
    exec (.frameReception .north (Frame.mk dst src 0x04 payload).toBytes) s =
      exec (.wiperCmdFrame dst src payload) s) ∧
  ∀ (f : Frame) (i : Nat) (b : Byte) (k : Nat), f.payload.length ≤ 48 → f.toBytes[i]? = some b → k < 8 →
    Frame.ofBytes (f.toBytes.set i (b ^^^ BitVec.twoPow 8 k)) = none

/-- DECODE AND ENCODE AGREE. The frame that carries a request to the part, received on the request's port, runs exactly
the request's row (08 R138; 09 R150; 11 R183, Table 11-8). WRITE_PROGRAM is left out: the manual gives its content no
layout that fits a frame (log 5). The forms of the fields by R183's scheme (log 8), the length that a table or setting
that does not exist gives (log 11) and the zero bytes of SET MODE UNARM (log 37) are the model's choices. -/
def Obligations.RequestFrameRunsItsCommand : Prop :=
  ∀ (i : Instr) (r : Sender) (req : Request) (s : State),
    i.request = some (r, req) → i.wf = true → (∀ b p l, req ≠ .writeProgram b p l) → s.address < 128 →
    exec (.frameReception r.port (requestFrame s.address r req).toBytes) s = exec i s

/-- A faulty frame is counted on its port, saturating at 65535, and raises LINE_ERRORS when it brings the count to a
multiple of ErrorLimit; nothing in it is read (08, R134, R135). -/
def Obligations.FaultyFrameIsCounted : Prop :=
  ∀ (p : Port) (bytes : List Byte) (s : State), s.atRest → Frame.ofBytes bytes = none →
    (65535 ≤ (s.port p).errors → exec (.frameReception p bytes) s = .next s) ∧
    ((s.port p).errors < 65535 → ((s.port p).errors + 1) % (s.port p).errorLimit ≠ 0 →
      exec (.frameReception p bytes) s =
        .next (s.modPort p fun ps => { ps with errors := (s.port p).errors + 1 })) ∧
    ((s.port p).errors < 65535 → ((s.port p).errors + 1) % (s.port p).errorLimit = 0 →
      ∃ t, exec (.frameReception p bytes) s = .next t ∧
        (s.modPort p fun ps => { ps with errors := (s.port p).errors + 1 }).onlyAlarms t ∧
        s.raisedOnly t .lineErrors (match p with
          | .north => 0
          | .south => 1))

/-- A good frame for another station that the part does not read leaves for the other port's queue as it came; a queue
of 16 loses it and raises TRANSIT_OVERRUN for that port (08, R138, R143). A frame for the part that is no request is
discarded. -/
def Obligations.OtherFramesPassOrAreLost : Prop :=
  ∀ (p : Port) (f : Frame) (s : State), s.atRest → s.normal → f.payload.length ≤ 48 →
    ¬ (p = .north ∧ (f.kind = 0x03 ∨ f.kind = 0x04)) → ¬ (p = .south ∧ (f.kind = 0x01 ∨ f.kind = 0x02)) →
    (stationOf f.dst = s.address → f.kind ≠ 0x10 → exec (.frameReception p f.toBytes) s = .next s) ∧
    (stationOf f.dst ≠ s.address → (s.port (otherPort p)).queue.length < 16 →
      exec (.frameReception p f.toBytes) s =
        .next (s.modPort (otherPort p) fun ps => { ps with queue := ps.queue ++ [⟨f, false, false⟩] })) ∧
    (stationOf f.dst ≠ s.address → 16 ≤ (s.port (otherPort p)).queue.length →
      ∃ t, exec (.frameReception p f.toBytes) s = .next t ∧ s.onlyAlarms t ∧
        (t.port (otherPort p)).queue = (s.port (otherPort p)).queue ∧
        s.raisedOnly t .transitOverrun (match p with
          | .north => 1
          | .south => 0))

/-- In repeater mode every good frame, requests to the part included, goes to the other port's queue unchanged and
unread, and is lost to a full queue with TRANSIT_OVERRUN raised for that port (08, R137, R143). A request given as its
row is forwarded in the bytes the model gives it: the layouts of logs 5, 8 and 37 are the model's choices. -/
def Obligations.RepeaterForwardsUnread : Prop :=
  (∀ (p : Port) (f : Frame) (s : State), s.atRest → s.repeater = true → f.payload.length ≤ 48 →
    (s.port (otherPort p)).queue.length < 16 →
    exec (.frameReception p f.toBytes) s =
      .next (s.modPort (otherPort p) fun ps => { ps with queue := ps.queue ++ [⟨f, false, false⟩] })) ∧
  (∀ (i : Instr) (r : Sender) (req : Request) (s : State), s.atRest → s.repeater = true →
    i.request = some (r, req) → (s.port (otherPort r.port)).queue.length < 16 →
    exec i s = .next (s.modPort (otherPort r.port) fun ps =>
      { ps with queue := ps.queue ++ [⟨requestFrame s.address r req, false, false⟩] })) ∧
  ∀ (p : Port) (f : Frame) (i : Instr) (r : Sender) (req : Request) (s : State), s.atRest → s.repeater = true →
    f.payload.length ≤ 48 → i.request = some (r, req) → r.port = p → 16 ≤ (s.port (otherPort p)).queue.length →
    ∃ t, exec (.frameReception p f.toBytes) s = .next t ∧ exec i s = .next t ∧ s.onlyAlarms t ∧
      (t.port (otherPort p)).queue = (s.port (otherPort p)).queue ∧
      s.raisedOnly t .transitOverrun (match p with
        | .north => 1
        | .south => 0)

/-- A LAMP_CMD from the north for a governed lamp's station is absorbed and raises FOREIGN_COMMAND at the governing
channel, a WIPER_CMD for the wiper station of governed banks at each channel that governs one; for any other station
they are forwarded south (08, R140). -/
def Obligations.ForeignCommandsAreAbsorbed : Prop :=
  (∀ (dst src : Byte) (payload : List Byte) (s : State),
    s.atRest → s.normal → payload.length ≤ 48 → stationOf dst ≠ s.address →
    (∀ l x ch, s.lamp l = some x → x.station = stationOf dst →
      (∀ m y, s.lamp m = some y → y.station = stationOf dst → m = l) →
      (s.bank x.bank).owner = some ch → (s.chan ch).dormant = false →
      ∃ t, exec (.lampCmdFrame dst src payload) s = .next t ∧ s.onlyAlarms t ∧
        s.raisedOnly t .foreignCommand ch.1) ∧
    ((∀ l x ch, s.lamp l = some x → x.station = stationOf dst → (s.bank x.bank).owner = some ch →
        (s.chan ch).dormant = true) →
      s.south.queue.length < 16 →
      exec (.lampCmdFrame dst src payload) s =
        .next (s.modPort .south fun ps =>
          { ps with queue := ps.queue ++ [⟨⟨dst, src, 0x03, payload⟩, false, false⟩] }))) ∧
  ∀ (dst src : Byte) (payload : List Byte) (s : State),
    s.atRest → s.normal → payload.length ≤ 48 → stationOf dst ≠ s.address →
    ((∃ b ch, (s.bank b).wiperStation = some (stationOf dst) ∧ (s.bank b).owner = some ch ∧
        (s.chan ch).dormant = false) →
      ∃ t, exec (.wiperCmdFrame dst src payload) s = .next t ∧ s.onlyAlarms t ∧
        ∀ ch : ChanId,
          ((∃ b, (s.bank b).wiperStation = some (stationOf dst) ∧ (s.bank b).owner = some ch) →
            (s.chan ch).dormant = false → s.priority .foreignCommand ≠ 0 →
            (t.alarm .foreignCommand ch.1).state = (s.alarm .foreignCommand ch.1).state.raised) ∧
          (¬ ((∃ b, (s.bank b).wiperStation = some (stationOf dst) ∧ (s.bank b).owner = some ch) ∧
              (s.chan ch).dormant = false) →
            t.alarm .foreignCommand ch.1 = s.alarm .foreignCommand ch.1)) ∧
    ((∀ b ch, (s.bank b).wiperStation = some (stationOf dst) → (s.bank b).owner = some ch →
        (s.chan ch).dormant = true) →
      s.south.queue.length < 16 →
      exec (.wiperCmdFrame dst src payload) s =
        .next (s.modPort .south fun ps =>
          { ps with queue := ps.queue ++ [⟨⟨dst, src, 0x04, payload⟩, false, false⟩] }))

/-- A completion on an empty queue changes nothing, which is the model's choice (log 31). A transmission completes: the
head leaves, and the place goes to the reply of the port, else north to the alert,
and only while the queue holds fewer than 16 frames and 8 own frames; in repeater mode to none (08, R137, R142,
R145). -/
def Obligations.FreedPlaceIsOffered : Prop :=
  ∀ (p : Port) (s : State),
    ((s.port p).queue = [] → exec (.transmissionComplete p) s = .next s) ∧
    ∀ h q, (s.port p).queue = h :: q → (h.restart = false ∨ s.restartPending = false) →
      ((s.repeater = true ∨ 16 ≤ q.length ∨ 8 ≤ q.countP (fun f => f.own)) →
        exec (.transmissionComplete p) s = .next (s.modPort p fun ps => { ps with queue := q })) ∧
      (s.repeater = false → q.length < 16 → q.countP (fun f => f.own) < 8 →
        (∀ w, s.replySlot = some w → w.port = p →
          exec (.transmissionComplete p) s =
            .next { s.modPort p (fun ps => { ps with queue := q ++ [⟨w.frame, true, w.restart⟩] }) with
              replySlot := none }) ∧
        ((∀ w, s.replySlot = some w → w.port ≠ p) →
          (p = .north → ∀ f, s.alertSlot = some f →
            exec (.transmissionComplete p) s =
              .next { s.modPort p (fun ps => { ps with queue := q ++ [⟨f, true, false⟩] }) with alertSlot := none }) ∧
          ((p = .north ∧ s.alertSlot = none) ∨ (p = .south ∧ ∀ k, s.slotFrame k = none) →
            exec (.transmissionComplete p) s = .next (s.modPort p fun ps => { ps with queue := q }))))

/-- The south arbiter serves the first command slot, in the cycle of 76 positions after the one its pointer names, that
holds a command; the slot becomes empty and the pointer names it (08, R145, R146). -/
def Obligations.CommandSlotsAreServedRoundRobin : Prop :=
  ∀ (h : QFrame) (q : List QFrame) (k : Nat) (slot : SlotId) (f : Frame) (s : State),
    s.south.queue = h :: q → (h.restart = false ∨ s.restartPending = false) → s.repeater = false →
    q.length < 16 → q.countP (fun x => x.own) < 8 → (∀ w, s.replySlot = some w → w.port ≠ .south) →
    k < 76 → slot.1 = (s.pointer.1 + 1 + k) % 76 → s.slotFrame slot = some f →
    (∀ j (m : SlotId), j < k → m.1 = (s.pointer.1 + 1 + j) % 76 → s.slotFrame m = none) →
    ∃ t, exec (.transmissionComplete .south) s = .next t ∧
      t.south = { s.south with queue := q ++ [⟨f, true, false⟩] } ∧ t.pointer = slot ∧
      { t with south := s.south, pointer := s.pointer, lamps := s.lamps, banks := s.banks } = s ∧
      (∀ l : LampId, t.lamp l = if slot.1 = l.1 then (s.lamp l).map (fun x => { x with cmd := none }) else s.lamp l) ∧
      ∀ b : BankId, t.bank b = if slot.1 = 64 + b.1 then { s.bank b with wiperSlot := none } else s.bank b

/-! ### Samples and passes -/

/-- A sample item for an in-place point: accepted, it gives the point its scaled or decoded value, freshness, quality
and instant, and tells the consumers that the point serves: a channel's UVT in use becomes FRESH with that value, its
hold timer stops and UVT_STALE ceases (02, R34, R37); a wiper's position moves the supervision of its bank, to success
or to failure with WIPER_FAULT (06, R112). Rejected, it changes nothing and the frame goes on (02, R28 to R32; 08,
R138). A payload that is not well formed, or no item of which names an in-place point, is not read: the frame goes on
as it came, is lost at a full queue, or ends here if it is for the part (11, R182; 02, R28; 08, R143). -/
def Obligations.SampleItemReachesItsPoint : Prop :=
  (∀ (dst src : Byte) (payload : List Byte) (f : Frame) (s : State),
    s.atRest → s.normal → payload.length ≤ 48 → f = ⟨dst, src, 0x01, payload⟩ →
    (∀ head rest, payload = head :: rest →
      1 ≤ head.toNat % 16 → head.toNat % 16 ≤ 8 → rest.length = 3 * (head.toNat % 16) + 6 * (head.toNat / 16) →
      ∀ n c q y, n < head.toNat % 16 → rest[3 * n]? = some c → s.point q = some y →
        ¬ (y.cfg.station = stationOf src ∧ y.cfg.index = c.toNat % 16)) →
    (stationOf dst = s.address → exec (.sampleFrame dst src payload) s = .next s) ∧
    (stationOf dst ≠ s.address → s.north.queue.length < 16 →
      exec (.sampleFrame dst src payload) s =
        .next (s.modPort .north fun ps => { ps with queue := ps.queue ++ [⟨f, false, false⟩] })) ∧
    (stationOf dst ≠ s.address → 16 ≤ s.north.queue.length →
      ∃ t, exec (.sampleFrame dst src payload) s = .next t ∧ s.onlyAlarms t ∧ s.raisedOnly t .transitOverrun 0)) ∧
  ∀ (dst src : Byte) (i : SampleItem) (p : PointId) (x : Point) (s : State),
    s.atRest → s.normal → i.index < 16 → i.raw < 65536 →
    s.point p = some x → x.cfg.station = stationOf src → x.cfg.index = i.index →
    (∀ q y, s.point q = some y → y.cfg.station = x.cfg.station → y.cfg.index = x.cfg.index → q = p) →
    (((i.quality = .good ∨ i.quality = .suspect) ∧ x.cfg.rawMin ≤ i.raw ∧ i.raw ≤ x.cfg.rawMax ∧
        (∀ b, x.cfg.targets = .wiper b → i.raw ≤ 2)) →
      ∃ t v, exec (.sampleFrame dst src (samplePayload [i])) s = .next t ∧
        t.outer = s.outer ∧ t.tables = s.tables ∧ (∀ q, q ≠ p → t.point q = s.point q) ∧
        t.point p = some { x with
          value := some v, fresh := true, timer := some (s.now + x.cfg.timeout), quality := some i.quality,
          accepted := some s.now } ∧
        (∀ b, x.cfg.targets = .wiper b →
          v = .pos (if i.raw = 0 then .parked else if i.raw = 1 then .moving else .jammed)) ∧
        ((∀ b, x.cfg.targets ≠ .wiper b) →
          v = .num (clampInt ((i.raw * x.cfg.gain / 4096 : Nat) + x.cfg.offset) 0 65535).toNat) ∧
        (∀ chs, x.cfg.targets = .uvt chs →
          ({ s with points := t.points, channels := build fun ch =>
              if ch ∈ chs ∧ s.uvtPoint ch = some p then { s.chan ch with uvtUse := .fresh, uvtHold := none }
              else s.chan ch } : State).onlyAlarms t (some ⟨dst, src, 0x01, samplePayload [i]⟩) ∧
          ∀ ch, ch ∈ chs → s.uvtPoint ch = some p →
            (t.alarm .uvtStale ch.1).cause = false ∧ ∀ n, v = .num n → t.uvtNow ch = n) ∧
        (∀ b, x.cfg.targets = .wiper b →
          ({ s with points := t.points, banks := build fun c =>
              if c = b ∧ s.wiperPoint b = some p then
                match (s.bank b).supervision, i.raw with
                | .started, 1 => { s.bank b with supervision := .moving }
                | .moving, 0 => { s.bank b with supervision := .idle, wipeLimit := none, lastWipe := .ok }
                | .started, 2 => { s.bank b with supervision := .idle, wipeLimit := none, lastWipe := .fault }
                | .moving, 2 => { s.bank b with supervision := .idle, wipeLimit := none, lastWipe := .fault }
                | _, _ => s.bank b
              else s.bank c } : State).onlyAlarms t (some ⟨dst, src, 0x01, samplePayload [i]⟩) ∧
          (stationOf dst = s.address ∨ s.north.queue.length < 15 →
            (s.wiperPoint b = some p → (s.bank b).supervision ≠ .idle → i.raw = 2 → s.raisedOnly t .wiperFault b.1) ∧
            (s.wiperPoint b ≠ some p ∨ (s.bank b).supervision = .idle ∨ i.raw ≠ 2 → t.alarms = s.alarms)))) ∧
    (¬ ((i.quality = .good ∨ i.quality = .suspect) ∧ x.cfg.rawMin ≤ i.raw ∧ i.raw ≤ x.cfg.rawMax ∧
        (∀ b, x.cfg.targets = .wiper b → i.raw ≤ 2)) →
      (stationOf dst = s.address → exec (.sampleFrame dst src (samplePayload [i])) s = .next s) ∧
      (stationOf dst ≠ s.address → s.north.queue.length < 16 →
        exec (.sampleFrame dst src (samplePayload [i])) s =
          .next (s.modPort .north fun ps =>
            { ps with queue := ps.queue ++ [⟨⟨dst, src, 0x01, samplePayload [i]⟩, false, false⟩] })))

/-- An accepted item of a bank's intensity point reaches the bank's tracker (03, R42): nothing while blanked; else Sf
is seeded or moved (R43). In WARMING Sn and the warm check follow (R46, R56), and a PASS with enough lit lamps takes
the bank to RUN (05, R95). In RUN the reference is seeded when due (R48); otherwise the sag state moves by Table 3-5
(R50, R51), with its timer (R52) and the SAG condition (R53), and then the reference unless halted (R49); OUTPUT_LOW
is judged and its beginning starts a wipe where one may run (R55; 06, R109). An onset with SagStage on requests a
stage-up (05, R90). That a wipe started with WipeInterval 0 leaves the interval timer as it stands (log 27), that a
request in the adoption window is counted in MANUAL, FULL and STANDDOWN too, against R90's list (log 34), and that
staging takes banks of one position by number (log 29), are the model's choices. -/
def Obligations.IntensitySampleReachesItsTracker : Prop :=
  ∀ (dst src : Byte) (i : SampleItem) (p : PointId) (x : Point) (b : BankId) (k : Tracker) (v sf sn : Nat) (f : Frame)
      (s u : State),
    f = ⟨dst, src, 0x01, samplePayload [i]⟩ → s.atRest → s.normal → i.index < 16 → i.raw < 65536 →
    s.point p = some x → x.cfg.station = stationOf src → x.cfg.index = i.index →
    (∀ q y, s.point q = some y → y.cfg.station = x.cfg.station → y.cfg.index = x.cfg.index → q = p) →
    (i.quality = .good ∨ i.quality = .suspect) → x.cfg.rawMin ≤ i.raw → i.raw ≤ x.cfg.rawMax →
    x.cfg.targets = .intensity b → s.intensityPoint b = some p → k = (s.bank b).tracker →
    v = (clampInt ((i.raw * x.cfg.gain / 4096 : Nat) + x.cfg.offset) 0 65535).toNat →
    u = s.setPoint p (some { x with
      value := some (.num v), fresh := true, timer := some (s.now + x.cfg.timeout), quality := some i.quality,
      accepted := some s.now }) →
    sf = (match k.sf with
      | none => v
      | some f => if f ≤ v then f + (v - f) / 2 ^ (s.bank b).get .filtShift
        else f - (f - v) / 2 ^ (s.bank b).get .filtShift) →
    (∀ ch, (s.bank b).owner = some ch → sn = sf * 1000 / (s.chan ch).power.applied) →
    ∃ t, exec (.sampleFrame dst src (samplePayload [i])) s = .next t ∧
      t.outer = s.outer ∧ t.tables = s.tables ∧ t.points = u.points ∧ t.lamps = s.lamps ∧ t.south = s.south ∧
      (∃ made, s.areAlerts made ∧ t.north.queue = s.north.queue ++ made ++ s.goingOn f made.length) ∧
      (t.alarm .intensityStale b.1).cause = false ∧
      (k.blank = true → u.onlyAlarms t (some f)) ∧
      (k.blank = false →
        ((s.bank b).owner = none ∨ ((s.bank b).state ≠ .warming ∧ (s.bank b).state ≠ .run) →
          (u.modBank b fun y => { y with tracker := { k with sf := some sf } }).onlyAlarms t (some f)) ∧
        ∀ ch, (s.bank b).owner = some ch →
          ((s.bank b).state = .warming →
            ∀ warm : Bool, (warm = true ↔ (s.bank b).get .expected * (s.bank b).get .warmPct ≤ sn * 256) →
              (warm = k.warm ∨ warm = false ∨ (s.chan ch).dormant = true ∨
                  s.litCount b < (s.bank b).get .minLampsLit →
                (u.modBank b fun y =>
                  { y with tracker := { k with sf := some sf, sn := some sn, warm := warm } }).onlyAlarms t (some f)) ∧
              (k.warm = false → warm = true → (s.chan ch).dormant = false →
                (s.bank b).get .minLampsLit ≤ s.litCount b →
                ((t.bank b).state = .run ∨ (t.bank b).state = .quenching) ∧ (t.bank b).warmTimer = none ∧
                  ((t.bank b).state = .run → (t.bank b).tracker =
                    { k with sf := some sf, sn := some sn, warm := false, reseed := true }))) ∧
          ((s.bank b).state = .run → ∀ (k' : Tracker) (onset low : Bool) (w : State),
            (onset = true ↔ k'.sag = .active ∧ k.sag ≠ .active ∧ ∀ n, k.sag ≠ .leaving n) →
            (((k.sref = none ∨ k.reseed = true) ∧ k.settleTimer = none ∧
                k' = { k with sf := some sf, sn := some sn, sref := some sn, reseed := false, sag := .clear,
                              sagTimer := none }) ∨
              (k.sref = none ∧ k.settleTimer ≠ none ∧ k' = { k with sf := some sf, sn := some sn }) ∨
              ∃ (r pct : Nat) (delta : Int) (enter exit : Bool) (sag : SagState),
                k.sref = some r ∧ (k.reseed = false ∨ k.settleTimer ≠ none) ∧ delta = (r : Int) - sn ∧
                pct = (s.bank b).get .sagPct * (256 - (s.bank b).get .sagHys) / 256 ∧
                (enter = true ↔ (r : Int) * (s.bank b).get .sagPct ≤ delta * 256) ∧
                (exit = true ↔ delta * 256 < (r : Int) * pct) ∧
                sag = (match k.sag with
                  | .clear => if enter = false then .clear
                    else if (s.bank b).get .sagEnter ≤ 1 then .active else .entering 1
                  | .entering n => if enter = false then .clear
                    else if (s.bank b).get .sagEnter ≤ n + 1 then .active else .entering (n + 1)
                  | .active => if exit = false then .active
                    else if (s.bank b).get .sagExit ≤ 1 then .clear else .leaving 1
                  | .leaving n => if exit = false then .active
                    else if (s.bank b).get .sagExit ≤ n + 1 then .clear else .leaving (n + 1)) ∧
                k' = { k with
                  sf := some sf
                  sn := some sn
                  sag := sag
                  sref := some (
                    if k.settleTimer ≠ none ∨ sag ≠ .clear ∨
                        ((s.bank b).get .haltPct ≠ 0 ∧ (r : Int) * (s.bank b).get .haltPct ≤ delta * 256) then r
                    else if r ≤ sn then r + (sn - r) / 2 ^ (s.bank b).get .refShift
                    else r - (r - sn) / 2 ^ (s.bank b).get .refShift)
                  sagTimer := if onset = true then
                      (if (s.bank b).get .sagTimeout = 0 then none
                       else some (s.now + 1000 * (s.bank b).get .sagTimeout))
                    else if sag = .clear then none
                    else k.sagTimer }) →
            (low = true ↔ ∃ q, k'.sref = some q ∧ q * 256 < (s.bank b).get .expected * (s.bank b).get .lowPct) →
            w = u.modBank b (fun y =>
              if low = true ∧ (s.alarm .outputLow b.1).cause = false ∧ y.running = none ∧ (s.chan ch).dormant = false then
                { y with
                  tracker := k'
                  running := some .wipe
                  stepIdx := 0
                  stepTimer := some (s.now + 10 * 2 ^ (y.wipe.get 0).k)
                  wipeInterval := if y.get .wipeInterval = 0 then y.wipeInterval
                    else some (s.now + 60000 * y.get .wipeInterval) }
              else { y with tracker := k' }) →
            (onset = false ∨ (s.bank b).get .sagStage ≠ 0 →
              w.onlyAlarms t (some f) ∧
              ((t.alarm .sag b.1).cause = true ↔
                k.sref = none ∧ k.settleTimer ≠ none ∧ (s.alarm .sag b.1).cause = true ∨
                  ¬ (k.sref = none ∧ k.settleTimer ≠ none) ∧ (k'.sag = .active ∨ ∃ n, k'.sag = .leaving n)) ∧
              (t.alarm .outputLow b.1).cause = low) ∧
            (onset = true → (s.bank b).get .sagStage = 0 →
              w.requested t ch (some f) ∧
              ((t.bank b).state = .run → (t.alarm .sag b.1).cause = true ∧ (t.alarm .outputLow b.1).cause = low))))

/-- An accepted item of the flow point of an armed channel stops the fallback timer and starts a full pass, and the
frame goes north with the channel's annotation item (01 R3, R4, R10 to R17, R20, R21; 04 R61, R67 to R69; 08 R141; 11
R182). The elapsed time, capped at 5000 ms, and the ballast code are the figures of R14 and R68. A code change makes a
SET for each LIT lamp, or lamp with a STRIKE waiting, of the channel's lit banks (R69; 07, R131) and restarts the
settle timer of each of its banks (03, R47). In AUTO outside the window the staging counters move by R89, and a stage
action zeroes them (05, R92). A frame of several items, with annotation items or without, has its items taken in their
order, each as in a frame of its own, and is then annotated: one item for each channel that took a pass, with what its
latest pass left, in channel order and as many as the payload has room for (02, R28; 08, R141; 01, R21). -/
def Obligations.FlowSampleTakesAFullPass : Prop :=
  (∀ (dst src : Byte) (items : List SampleItem) (old : List Byte) (a : Nat) (chs : List ChanId) (annotated : Frame)
      (s v : State),
    s.atRest → s.normal → s.entriesUnique → 1 ≤ items.length → items.length ≤ 8 →
    (∀ i ∈ items, i.index < 16 ∧ i.raw < 65536) → old.length = 6 * a → 1 + 3 * items.length + 6 * a ≤ 48 →
    v = items.foldl (fun u i => intakeItem (stationOf src) i u) s →
    chs = (List.finRange 4).filter (fun ch => items.any fun i => (List.finRange 96).any fun p => match s.point p with
      | some x => x.cfg.station = stationOf src && x.cfg.index = i.index && x.cfg.targets = .flow ch &&
          (i.quality = .good || i.quality = .suspect) && x.cfg.rawMin ≤ i.raw && i.raw ≤ x.cfg.rawMax &&
          s.flowPoint ch = some p && (s.chan ch).mode ≠ .unarmed
      | none => false) →
    (∀ n, n = min chs.length ((47 - 3 * items.length - 6 * a) / 6) →
      annotated = ⟨dst, src, 0x01, BitVec.ofNat 8 (items.length + 16 * (a + n)) ::
        (items.flatMap SampleItem.toBytes ++ old ++ (chs.take n).flatMap fun ch =>
          BitVec.ofNat 8 (ch.1 + (if (v.chan ch).acct.offSpec then 4 else 0) + 8 * (v.chan ch).mode.code) ::
            (bytes2 (v.chan ch).acct.lastDose ++ bytes2 (v.chan ch).power.pd ++ [BitVec.ofNat 8 s.address]))⟩) →
    (stationOf dst = s.address →
      exec (.sampleFrame dst src (BitVec.ofNat 8 (items.length + 16 * a) ::
        (items.flatMap SampleItem.toBytes ++ old))) s = .next (endEvent v)) ∧
    (stationOf dst ≠ s.address → (endEvent v).north.queue.length < 16 →
      exec (.sampleFrame dst src (BitVec.ofNat 8 (items.length + 16 * a) ::
        (items.flatMap SampleItem.toBytes ++ old))) s =
        .next ((endEvent v).modPort .north fun ps => { ps with queue := ps.queue ++ [⟨annotated, false, false⟩] }))) ∧
  ∀ (dst src : Byte) (i : SampleItem) (p : PointId) (x : Point) (ch : ChanId) (s : State) (r : PassResult),
    s.atRest → s.normal → i.index < 16 → i.raw < 65536 →
    s.point p = some x → x.cfg.station = stationOf src → x.cfg.index = i.index →
    (∀ q y, s.point q = some y → y.cfg.station = x.cfg.station → y.cfg.index = x.cfg.index → q = p) →
    (i.quality = .good ∨ i.quality = .suspect) → x.cfg.rawMin ≤ i.raw → i.raw ≤ x.cfg.rawMax →
    x.cfg.targets = .flow ch → s.flowPoint ch = some p → (s.chan ch).mode.armed = true →
    r = (s.setPoint p (some { x with
      value := some (.num (clampInt ((i.raw * x.cfg.gain / 4096 : Nat) + x.cfg.offset) 0 65535).toNat), fresh := true,
      timer := some (s.now + x.cfg.timeout), quality := some i.quality, accepted := some s.now })).fullResult ch →
    ∃ t, exec (.sampleFrame dst src (samplePayload [i])) s = .next t ∧
      t.outer = s.outer ∧ t.tables = s.tables ∧
      (∀ d, d ≠ ch → (t.chan d).butList = (s.chan d).butList) ∧ (∀ q, q ≠ p → t.point q = s.point q) ∧
      s.passTaken t ch r ∧ (t.chan ch).acct.fallback = none ∧ (t.alarm .flowStale ch.1).cause = false ∧
      (t.alarm .outOfRange ch.1).cause = r.outRange ∧
      ((t.alarm .doseLow ch.1).cause = true ↔ (s.chan ch).get .doseLowPasses ≤ (t.chan ch).acct.doseLow) ∧
      (∃ made, s.areAlerts made ∧ t.north.queue = s.north.queue ++ made ++ s.goingOn ⟨dst, src, 0x01,
        0x11 :: ((samplePayload [i]).tail ++
          (BitVec.ofNat 8 (ch.1 + (if r.offSpec then 4 else 0) + 8 * (s.chan ch).mode.code) ::
            (bytes2 r.dose ++ bytes2 (t.chan ch).power.pd ++ [BitVec.ofNat 8 s.address])))⟩ made.length) ∧
      (∃ made, s.areCommands made ∧ t.south.queue = s.south.queue ++ made) ∧
      s.elapsed ch = (match (s.chan ch).acct.lastPass with
        | some d => min 5000 (s.now - d)
        | none => 0) ∧
      (∀ pd, pd = (t.chan ch).power.pd →
        (pd < ((s.chan ch).ballastCurve.get 0).x →
          (t.chan ch).power.code = ((s.chan ch).ballastCurve.get 0).y) ∧
        (((s.chan ch).ballastCurve.get 0).x ≤ pd → pd = 1000 →
          (t.chan ch).power.code = ((s.chan ch).ballastCurve.get 7).y) ∧
        ((∀ k : Fin 7, ((s.chan ch).ballastCurve.get k.castSucc).x < ((s.chan ch).ballastCurve.get k.succ).x) →
          ∀ k : Fin 7, ((s.chan ch).ballastCurve.get k.castSucc).x ≤ pd → pd ≠ 1000 →
            pd < ((s.chan ch).ballastCurve.get k.succ).x →
            ((t.chan ch).power.code : Int) = ((s.chan ch).ballastCurve.get k.castSucc).y +
              ((((s.chan ch).ballastCurve.get k.succ).y : Int) - ((s.chan ch).ballastCurve.get k.castSucc).y) *
                ((pd : Int) - ((s.chan ch).ballastCurve.get k.castSucc).x) /
                ((((s.chan ch).ballastCurve.get k.succ).x : Int) - ((s.chan ch).ballastCurve.get k.castSucc).x))) ∧
      ((t.chan ch).power.code = (s.chan ch).power.code →
        t.lamps = s.lamps ∧ t.south = s.south ∧
          ∀ b, (t.bank b).tracker.settleTimer = (s.bank b).tracker.settleTimer) ∧
      ((t.chan ch).power.code ≠ (s.chan ch).power.code →
        (∀ b, (t.bank b).tracker.settleTimer =
          if (s.bank b).owner = some ch then
            (if (s.bank b).get .settleTime = 0 then none else some (s.now + (s.bank b).get .settleTime))
          else (s.bank b).tracker.settleTimer) ∧
        ∀ l y, s.lamp l = some y →
          ∀ reached : Prop, (reached ↔ (s.bank y.bank).owner = some ch ∧
              ((s.bank y.bank).state = .striking ∨ (s.bank y.bank).state = .warming ∨ (s.bank y.bank).state = .run) ∧
              (y.state = .lit ∨ ∃ c, y.cmd = some (.strike c))) →
            (¬ reached → t.lamp l = some y) ∧
            (reached → ∃ z, t.lamp l = some z ∧ z = { y with cmd := z.cmd } ∧ match y.cmd with
              | some (.strike _) => z.cmd = some (.strike (t.chan ch).power.code)
              | _ => s.cmdMade t y z (.set (t.chan ch).power.code))) ∧
      ((s.chan ch).mode ≠ .auto ∨ (s.chan ch).adoption ≠ none →
        (t.chan ch).upCount = (s.chan ch).upCount ∧ (t.chan ch).downCount = (s.chan ch).downCount) ∧
      (s.listsSound → (s.chan ch).mode = .auto → (s.chan ch).adoption = none →
        ((t.chan ch).startList ≠ (s.chan ch).startList →
          (t.chan ch).upCount = 0 ∧ (t.chan ch).downCount = 0) ∧
        ((t.chan ch).startList = (s.chan ch).startList →
          (t.chan ch).upCount = (if (t.chan ch).power.pd = 1000 ∧ r.dose < (s.chan ch).get .dtarget then
              min 255 ((s.chan ch).upCount + 1) else 0) ∧
          (t.chan ch).downCount = (if (t.chan ch).power.pd ≤ (s.chan ch).get .stageDownLevel ∧
              (s.chan ch).get .dtarget < r.dose then min 255 ((s.chan ch).downCount + 1) else 0)))

/-- The results of a full pass: measured flow, the u of the UVT in use (02, R34), out-of-range mark, the credited banks'
doses at their positions and the channel dose as their sum, judgment (01, R6 to R11). -/
def Obligations.FullPassJudgesTheDose : Prop :=
  ∀ (ch : ChanId) (s : State) (r : PassResult) (qd f : Nat),
    r = s.fullResult ch → qd = max r.qm ((s.chan ch).get .qmin) →
    f = (uvtFactor (s.chan ch).uvtCurve (s.uvtNow ch)).1 →
    (∀ p x n, s.flowPoint ch = some p → s.point p = some x → x.fresh = true → x.value = some (.num n) →
      r.qm = min 30000 n ∧
        (r.outRange = true ↔ (s.chan ch).get .qmax < min 30000 n ∨ s.uvtNow ch < ((s.chan ch).uvtCurve.get 0).x)) ∧
    ((∀ p x, s.flowPoint ch = some p → s.point p = some x → x.fresh = false) →
      r.qm = (s.chan ch).get .failFlow ∧ r.outRange = true) ∧
    (s.uvtNow ch < ((s.chan ch).uvtCurve.get 0).x → f = ((s.chan ch).uvtCurve.get 0).y) ∧
    (((s.chan ch).uvtCurve.get 0).x ≤ s.uvtNow ch → ((s.chan ch).uvtCurve.get 7).x ≤ s.uvtNow ch →
      f = ((s.chan ch).uvtCurve.get 7).y) ∧
    ((∀ k : Fin 7, ((s.chan ch).uvtCurve.get k.castSucc).x < ((s.chan ch).uvtCurve.get k.succ).x) →
      ∀ k : Fin 7, ((s.chan ch).uvtCurve.get k.castSucc).x ≤ s.uvtNow ch →
        s.uvtNow ch < ((s.chan ch).uvtCurve.get k.succ).x →
        (f : Int) = ((s.chan ch).uvtCurve.get k.castSucc).y +
          ((((s.chan ch).uvtCurve.get k.succ).y : Int) - ((s.chan ch).uvtCurve.get k.castSucc).y) *
            ((s.uvtNow ch : Int) - ((s.chan ch).uvtCurve.get k.castSucc).x) /
            ((((s.chan ch).uvtCurve.get k.succ).x : Int) - ((s.chan ch).uvtCurve.get k.castSucc).x)) ∧
    r.dose = min 65535 (((s.ownedBanks ch).map fun b =>
      match (s.bank b).tracker.sf with
      | some sf =>
        if ((s.bank b).state = .striking ∨ (s.bank b).state = .warming ∨ (s.bank b).state = .run ∨
            (s.bank b).state = .quenching) ∧ s.freshPoint (s.intensityPoint b) = true then
          min 65535 (sf * f * (s.bank b).get .kvol / (102400 * qd))
        else 0
      | none => 0).sum) ∧
    (∀ q : Fin 4,
      ((∀ b, (s.bank b).owner = some ch → (s.bank b).get .position ≠ q.1) → r.doses.get q = 0) ∧
      ∀ b, (s.bank b).owner = some ch → (s.bank b).get .position = q.1 →
        (∀ c, (s.bank c).owner = some ch → (s.bank c).get .position = q.1 → c = b) →
        r.doses.get q = match (s.bank b).tracker.sf with
          | some sf =>
            if ((s.bank b).state = .striking ∨ (s.bank b).state = .warming ∨ (s.bank b).state = .run ∨
                (s.bank b).state = .quenching) ∧ s.freshPoint (s.intensityPoint b) = true then
              min 65535 (sf * f * (s.bank b).get .kvol / (102400 * qd))
            else 0
          | none => 0) ∧
    (∀ n, (s.chan ch).uvtUse = .held n → s.uvtNow ch = n) ∧
    ((s.chan ch).uvtUse = .failsafe → s.uvtNow ch = (s.chan ch).get .failUvt) ∧
    ((s.chan ch).uvtUse = .fresh → ∀ p y n, s.uvtPoint ch = some p → s.point p = some y → y.value = some (.num n) →
      s.uvtNow ch = n) ∧
    (r.offSpec = true ↔ r.dose < (s.chan ch).get .dtarget ∨ r.outRange = true ∨
      ((s.chan ch).mode = .standdown ∧ 0 < r.qm))

/-- The demand after a full pass (04, R62 to R66): in AUTO and MANUAL it moves toward the target by at most RampUp up
and RampDown down, reaches a target within those limits and lies between the old demand and the target; in FULL it is
1000 and in STANDDOWN it stays. -/
def Obligations.DemandMovesWithinItsRateLimits : Prop :=
  ∀ (c : Channel) (e praw : Int) (up down pmin : Nat),
    up = c.get .rampUp → down = (if c.get .decelHalf = 0 then max 1 (up / 2) else up) → pmin = c.get .pmin →
    (c.mode = .full → c.nextDemand e = 1000) ∧ (c.mode = .standdown → c.nextDemand e = c.power.pd) ∧
    ((c.mode = .auto ∧ praw = clampInt (c.power.pd +
          (((c.get .kp : Int) * (e - c.power.ePrev) + (c.get .ki : Int) * e).tdiv 256)) pmin 1000) ∨
        (c.mode = .manual ∧ praw = clampInt c.manualValue pmin 1000) →
      (c.nextDemand e : Int) = c.power.pd + clampInt (praw - c.power.pd) (-(down : Int)) up ∧
      (-(down : Int) ≤ praw - c.power.pd → praw - c.power.pd ≤ up → (c.nextDemand e : Int) = praw) ∧
      min praw c.power.pd ≤ c.nextDemand e ∧ (c.nextDemand e : Int) ≤ max praw c.power.pd ∧
      (pmin ≤ 1000 → (pmin : Int) ≤ praw ∧ praw ≤ 1000) ∧
      (pmin ≤ c.power.pd → c.power.pd ≤ 1000 → pmin ≤ c.nextDemand e ∧ c.nextDemand e ≤ 1000))

/-- The fallback timer runs out: an armed channel takes a full pass by the clock, a channel in EDIT a frozen pass,
which counts all its volume as off-spec and moves nothing but the volume accounts, the pulses and the mark; the timer
restarts with PassFallback (01, R3, R4, R14 to R17, R22). -/
def Obligations.FallbackTakesAPass : Prop :=
  ∀ (ch : ChanId) (s : State) (d : Nat),
    s.atRest → (s.chan ch).acct.fallback = some d → d ≤ s.now →
    ((s.chan ch).mode.armed = true →
      ∃ t, exec (.fallbackTimerExpiry ch) s = .next t ∧
        t.outer = s.outer ∧ t.tables = s.tables ∧ t.points = s.points ∧
        (∀ d, d ≠ ch → (t.chan d).butList = (s.chan d).butList) ∧
        s.passTaken t ch (s.fullResult ch) ∧
        (∃ made, s.areAlerts made ∧ t.north.queue = s.north.queue ++ made) ∧
        (∃ made, s.areCommands made ∧ t.south.queue = s.south.queue ++ made) ∧
        (t.chan ch).acct.fallback = some (s.now + (s.chan ch).get .passFallback)) ∧
    ((s.chan ch).mode = .edit →
      ∃ t, exec (.fallbackTimerExpiry ch) s = .next t ∧ { t with channels := s.channels } = s ∧
        (∀ d, d ≠ ch → t.chan d = s.chan d) ∧ s.volumeCounted t ch (s.measuredFlow ch * s.elapsed ch) true ∧
        { t.chan ch with acct := (s.chan ch).acct, pulsePhase := (s.chan ch).pulsePhase,
                         pulseTimer := (s.chan ch).pulseTimer } = s.chan ch ∧
        (t.chan ch).acct.offSpec = true ∧ (t.chan ch).acct.lastPass = some s.now ∧
        (t.chan ch).acct.fallback = some (s.now + (s.chan ch).get .passFallback) ∧
        (t.chan ch).acct.lastDose = (s.chan ch).acct.lastDose ∧
        (t.chan ch).acct.bankDoses = (s.chan ch).acct.bankDoses ∧
        (t.chan ch).acct.outOfRange = (s.chan ch).acct.outOfRange ∧
        (t.chan ch).acct.doseLow = (s.chan ch).acct.doseLow)

/-! ### Lamps -/

/-- A tapped LAMP_STATUS and the frame that goes on north (07, Table 7-5, R118, R121, R122, R125 to R127, R132; 08,
R139; 05, R85, R95, R96). A station that is no lamp's reaches no machine; an ungoverned lamp is only confirmed. A
governed lamp takes the outcome of its state: success, adoption, dropout, failure, OVERTEMP, a QUENCH, or nothing; and
its bank the transition that the new lit count calls for: RUN, FAULTED, adoption in the window, or in a standing-down
window the putting out of adopted lamps, after which each RUN or WARMING bank whose lit count it changed is judged.
What is put out there, when, and that the banks are judged once after all of it, is the model's choice where R85 is
open (logs 17, 41), as is the strike path tried at a confirmation (log 20). -/
def Obligations.LampStatusReachesItsLamp : Prop :=
  ∀ (dst src code : Byte) (l : LampId) (x : Lamp) (f : Frame) (s : State),
    s.atRest → s.normal → stationOf dst ≠ s.address → s.north.queue.length < 16 → 1 ≤ code.toNat → code.toNat ≤ 5 →
    f = ⟨dst, src, 0x02, [code]⟩ →
    ((∀ m y, s.lamp m = some y → y.station ≠ stationOf src) →
      exec (.lampStatusFrame dst src [code]) s =
        .next (s.modPort .north fun ps => { ps with queue := ps.queue ++ [⟨f, false, false⟩] })) ∧
    (s.lamp l = some x → x.station = stationOf src → (∀ m y, s.lamp m = some y → y.station = x.station → m = l) →
      ((s.bank x.bank).owner = none →
        exec (.lampStatusFrame dst src [code]) s =
          .next ((s.setLamp l (some { x with unconfirmed := false })).modPort .north fun ps =>
            { ps with queue := ps.queue ++ [⟨f, false, false⟩] })) ∧
      ∀ ch, (s.bank x.bank).owner = some ch →
        ((s.chan ch).dormant = true →
          exec (.lampStatusFrame dst src [code]) s =
            .next ((s.setLamp l (some { x with unconfirmed := false })).modPort .north fun ps =>
              { ps with queue := ps.queue ++ [⟨f, false, false⟩] })) ∧
        ((s.chan ch).dormant = false →
          ∃ t, exec (.lampStatusFrame dst src [code]) s = .next t ∧
            (∃ made, s.areAlerts made ∧ t.north.queue = s.north.queue ++ made ++ s.goingOn f made.length) ∧
            (∃ made, s.areCommands made ∧ t.south.queue = s.south.queue ++ made) ∧
            -- a success and an adoption
            (code = 1 → x.state = .striking → x.unconfirmed = false →
              s.countQuiet ch x.bank (s.litCount x.bank + 1) →
              s.lampAndFrame t l f ∧ t.south = s.south ∧
              t.lamp l = some { x with
                state := .lit, adopted := false, attempts := 0, sets := 0, strikeTimer := none,
                clearTimer := some (s.now + 1000 * (s.chan ch).get .dropoutClear) }) ∧
            (code = 1 → (x.state = .striking ∧ x.unconfirmed = false) ∨
                (x.state = .off ∧ (x.unconfirmed = true ∨ x.wanted = true)) →
              (s.bank x.bank).state = .warming → (s.bank x.bank).tracker.warm = true →
              (s.bank x.bank).get .minLampsLit ≤ s.litCount x.bank + 1 →
              ((s.chan ch).adoption = none ∨ (s.chan ch).effMode ≠ .standdown ∨ x.state = .striking) →
              ((t.bank x.bank).state = .run ∨ (t.bank x.bank).state = .quenching) ∧ (t.bank x.bank).warmTimer = none ∧
                ∀ m, m ≠ l → t.lamp m = s.lamp m) ∧
            (code = 1 → x.state = .off → x.unconfirmed = true ∨ x.wanted = true →
              ((s.chan ch).adoption = none ∨ (s.chan ch).effMode ≠ .standdown) →
              s.countQuiet ch x.bank (s.litCount x.bank + 1) →
              s.lampAndFrame t l f ∧ t.south = s.south ∧
              t.lamp l = some { x with
                state := .lit, unconfirmed := false, adopted := true, attempts := 0, sets := 0, strikeTimer := none,
                clearTimer := some (s.now + 1000 * (s.chan ch).get .dropoutClear) }) ∧
            -- the adoption window
            (code = 1 → x.state = .off → x.unconfirmed = true ∨ x.wanted = true → (s.chan ch).adoption ≠ none →
              ((s.chan ch).effMode = .auto ∨ (s.chan ch).effMode = .manual ∨ (s.chan ch).effMode = .full) →
              (s.bank x.bank).state = .dark → (s.bank x.bank).get .minLampsLit ≤ s.litCount x.bank + 1 →
              (t.bank x.bank).state = .warming ∧
                (t.bank x.bank).warmTimer = some (s.now + 1000 * (s.bank x.bank).get .warmLimit) ∧
                (t.chan ch).startList = (s.chan ch).startList ++ [x.bank] ∧
                t.lamp l = some { x with
                  state := .lit, wanted := true, unconfirmed := false, adopted := true, attempts := 0, sets := 0,
                  strikeTimer := none, clearTimer := some (s.now + 1000 * (s.chan ch).get .dropoutClear) } ∧
                (∀ m y, m ≠ l → s.lamp m = some y →
                  (y.bank ≠ x.bank → t.lamp m = some y) ∧
                  (y.bank = x.bank → ∃ z, t.lamp m = some z ∧ s.flagBecame t true y z))) ∧
            (code = 1 → x.state = .off → x.unconfirmed = true ∨ x.wanted = true → (s.chan ch).adoption ≠ none →
              (s.chan ch).effMode = .standdown →
              ((s.bank x.bank).state ≠ .dark ∨ s.litCount x.bank + 1 < (s.bank x.bank).get .minLampsLit) →
              s.lampAndFrame t l f ∧ s.lampCommanded t l x
                { x with wanted := false, unconfirmed := false, adopted := true, attempts := 0, sets := 0,
                         strikeTimer := none, clearTimer := none } .quench) ∧
            (code = 1 → x.state = .off → x.unconfirmed = true ∨ x.wanted = true → (s.chan ch).adoption ≠ none →
              (s.chan ch).effMode = .standdown → (s.bank x.bank).state = .dark →
              (s.bank x.bank).get .minLampsLit ≤ s.litCount x.bank + 1 →
              (∀ b,
                (s.leftShort ch b → (t.bank b).state = .faulted ∧
                  (t.bank b).faultTimer = some (s.now + 1000 * (s.bank b).get .faultRest)) ∧
                (s.leftWarm ch b → (t.bank b).state = .run ∧ (t.bank b).warmTimer = none) ∧
                (¬ s.leftShort ch b → ¬ s.leftWarm ch b → t.bank b = s.bank b)) ∧
                (∃ z, t.lamp l = some z ∧ s.putOut t
                  { x with unconfirmed := false, adopted := true, attempts := 0, sets := 0, strikeTimer := none } z) ∧
                ∀ m y, m ≠ l → s.lamp m = some y →
                  ((s.bank y.bank).owner = some ch ∧ y.state = .lit ∧ y.adopted = true →
                    ∃ z, t.lamp m = some z ∧ s.putOut t y z) ∧
                  (¬ ((s.bank y.bank).owner = some ch ∧ y.state = .lit ∧ y.adopted = true) →
                    (¬ s.leftShort ch y.bank → t.lamp m = some y) ∧
                    (s.leftShort ch y.bank → ∃ z, t.lamp m = some z ∧ s.flagBecame t false y z))) ∧
            -- a lamp burning against the part's intent
            (code = 1 → (x.state = .off ∧ x.unconfirmed = false ∧ x.wanted = false) ∨ x.state = .dead →
              s.lampAndFrame t l f ∧ s.lampCommanded t l x { x with unconfirmed := false } .quench) ∧
            (code = 1 → x.state = .retryWait ∨ x.state = .longWait → x.unconfirmed = false →
              s.lampAndFrame t l f ∧
              (x.cmd = some .quench → t.lamp l = some x ∧ t.south = s.south) ∧
              (x.cmd ≠ some .quench → s.lampCommanded t l x x .quench)) ∧
            -- a dropout
            (code = 2 ∨ code = 4 → x.state = .lit → x.unconfirmed = false →
              ((s.chan ch).get .dropoutMode ≠ 1 ∨ min 255 (x.dropouts + 1) < 3) →
              s.countQuiet ch x.bank (s.litCount x.bank - 1) →
              s.lampAndFrame t l f ∧ s.lampCommanded t l x { x with
                state := .retryWait, dropouts := min 255 (x.dropouts + 1), clearTimer := none,
                waitTimer := some (s.now + 1000 * (s.chan ch).get .retryDelay) } .quench) ∧
            (code = 2 ∨ code = 4 → x.state = .lit → x.unconfirmed = false →
              (s.chan ch).get .dropoutMode = 1 → 3 ≤ min 255 (x.dropouts + 1) →
              s.countQuiet ch x.bank (s.litCount x.bank - 1) →
              (s.north.queue.length < 15 → s.raisedOnly t .lampDead x.bank.1) ∧
              (∀ m, m ≠ l → t.lamp m = s.lamp m) ∧ t.banks = s.banks ∧ s.lampCommanded t l x { x with
                state := .dead, dropouts := min 255 (x.dropouts + 1), strikeTimer := none, waitTimer := none,
                clearTimer := none } .quench) ∧
            -- a failure
            (code = 3 → x.state = .striking → x.unconfirmed = false →
              s.lampCommanded t l x (s.failureOf ch x).1 .quench ∧
              ((s.failureOf ch x).2 = false → s.lampAndFrame t l f) ∧
              ((s.failureOf ch x).2 = true → (s.north.queue.length < 15 → s.raisedOnly t .lampDead x.bank.1) ∧
                t.banks = s.banks ∧ ∀ m, m ≠ l → t.lamp m = s.lamp m)) ∧
            -- OVERTEMP
            (code = 5 → x.state = .striking ∨ (x.state = .lit ∧ s.countQuiet ch x.bank (s.litCount x.bank - 1)) →
              x.unconfirmed = false →
              s.lampAndFrame t l f ∧ s.lampCommanded t l x
                { x with state := .off, cool := 1000, strikeTimer := none, clearTimer := none } .quench) ∧
            (code = 5 → x.state = .retryWait ∨ x.state = .longWait ∨ x.state = .dead ∨
                (x.state = .off ∧ x.unconfirmed = false) →
              s.lampAndFrame t l f ∧ t.south = s.south ∧
                t.lamp l = some { x with unconfirmed := false, cool := 1000 }) ∧
            -- a bank in RUN left with too few
            ((code = 2 ∨ code = 4 ∨ code = 5) → x.state = .lit → x.unconfirmed = false →
              (s.bank x.bank).state = .run → s.litCount x.bank - 1 < (s.bank x.bank).get .minLampsLit →
              (t.bank x.bank).state = .faulted ∧
                (t.bank x.bank).faultTimer = some (s.now + 1000 * (s.bank x.bank).get .faultRest) ∧
                (∃ z, t.lamp l = some z ∧ s.cmdMade t x z .quench ∧
                  ∀ n, n = min 255 (x.dropouts + 1) →
                    (code = 5 → z = { x with
                      state := .off, wanted := false, cool := 1000, strikeTimer := none, clearTimer := none,
                      cmd := z.cmd }) ∧
                    (code ≠ 5 → (s.chan ch).get .dropoutMode = 1 → 3 ≤ n → z = { x with
                      state := .dead, wanted := false, dropouts := n, strikeTimer := none, waitTimer := none,
                      clearTimer := none, cmd := z.cmd }) ∧
                    (code ≠ 5 → ((s.chan ch).get .dropoutMode ≠ 1 ∨ n < 3) →
                      (x.wanted = true → z = { x with
                        state := .off, wanted := false, dropouts := n, waitTimer := none, clearTimer := none,
                        cmd := z.cmd }) ∧
                      (x.wanted = false → z = { x with
                        state := .retryWait, dropouts := n, clearTimer := none,
                        waitTimer := some (s.now + 1000 * (s.chan ch).get .retryDelay), cmd := z.cmd }))) ∧
                ∀ m y, m ≠ l → s.lamp m = some y →
                  (y.bank ≠ x.bank → t.lamp m = some y) ∧
                  (y.bank = x.bank → ∃ z, t.lamp m = some z ∧ s.flagBecame t false y z)) ∧
            -- nothing but confirmation
            ((code = 1 ∧ x.state = .lit) ∨ (code = 3 ∧ x.state ≠ .striking ∧ x.state ≠ .off) ∨
                ((code = 2 ∨ code = 4) ∧ x.state ≠ .lit ∧ x.state ≠ .off) →
              s.lampAndFrame t l f ∧ t.south = s.south ∧ t.lamp l = some { x with unconfirmed := false }) ∧
            (code = 2 ∨ code = 3 ∨ code = 4 ∨ code = 5 → x.state = .off →
              (x.unconfirmed = true ∨ code ≠ 5) → s.lampAndFrame t l f ∧
              ∀ y, y = { x with unconfirmed := false, cool := if code = 5 then 1000 else x.cool } →
                (x.unconfirmed = true → s.triedStrike t l y) ∧
                (x.unconfirmed = false → t.lamp l = some y ∧ t.south = s.south))))

/-- The strike window runs out: a strike failure (07, R122). A QUENCH is made; below the retry limit the lamp waits for
a retry, at it for the next set, and at MaxSets sets it is DEAD and LAMP_DEAD is raised for its bank (R124). -/
def Obligations.StrikeWindowEndsInFailure : Prop :=
  ∀ (l : LampId) (x : Lamp) (ch : ChanId) (d limit : Nat) (s : State),
    s.atRest → s.lamp l = some x → x.state = .striking → x.strikeTimer = some d → d ≤ s.now →
    (s.bank x.bank).owner = some ch →
    limit = (if x.sets = 0 then (s.chan ch).get .firstSetRetries else (s.chan ch).get .runSetRetries) →
    ∃ t slot, exec (.strikeWindowExpiry l) s = .next t ∧ s.placedIn t x.station x.cmd slot .quench ∧
      (x.attempts + 1 < limit → s.lampOnly t l ∧ t.lamp l = some { x with
        state := .retryWait, strikeTimer := none, attempts := x.attempts + 1,
        waitTimer := some (s.now + 1000 * (s.chan ch).get .retryDelay), cmd := slot }) ∧
      (limit ≤ x.attempts + 1 → x.sets + 1 < (s.chan ch).get .maxSets → s.lampOnly t l ∧ t.lamp l = some { x with
        state := .longWait, strikeTimer := none, attempts := 0, sets := x.sets + 1,
        waitTimer := some (s.now + 1000 * (s.chan ch).get .retryDelay * (s.chan ch).get .longMult), cmd := slot }) ∧
      (limit ≤ x.attempts + 1 → (s.chan ch).get .maxSets ≤ x.sets + 1 →
        (∀ m, m ≠ l → t.lamp m = s.lamp m) ∧ t.lamp l = some { x with
          state := .dead, strikeTimer := none, waitTimer := none, clearTimer := none, attempts := 0,
          sets := (s.chan ch).get .maxSets, cmd := slot } ∧
        s.raisedOnly t .lampDead x.bank.1 ∧
        ({ s with lamps := t.lamps, south := t.south } : State).onlyAlarms t)

/-- A wait ends, the lamp is OFF and its strike path is tried (07, R120, R123); the settle timer and the dropout-clear
timer run out (03, R47; 07, R125). -/
def Obligations.WaitSettleAndDropoutTimersEnd : Prop :=
  (∀ (l : LampId) (x : Lamp) (d : Nat) (s : State),
    s.atRest → s.lamp l = some x → x.waitTimer = some d → d ≤ s.now →
    ∃ t : State, exec (.waitTimerExpiry l) s = .next t ∧ s.lampOnly t l ∧
      s.triedStrike t l { x with state := .off, waitTimer := none }) ∧
  (∀ (b : BankId) (d : Nat) (s : State), s.atRest → (s.bank b).tracker.settleTimer = some d → d ≤ s.now →
    exec (.settleTimerExpiry b) s =
      .next (s.modBank b fun x => { x with tracker := { x.tracker with settleTimer := none } })) ∧
  ∀ (l : LampId) (x : Lamp) (d : Nat) (s : State), s.atRest → s.lamp l = some x → x.clearTimer = some d → d ≤ s.now →
    exec (.dropoutClearExpiry l) s = .next (s.setLamp l (some { x with dropouts := 0, clearTimer := none }))

/-- The cooling step (07, R129). -/
def Obligations.CoolingStepMovesTheIndex : Prop :=
  ∀ (l : LampId) (x : Lamp) (d friction damping inertia warmShift : Nat) (s : State),
    s.atRest → s.lamp l = some x → x.coolTimer = some d → d ≤ s.now →
    (∀ ch, (s.bank x.bank).owner = some ch →
      friction = (s.chan ch).get .friction ∧ damping = (s.chan ch).get .damping ∧
        inertia = (s.chan ch).get .inertia ∧ warmShift = (s.chan ch).get .warmShift) →
    ((s.bank x.bank).owner = none → friction = 40 ∧ damping = 400 ∧ inertia = 200 ∧ warmShift = 4) →
    ∃ t : State, exec (.coolingStep l) s = .next t ∧ s.lampOnly t l ∧
      s.triedStrike t l { x with
        cool := if x.state = .lit then min 1000 (x.cool + max 1 ((1000 - x.cool) >>> warmShift))
          else if 0 < x.cool then x.cool - max 1 ((friction + damping * x.cool / 1024) / inertia)
          else 0
        coolTimer := some (s.now + 100) }

/-- LAMP CLEAR (07, R124; 09, R162): a DEAD lamp is OFF with its counts at 0 and its strike path is tried; any other
lamp is left as it is; an empty entry, or none, is a bad reference. -/
def Obligations.LampClearReturnsADeadLamp : Prop :=
  ∀ (r : Sender) (s : State), s.ready →
    (∀ (l : LampId) (x : Lamp), s.lamp l = some x → x.state ≠ .dead →
      exec (.lampClear r (BitVec.ofNat 8 l.1)) s = .next (s.withReply r 0x08 [0])) ∧
    (∀ (l : LampId) (x : Lamp), s.lamp l = some x → x.state = .dead →
      ((s.bank x.bank).state ≠ .faulted ∨ (s.bank x.bank).faultTimer ≠ none) →
      ∃ u : State, exec (.lampClear r (BitVec.ofNat 8 l.1)) s = .next (u.withReply r 0x08 [0]) ∧ s.lampOnly u l ∧
        s.triedStrike u l { x with state := .off, attempts := 0, sets := 0, dropouts := 0 }) ∧
    (∀ b : Byte, (∀ l : LampId, l.1 = b.toNat → s.lamp l = none) →
      exec (.lampClear r b) s = .next (s.withReply r 0x08 [2, 2]))

/-! ### What every step keeps -/

/-- Every step keeps the queues within 16 frames and 8 own frames (08, R142 to R145), and leaves no event in
progress. -/
def Obligations.QueuesStayBounded : Prop :=
  ∀ s t : State, step s = .next t →
    (s.queuesBounded → t.queuesBounded) ∧ (s.atRest → t.atRest)

/-- Every step keeps the volume accounts sound, off-spec litres never above total litres, and every pulse remainder
below its PulseVolume with a backlog of at most 255 (01, R15 to R19). -/
def Obligations.AccountsStaySound : Prop :=
  ∀ s t : State, s.totalsSound → s.pulsesSound → step s = .next t → t.totalsSound ∧ t.pulsesSound

/-- Every step keeps each edit lock held exactly while its channel is in EDIT (05, R77 to R79; 09, R157 to R159). -/
def Obligations.LocksAreHeldExactlyInEdit : Prop :=
  ∀ s t : State, s.locksSound → step s = .next t → t.locksSound

/-- Every step keeps each start order list to exactly the STRIKING, WARMING and RUN banks of its channel, and STRIKE
and QUENCH programs to STRIKING and QUENCHING banks (05, R87; 06, R101, R105). -/
def Obligations.StartListsMirrorBankStates : Prop :=
  ∀ s t : State, s.listsSound → s.programsSound → step s = .next t → t.listsSound ∧ t.programsSound

/-- Every step keeps point entries, lamp entries and bank and slot pairs unique and the banks of a channel at most
four (02, R25; 07, R116; 09, R155). -/
def Obligations.EntriesStayUnique : Prop :=
  ∀ s t : State, s.entriesUnique → step s = .next t → t.entriesUnique

/-- No command but a write, a full reset and the reception of a frame that may carry a write changes what management's
tables hold (09, R153, R166, R167). -/
def Obligations.TablesChangeOnlyByWrites : Prop :=
  (∀ (i : Instr) (s t : State), i.mayWrite = false → exec i s = .next t → t.tables = s.tables) ∧
  ∀ s t : State, s.pending = [] → step s = .next t → t.tables = s.tables

/-! ### Reads -/

/-- Requests that read are answered with what they read and change nothing: READ ENTRY of every table, READ STATE of
every record kind, READ TOTALS, IDENTIFY (01 R24; 02 R41; 03 R59; 04 R75; 05 R99; 06 R115; 07 R133; 08 R149; 09 R152,
R163, R164; 10 R178). A reference to nothing is refused, an index of another length than its kind takes with
UNKNOWN_REQUEST (R183). The widths and places of the fields, the filling of what is absent, the coding of the
pointer's slot (logs 6, 8, 9, 10), the rounding of seconds (log 7), the layout of programs (log 5) and the step index
with no program (log 32) are the model's choices. -/
def Obligations.ReadsAnswerAndChangeNothing : Prop :=
  ∀ (r : Sender) (s : State), s.ready →
    (∀ family revision capacities : List Byte,
      family = Config.identifyFamily.take 41 → revision = Config.identifyRevision.take (41 - family.length) →
      capacities = Config.identifyCapacities.take (41 - family.length - revision.length) →
      exec (.identify r) s = .next (s.withReply r 0x01 (0 ::
        (family ++ bytes2 6400 ++ revision ++ bytes2 s.address ++ capacities)))) ∧
    -- READ ENTRY
    (∀ (ch : ChanId) (n : Byte) (x : ChanSetting), chanSettingOfCode n.toNat = some x →
      exec (.readEntry r 1 (BitVec.ofNat 8 ch.1) n) s = .next (s.withReply r 0x02 (0 ::
        (if n = 13 ∨ n = 25 then [BitVec.ofNat 8 ((s.chan ch).get x)] else bytes2 ((s.chan ch).get x))))) ∧
    (∀ (ch : ChanId) (k : Fin 8),
      exec (.readEntry r 2 (BitVec.ofNat 8 ch.1) (BitVec.ofNat 8 k.1)) s = .next (s.withReply r 0x02 (0 ::
        (bytes2 ((s.chan ch).uvtCurve.get k).x ++ bytes2 ((s.chan ch).uvtCurve.get k).y))) ∧
      exec (.readEntry r 3 (BitVec.ofNat 8 ch.1) (BitVec.ofNat 8 k.1)) s = .next (s.withReply r 0x02 (0 ::
        (bytes2 ((s.chan ch).ballastCurve.get k).x ++ bytes2 ((s.chan ch).ballastCurve.get k).y)))) ∧
    (∀ (b : BankId) (n : Byte),
      (∀ x, bankFieldOfCode n.toNat = some (.setting x) →
        exec (.readEntry r 4 (BitVec.ofNat 8 b.1) n) s = .next (s.withReply r 0x02 (0 ::
          (if n = 11 then [BitVec.ofNat 8 ((s.bank b).get x)] else bytes2 ((s.bank b).get x))))) ∧
      exec (.readEntry r 4 (BitVec.ofNat 8 b.1) 15) s = .next (s.withReply r 0x02 [0, match (s.bank b).owner with
        | some ch => BitVec.ofNat 8 (ch.1 + 1)
        | none => 0]) ∧
      exec (.readEntry r 4 (BitVec.ofNat 8 b.1) 20) s = .next (s.withReply r 0x02 [0, match (s.bank b).wiperStation with
        | some st => BitVec.ofNat 8 st
        | none => 0])) ∧
    (∀ (b : BankId) (k : ProgKind),
      exec (.readEntry r 5 (BitVec.ofNat 8 b.1) (placeIn [.strike, .quench, .wipe] k)) s = .next (s.withReply r 0x02 (0 ::
        (Config.programCarried (((s.bank b).program k).toList.flatMap fun y =>
          bytes2 y.k ++ (match y.set with
            | some m => [1, maskOf (maskMembers m)]
            | none => [0, 0]) ++ [yes y.wiper, placeIn [.set, .clear, .keep] y.blank, yes y.last])).take 43))) ∧
    (∀ l : LampId,
      exec (.readEntry r 6 (BitVec.ofNat 8 l.1) 0) s = .next (s.withReply r 0x02 (0 :: match s.lamp l with
        | some x => BitVec.ofNat 8 x.station :: BitVec.ofNat 8 x.bank.1 :: bytes2 x.slot
        | none => [0]))) ∧
    (∀ p : PointId,
      exec (.readEntry r 7 (BitVec.ofNat 8 p.1) 0) s = .next (s.withReply r 0x02 (0 :: match s.point p with
        | some x => BitVec.ofNat 8 x.cfg.station :: (bytes2 x.cfg.index ++ (match x.cfg.targets with
            | .flow ch => [0, BitVec.ofNat 8 ch.1]
            | .uvt chs => [1, maskOf (chs.map fun ch => ch.1)]
            | .intensity b => [2, BitVec.ofNat 8 b.1]
            | .wiper b => [3, BitVec.ofNat 8 b.1]) ++ bytes2 x.cfg.gain ++ bytes2 (BitVec.ofInt 16 x.cfg.offset).toNat ++
            bytes2 x.cfg.rawMin ++ bytes2 x.cfg.rawMax ++ bytes2 x.cfg.timeout)
        | none => [0]))) ∧
    (∀ k : AlarmKind,
      exec (.readEntry r 8 (BitVec.ofNat 8 k.number) 0) s =
        .next (s.withReply r 0x02 (0 :: bytes2 (s.priority k)))) ∧
    (exec (.readEntry r 9 0 1) s = .next (s.withReply r 0x02 (0 :: bytes2 s.north.errorLimit)) ∧
      exec (.readEntry r 9 0 2) s = .next (s.withReply r 0x02 (0 :: bytes2 s.south.errorLimit)) ∧
      exec (.readEntry r 9 0 3) s = .next (s.withReply r 0x02 (0 :: bytes2 s.threshold)) ∧
      exec (.readEntry r 9 0 4) s = .next (s.withReply r 0x02 (0 :: bytes2 s.alertDest))) ∧
    (∀ t i n : Byte, t = 0 ∨ 10 ≤ t.toNat ∨ (t.toNat ≤ 3 ∧ 4 ≤ i.toNat) ∨ ((t = 4 ∨ t = 5) ∧ 12 ≤ i.toNat) ∨
        (t = 6 ∧ 64 ≤ i.toNat) ∨ (t = 7 ∧ 96 ≤ i.toNat) ∨ (t = 8 ∧ (i = 0 ∨ 19 ≤ i.toNat)) ∨ (t = 9 ∧ i ≠ 0) ∨
        (t = 1 ∧ (n = 0 ∨ 34 ≤ n.toNat)) ∨ ((t = 2 ∨ t = 3) ∧ 8 ≤ n.toNat) ∨ (t = 4 ∧ (n = 0 ∨ 23 ≤ n.toNat)) ∨
        (t = 5 ∧ 3 ≤ n.toNat) ∨ (6 ≤ t.toNat ∧ t.toNat ≤ 8 ∧ n ≠ 0) ∨ (t = 9 ∧ (n = 0 ∨ 5 ≤ n.toNat)) →
      exec (.readEntry r t i n) s = .next (s.withReply r 0x02 [2, 2])) ∧
    -- READ STATE
    (∀ (ch : ChanId) (c : Channel), c = s.chan ch →
      exec (.readState r 1 [BitVec.ofNat 8 ch.1]) s = .next (s.withReply r 0x09 (0 ::
        (bytes2 c.acct.lastDose ++ bytes2 (c.acct.bankDoses.get 0) ++ bytes2 (c.acct.bankDoses.get 1) ++
          bytes2 (c.acct.bankDoses.get 2) ++ bytes2 (c.acct.bankDoses.get 3) ++ [yes c.acct.outOfRange] ++
          [yes c.acct.offSpec] ++ bytes2 c.acct.doseLow ++
          present2 (c.acct.lastPass.map fun d => min 65535 (s.now - d)) ++
          [held c.acct.fallback.isSome] ++
          [match c.uvtUse with
            | .fresh => (0 : Byte)
            | .held _ => 1
            | .failsafe => 2] ++ bytes2 (s.uvtNow ch) ++ s.secondsOf c.uvtHold))) ∧
      exec (.readState r 2 [BitVec.ofNat 8 ch.1]) s = .next (s.withReply r 0x09 (0 ::
        (bytes2 c.power.pd ++ bytes2 c.power.applied ++ bytes2 c.power.code ++
          bytes2 (BitVec.ofInt 16 c.power.ePrev).toNat ++
          bytes2 (if c.get .decelHalf = 0 then max 1 (c.get .rampUp / 2) else c.get .rampUp)))) ∧
      exec (.readState r 3 [BitVec.ofNat 8 ch.1]) s = .next (s.withReply r 0x09 (0 ::
        ([placeIn [.unarmed, .auto, .manual, .full, .standdown, .edit] c.mode,
            placeIn [.unarmed, .auto, .manual, .full, .standdown, .edit] c.prevMode] ++
          bytes2 c.manualValue ++ bytes2 c.manualCount ++ s.secondsOf c.manualLease ++
          [BitVec.ofNat 8 c.startList.length] ++ c.startList.map (fun b => BitVec.ofNat 8 b.1) ++
          bytes2 c.upCount ++ bytes2 c.downCount ++ bytes2 c.pendingUp ++ s.millisOf c.adoption ++
          [yes c.profileValid, yes (s.alarm .stageExhausted ch.1).cause, BitVec.ofNat 8 (c.holder.getD 0)] ++
          s.secondsOf c.editLease)))) ∧
    (∀ (b : BankId) (x : Bank) (k : Tracker), x = s.bank b → k = x.tracker →
      exec (.readState r 4 [BitVec.ofNat 8 b.1]) s = .next (s.withReply r 0x09 (0 ::
        (present2 k.sf ++ present4 k.sn ++ present4 k.sref ++ [yes k.reseed] ++ (match k.sag with
            | .clear => [0, 0, 0, 0]
            | .entering n => [1, 1] ++ bytes2 n
            | .active => [2, 0, 0, 0]
            | .leaving n => [3, 1] ++ bytes2 n) ++ s.secondsOf k.sagTimer ++ s.millisOf k.settleTimer ++
          [yes k.blank, yes k.warm, yes (s.alarm .outputLow b.1).cause]))) ∧
      exec (.readState r 5 [BitVec.ofNat 8 b.1]) s = .next (s.withReply r 0x09 (0 ::
        ([match x.owner with
            | some ch => BitVec.ofNat 8 (ch.1 + 1)
            | none => 0] ++ bytes2 (x.get .position) ++
          [placeIn [.dark, .striking, .warming, .run, .quenching, .faulted, .locked] x.state] ++
          bytes2 (s.litCount b) ++ bytes2 (s.installed b).length ++ s.secondsOf x.warmTimer ++
          s.secondsOf x.faultTimer ++ [placeIn [none, some .strike, some .quench, some .wipe] x.running] ++
          bytes2 x.stepIdx.1 ++ s.millisOf x.stepTimer ++ s.secondsOf x.wipeInterval ++
          [yes x.wipeDue, held x.wiperSlot.isSome, placeIn [.idle, .started, .moving] x.supervision] ++
          s.secondsOf x.wipeLimit ++ [placeIn [.none, .ok, .fault] x.lastWipe])))) ∧
    (∀ l : LampId,
      exec (.readState r 6 [BitVec.ofNat 8 l.1]) s = .next (s.withReply r 0x09 (0 :: match s.lamp l with
        | some x => [1, placeIn [.off, .striking, .lit, .retryWait, .longWait, .dead] x.state, yes x.wanted,
              yes x.unconfirmed] ++ bytes2 x.cool ++ bytes2 x.attempts ++ bytes2 x.sets ++ bytes2 x.dropouts ++
            s.millisOf x.strikeTimer ++ s.millisOf x.waitTimer ++ s.millisOf x.clearTimer ++
            (match x.cmd with
              | none => [0, 0, 0]
              | some (.strike c) => 1 :: bytes2 c
              | some (.set c) => 2 :: bytes2 c
              | some .quench => [3, 0, 0])
        | none => [0]))) ∧
    (∀ p : PointId,
      exec (.readState r 7 [BitVec.ofNat 8 p.1]) s = .next (s.withReply r 0x09 (0 :: match s.point p with
        | some x => 1 :: ((match x.value, x.cfg.targets with
              | none, .wiper _ => [0, 0]
              | none, _ => [0, 0, 0]
              | some (.num n), _ => 1 :: bytes2 n
              | some (.pos w), _ => [1, placeIn [.parked, .moving, .jammed] w]) ++
            [yes x.fresh, match x.quality with
              | none => 0
              | some .good => 1
              | some _ => 2] ++ present2 (x.accepted.map fun d => min 65535 (s.now - d)) ++
            (match x.cfg.targets with
              | .flow ch => if s.flowPoint ch = some p then [1, BitVec.ofNat 8 ch.1] else [0, 0]
              | .uvt chs => if (chs.filter fun ch => s.uvtPoint ch = some p) = [] then [0, 0]
                else [1, maskOf ((chs.filter fun ch => s.uvtPoint ch = some p).map fun ch => ch.1)]
              | .intensity b => if s.intensityPoint b = some p then [1, BitVec.ofNat 8 b.1] else [0, 0]
              | .wiper b => if s.wiperPoint b = some p then [1, BitVec.ofNat 8 b.1] else [0, 0]))
        | none => [0, 0, 0, 0, yes false, 0, 0, 0, 0, 0, 0]))) ∧
    (∀ p : Port,
      exec (.readState r 8 [placeIn [.north, .south] p]) s = .next (s.withReply r 0x09 (0 ::
        (bytes2 s.address ++ [yes s.repeater] ++ bytes2 (s.port p).errors ++ bytes2 (s.port p).errorLimit ++
          bytes2 (s.port p).queue.length ++ bytes2 (s.port p).ownCount ++
          [held ((s.replySlot.map fun w => w.port) = some p)] ++
          (match p with
            | .north => [held s.alertSlot.isSome]
            | .south => bytes2 ((List.finRange 76).countP fun q => (s.slotFrame q).isSome) ++
                [BitVec.ofNat 8 s.pointer.1]))))) ∧
    (∀ (k : AlarmKind) (i : Nat), i < k.scope →
      exec (.readState r 9 [BitVec.ofNat 8 k.number, BitVec.ofNat 8 i]) s = .next (s.withReply r 0x09 (0 ::
        (bytes2 (s.priority k) ++ [placeIn [.idle, .pending, .inService, .inServiceRecurred] (s.alarm k i).state] ++
          (if k.latched then [] else [yes (s.alarm k i).cause]))))) ∧
    (∀ (n above served : Nat), n = (allInstances.countP fun z => (s.alarm z.1 z.2).state = .pending) →
      above = (allInstances.countP fun z => (s.alarm z.1 z.2).state = .pending ∧ s.threshold < s.priority z.1) →
      served = (allInstances.countP fun z =>
        (s.alarm z.1 z.2).state = .inService ∨ (s.alarm z.1 z.2).state = .inServiceRecurred) →
      exec (.readState r 10 []) s = .next (s.withReply r 0x09 (0 ::
        (bytes2 s.threshold ++ bytes2 s.alertDest ++ [yes s.alertLine, held s.alertSlot.isSome] ++ bytes2 n ++
          bytes2 above ++ bytes2 served ++ (List.finRange 4).flatMap fun ch =>
            [placeIn [.idle, .high, .gap] (s.chan ch).pulsePhase] ++ s.millisOf (s.chan ch).pulseTimer ++
              bytes2 (s.chan ch).acct.backlog)))) ∧
    (∀ k i : Byte, k = 0 ∨ 11 ≤ k.toNat →
      exec (.readState r k [i]) s = .next (s.withReply r 0x09 [2, 2])) ∧
    (∀ (k : Byte) (index : List Byte),
      index.length ≠ (if k = 9 then 2 else if k = 10 then 0 else 1) →
      exec (.readState r k index) s = .next (s.withReply r 0x09 [2, 1])) ∧
    (∀ k i : Byte, (1 ≤ k.toNat ∧ k.toNat ≤ 3 ∧ 4 ≤ i.toNat) ∨ ((k = 4 ∨ k = 5) ∧ 12 ≤ i.toNat) ∨
        (k = 6 ∧ 64 ≤ i.toNat) ∨ (k = 7 ∧ 96 ≤ i.toNat) ∨ (k = 8 ∧ 2 ≤ i.toNat) →
      exec (.readState r k [i]) s = .next (s.withReply r 0x09 [2, 2])) ∧
    (∀ k i : Byte, (∀ m : AlarmKind, m.number = k.toNat → m.scope ≤ i.toNat) →
      exec (.readState r 9 [k, i]) s = .next (s.withReply r 0x09 [2, 2])) ∧
    (∀ ch : ChanId,
      exec (.readTotals r (BitVec.ofNat 8 ch.1)) s = .next (s.withReply r 0x0A (0 ::
        (bytes4 (s.chan ch).acct.totalL ++ bytes2 (s.chan ch).acct.totalMl ++ bytes4 (s.chan ch).acct.offL ++
          bytes2 (s.chan ch).acct.offMl ++ bytes2 (s.chan ch).acct.pulseRem ++ bytes2 (s.chan ch).acct.backlog)))) ∧
    ∀ b : Byte, 4 ≤ b.toNat → exec (.readTotals r b) s = .next (s.withReply r 0x0A [2, 2])

/-- CLEAR TOTALS zeroes the four volume counts and the pulse remainder and leaves everything else, the backlog and the
last pass time included (01, R18). -/
def Obligations.ClearTotalsZeroesTheVolumes : Prop :=
  ∀ (r : Sender) (ch : ChanId) (s : State), s.ready →
    exec (.clearTotals r (BitVec.ofNat 8 ch.1)) s =
      .next ((s.modChan ch fun c =>
        { c with acct := { c.acct with totalL := 0, totalMl := 0, offL := 0, offMl := 0, pulseRem := 0 } }).withReply
          r 0x0B [0]) ∧
    ∀ b : Byte, 4 ≤ b.toNat → exec (.clearTotals r b) s = .next (s.withReply r 0x0B [2, 2])

/-! ### Writes -/

/-- A write of a channel setting by the holder of the channel's lock stores the value clamped to its range, marks a
clamped one and clears the profile-valid flag (09, R151, R153, R156; 01 Table 1-2, 02 Table 2-6, 04 Table 4-2, 05 Table
5-2, 07 Table 7-3, 10 Table 10-3). Pmin raises a lower demand (04, R72); lowered retry limits adjust the channel's
lamps (07, R130). -/
def Obligations.ChannelSettingIsWritten : Prop :=
  ∀ (r : Sender) (ch : ChanId) (n : Byte) (v : Half) (x : ChanSetting) (lo hi w : Nat) (s : State),
    s.ready → (s.chan ch).holder = some r.station → chanSettingOfCode n.toNat = some x → w = clampNat v.toNat lo hi →
    ((n.toNat, lo, hi) ∈
        [(1, 10, 2000), (2, 1, 30000), (3, 1, 30000), (4, 1, 30000), (5, 0, 1000), (6, 1, 255), (7, 200, 5000),
          (9, 0, 3600), (10, 0, 255), (11, 0, 255), (12, 1, 200), (15, 1, 255), (16, 1, 255), (17, 100, 1000),
          (18, 0, 4), (19, 1, 60), (20, 1, 600), (21, 2, 32), (26, 60, 3600), (27, 0, 1000), (28, 0, 1023),
          (29, 1, 1000), (30, 1, 8), (31, 0, 1000), (32, 20, 1000), (33, 20, 1000)] →
      exec (.writeChannelSetting r (BitVec.ofNat 8 ch.1) n v) s =
        .next ((s.modChan ch fun c => { c with settings := put c.settings x.idx w, profileValid := false }).withReply
          r 0x03 [clampMark v.toNat lo hi])) ∧
    (n = 13 ∨ n = 25 → v.toNat ≤ 1 →
      exec (.writeChannelSetting r (BitVec.ofNat 8 ch.1) n v) s =
        .next ((s.modChan ch fun c =>
          { c with settings := put c.settings x.idx v.toNat, profileValid := false }).withReply r 0x03 [0])) ∧
    (n = 13 ∨ n = 25 → 2 ≤ v.toNat →
      exec (.writeChannelSetting r (BitVec.ofNat 8 ch.1) n v) s = .next (s.withReply r 0x03 [2, 2])) ∧
    (n = 14 → lo = 100 → hi = 1000 →
      exec (.writeChannelSetting r (BitVec.ofNat 8 ch.1) n v) s =
        .next ((s.modChan ch fun c =>
          { c with settings := put c.settings x.idx w, profileValid := false,
                   power := { c.power with pd := max c.power.pd w } }).withReply r 0x03 [clampMark v.toNat lo hi])) ∧
    ((n.toNat, lo, hi) ∈ [(22, 1, 4), (23, 1, 4), (24, 1, 15)] →
      exec (.writeChannelSetting r (BitVec.ofNat 8 ch.1) n v) s =
        .next (({ s.modChan ch (fun c => { c with settings := put c.settings x.idx w, profileValid := false }) with
          lamps := build fun l => (s.lamp l).map fun y =>
            if (s.bank y.bank).owner = some ch ∧ w < (s.chan ch).get x then
              (if n = 24 then (if w < y.sets then { y with sets := w } else y)
              else if (n = 22 ↔ y.sets = 0) ∧ w ≤ y.attempts then { y with attempts := w - 1 } else y)
            else y } : State).withReply r 0x03 [clampMark v.toNat lo hi]))

/-- A write of PulseVolume turns the pulse remainder into backlog by the new, clamped value, and a backlog that was 0
starts a pulse on an IDLE line (01, R17, R19; 10, R179). -/
def Obligations.PulseVolumeWriteAccrues : Prop :=
  ∀ (r : Sender) (ch : ChanId) (v : Half) (w n : Nat) (a : Accounting) (s : State),
    s.ready → (s.chan ch).holder = some r.station → w = clampNat v.toNat 1 65535 → a = (s.chan ch).acct →
    n = min 255 (a.backlog + a.pulseRem / w) →
    exec (.writeChannelSetting r (BitVec.ofNat 8 ch.1) 8 v) s =
      .next ((s.modChan ch fun c =>
        if a.backlog = 0 ∧ 0 < n ∧ c.pulsePhase = .idle then
          { c with settings := put c.settings 7 w, profileValid := false,
                   acct := { a with pulseRem := a.pulseRem % w, backlog := n - 1 },
                   pulsePhase := .high, pulseTimer := some (s.now + c.get .pulseWidth) }
        else
          { c with settings := put c.settings 7 w, profileValid := false,
                   acct := { a with pulseRem := a.pulseRem % w, backlog := n } }).withReply
        r 0x03 [clampMark v.toNat 1 65535])

/-- A write of a point of a transmittance or ballast curve by the holder of the lock stores both fields clamped and
clears the profile-valid flag (01 R1, Table 1-2; 04 R72, Table 4-2; 09 R151, R156). -/
def Obligations.CurvePointIsWritten : Prop :=
  ∀ (r : Sender) (ch : ChanId) (k : Fin 8) (a b : Half) (s : State),
    s.ready → (s.chan ch).holder = some r.station →
    exec (.writeUvtCurvePoint r (BitVec.ofNat 8 ch.1) (BitVec.ofNat 8 k.1) a b) s =
      .next ((s.modChan ch fun c =>
        { c with uvtCurve := put c.uvtCurve k ⟨clampNat a.toNat 0 1000, clampNat b.toNat 1 8191⟩,
                 profileValid := false }).withReply
        r 0x03 [clampMark a.toNat 0 1000 ||| clampMark b.toNat 1 8191]) ∧
    exec (.writeBallastCurvePoint r (BitVec.ofNat 8 ch.1) (BitVec.ofNat 8 k.1) a b) s =
      .next ((s.modChan ch fun c =>
        { c with ballastCurve := put c.ballastCurve k ⟨clampNat a.toNat 0 1000, clampNat b.toNat 1 255⟩,
                 profileValid := false }).withReply
        r 0x03 [clampMark a.toNat 0 1000 ||| clampMark b.toNat 1 255])

/-- A write of a bank's setting or wiper station, its owner's lock held or no owner (01 Table 1-2; 03 R57, Table 3-2;
05 R94, R95, Table 5-5; 06 R107, R109, R111, R113, Table 6-4; 09 R151, R153, R156): the clamped value is stored and
acts as its rule says. MinLampsLit re-checks a FAULTED bank whose rest is over; Expected and LowPct judge OUTPUT_LOW
anew, whose beginning starts a wipe where one may run. That such a wipe with WipeInterval 0 leaves the interval timer
as it stands is the model's choice (log 27). -/
def Obligations.BankRecordIsWritten : Prop :=
  ∀ (r : Sender) (b : BankId) (n : Byte) (v : Half) (x : BankSetting) (lo hi w : Nat) (s u : State),
    s.ready → s.holdsLocks r.station (s.bank b).owner.toList → u = s.flagsCleared (s.bank b).owner.toList →
    w = clampNat v.toNat lo hi →
    (bankFieldOfCode n.toNat = some (.setting x) →
      ((n.toNat, lo, hi) ∈
          [(1, 1, 4000), (2, 0, 6), (3, 4, 12), (4, 0, 60000), (5, 0, 255), (6, 1, 255), (7, 0, 255), (8, 1, 15),
            (9, 1, 15), (10, 0, 3600), (14, 1, 255), (16, 0, 3), (18, 10, 900), (19, 10, 3600), (22, 10, 600)] →
        exec (.writeBankRecord r (BitVec.ofNat 8 b.1) n v) s =
          .next ((u.modBank b fun y => { y with settings := put y.settings x.idx w }).withReply
            r 0x03 [clampMark v.toNat lo hi])) ∧
      (n = 17 → lo = 1 → hi = 8 → s.listsSound → (s.bank b).state = .faulted → (s.bank b).faultTimer = none →
        w ≤ s.nonDead b →
        ∃ t : State, exec (.writeBankRecord r (BitVec.ofNat 8 b.1) n v) s =
            .next (t.withReply r 0x03 [clampMark v.toNat lo hi]) ∧
          t.outer = s.outer ∧ t.lamps = s.lamps ∧ t.points = s.points ∧ t.south = s.south ∧
          (t.bank b).settings = put (s.bank b).settings x.idx w ∧
          ((t.bank b).state = .dark ∨ (t.bank b).state = .striking) ∧ (t.alarm .bankFault b.1).cause = false) ∧
      (n = 17 → lo = 1 → hi = 8 →
        ((s.bank b).state ≠ .faulted ∨ (s.bank b).faultTimer ≠ none ∨ s.nonDead b < w) →
        exec (.writeBankRecord r (BitVec.ofNat 8 b.1) n v) s =
          .next ((u.modBank b fun y => { y with settings := put y.settings x.idx w }).withReply
            r 0x03 [clampMark v.toNat lo hi])) ∧
      ((n.toNat, lo, hi) ∈ [(12, 1, 65535), (13, 1, 255)] →
        ∃ t : State, exec (.writeBankRecord r (BitVec.ofNat 8 b.1) n v) s =
            .next (t.withReply r 0x03 [clampMark v.toNat lo hi]) ∧
          (t.bank b).settings = put (s.bank b).settings x.idx w ∧
          ∀ low : Bool, (low = true ↔ (s.bank b).state = .run ∧
              ∃ q, (s.bank b).tracker.sref = some q ∧ q * 256 < (t.bank b).get .expected * (t.bank b).get .lowPct) →
            (t.alarm .outputLow b.1).cause = low ∧
            (u.modBank b fun y =>
              if low = true ∧ (s.alarm .outputLow b.1).cause = false ∧ y.running = none ∧
                  (∃ ch, y.owner = some ch ∧ (s.chan ch).dormant = false) then
                { y with
                  settings := put y.settings x.idx w
                  running := some .wipe
                  stepIdx := 0
                  stepTimer := some (s.now + 10 * 2 ^ (y.wipe.get 0).k)
                  wipeInterval := if y.get .wipeInterval = 0 then y.wipeInterval
                    else some (s.now + 60000 * y.get .wipeInterval) }
              else { y with settings := put y.settings x.idx w }).onlyAlarms t) ∧
      (n = 21 → lo = 0 → hi = 1440 →
        exec (.writeBankRecord r (BitVec.ofNat 8 b.1) n v) s =
          .next ((u.modBank b fun y => { y with
            settings := put y.settings x.idx w
            wipeInterval :=
              if y.get .wipeInterval = 0 ∧ w ≠ 0 ∧ y.state = .run ∧ y.wipeInterval = none ∧ y.wipeDue = false then
                some (s.now + 60000 * w)
              else y.wipeInterval }).withReply r 0x03 [clampMark v.toNat lo hi]))) ∧
    (v.toNat ≤ 1 →
      exec (.writeBankRecord r (BitVec.ofNat 8 b.1) 11 v) s =
        .next ((u.modBank b fun y => { y with settings := put y.settings 10 v.toNat }).withReply r 0x03 [0])) ∧
    (v.toNat ≤ 126 → (s.bank b).wiperStation = (if v = 0 then none else some v.toNat) →
      exec (.writeBankRecord r (BitVec.ofNat 8 b.1) 20 v) s = .next (u.withReply r 0x03 [0])) ∧
    (v.toNat ≤ 126 → (s.bank b).wiperStation ≠ (if v = 0 then none else some v.toNat) →
      exec (.writeBankRecord r (BitVec.ofNat 8 b.1) 20 v) s =
        .next ((u.modBank b fun y => { y with
          wiperStation := if v = 0 then none else some v.toNat
          supervision := .idle
          wipeLimit := none
          wiperSlot := none }).withReply r 0x03 [0])) ∧
    (127 ≤ v.toNat → exec (.writeBankRecord r (BitVec.ofNat 8 b.1) 20 v) s = .next (s.withReply r 0x03 [2, 2]))

/-- A write of a bank's owner (05, R94; 03, R58; 06, R105; 07, R132; 09, R154, R155): a bank that is DARK, FAULTED or
LOCKED changes hands with its tracker reset and its WIPE abandoned, in any other state the change is refused with
IN_USE, a channel of four banks gets no fifth, and an unchanged owner changes nothing. Lamps that come to be governed
are quenched or tried as R132 gives. That the bank controller does not judge the lit count then (log 44), and that
lamps keep attempts and sets under the new channel's limits (log 46), are the model's choices. The content's coding is
that of log 8. -/
def Obligations.OwnerIsWritten : Prop :=
  ∀ (r : Sender) (b : BankId) (v : Half) (new : Option ChanId) (chs : List ChanId) (s u : State),
    s.ready → new.elim (v = 0) (fun ch => v.toNat = ch.1 + 1) → chs = (s.bank b).owner.toList ++ new.toList →
    s.holdsLocks r.station chs → u = s.flagsCleared chs →
    ((∃ ch, new = some ch ∧ 4 ≤ ((List.finRange 12).filter fun c => c ≠ b ∧ (s.bank c).owner = some ch).length) →
      exec (.writeBankRecord r (BitVec.ofNat 8 b.1) 15 v) s = .next (s.withReply r 0x03 [2, 5])) ∧
    ((∀ ch, new = some ch → ((List.finRange 12).filter fun c => c ≠ b ∧ (s.bank c).owner = some ch).length < 4) →
      ((s.bank b).owner = new →
        exec (.writeBankRecord r (BitVec.ofNat 8 b.1) 15 v) s = .next (u.withReply r 0x03 [0])) ∧
      ((s.bank b).owner ≠ new →
        ((s.bank b).state ≠ .dark → (s.bank b).state ≠ .faulted → (s.bank b).state ≠ .locked →
          exec (.writeBankRecord r (BitVec.ofNat 8 b.1) 15 v) s = .next (s.withReply r 0x03 [2, 6])) ∧
        ((s.bank b).state = .dark ∨ (s.bank b).state = .faulted ∨ (s.bank b).state = .locked →
          ∃ t : State, exec (.writeBankRecord r (BitVec.ofNat 8 b.1) 15 v) s = .next (t.withReply r 0x03 [0]) ∧
            t.outer = s.outer ∧ t.channels = u.channels ∧ t.points = s.points ∧
            (∀ c, c ≠ b → t.bank c = s.bank c) ∧
            t.bank b = { s.bank b with
              owner := new
              running := none
              stepTimer := none
              wipeDue := false
              tracker :=
                { sf := none, sn := none, sref := none, reseed := false, sag := .clear, sagTimer := none,
                  settleTimer := none, blank := false, warm := false } } ∧
            (∃ made, s.areAlerts made ∧ t.north.queue = s.north.queue ++ made) ∧
            (∃ made, s.areCommands made ∧ t.south.queue = s.south.queue ++ made) ∧
            (∀ l x, s.lamp l = some x →
              (x.bank ≠ b → t.lamp l = some x) ∧
              (x.bank = b → (s.lampGoverned l = true ↔ ∃ ch, new = some ch ∧ (s.chan ch).dormant = false) →
                t.lamp l = some x) ∧
              (x.bank = b → s.lampGoverned l = false → ∀ ch, new = some ch → (s.chan ch).dormant = false →
                ∃ z, t.lamp l = some z ∧ ∀ y, y = { x with unconfirmed := false } →
                  (x.state = .lit → x.wanted = false → s.putOut t y z) ∧
                  (x.state ≠ .lit ∨ x.wanted = true →
                    (s.modBank b fun c => { c with owner := new }).strikeTried t y z)) ∧
              (x.bank = b → s.lampGoverned l = true → (∀ ch, new = some ch → (s.chan ch).dormant = true) →
                t.lamp l = some { x with
                  state := if x.state = .striking ∨ x.state = .retryWait ∨ x.state = .longWait then .off else x.state
                  strikeTimer := none
                  waitTimer := none
                  clearTimer := none })) ∧
            ((t.alarm .bankFault b.1).cause = true ↔
              (s.bank b).state = .faulted ∧ ∃ ch, new = some ch ∧ (s.chan ch).mode ≠ .unarmed))))

/-- A write of a program that is not running stores its eight steps with the exponents clamped to 15; the running one
is refused with IN_USE (06, R100; 09, R153). The content's bytes are those of log 5 and log 8. -/
def Obligations.ProgramIsWritten : Prop :=
  ∀ (r : Sender) (b : BankId) (k : ProgKind) (n : Byte) (p : Vector Machine.Step 8) (s : State),
    s.ready → s.holdsLocks r.station (s.bank b).owner.toList → progOfCode n.toNat = some k →
    ((s.bank b).running = some k →
      exec (.writeProgram r (BitVec.ofNat 8 b.1) n (p.toList.map Step.raw)) s = .next (s.withReply r 0x03 [2, 6])) ∧
    ((s.bank b).running ≠ some k →
      exec (.writeProgram r (BitVec.ofNat 8 b.1) n (p.toList.map Step.raw)) s =
        .next (((s.flagsCleared (s.bank b).owner.toList).modBank b fun x =>
          x.setProgram k (p.map fun t => { t with k := min 15 t.k })).withReply
          r 0x03 [if p.toList.any (fun t => 15 < t.k) then 1 else 0]))

/-- A write of a lamp entry (07, R116, R132; 09, R153 to R155; 05, R96): an empty entry, or one whose station changes,
gets a fresh machine; a change of bank or slot keeps it; an unchanged content changes nothing; station 0 empties the
entry. A lamp that changes governance takes what R132 gives. A FAULTED bank concerned, its rest over, is re-checked. A
lamp that is neither OFF nor DEAD refuses with IN_USE, whatever the content (the model's choice, log 26); a station or
a bank and slot already taken, with DUPLICATE. The cooling timer of a fresh machine, and the references tested in an
emptying write, are the model's choices (logs 30, 35). -/
def Obligations.LampEntryIsWritten : Prop :=
  ∀ (r : Sender) (l : LampId) (st : Byte) (b : BankId) (sl : Half) (s : State),
    s.ready → st.toNat ≤ 126 → sl.toNat ≤ 7 →
    s.holdsLocks r.station ((s.lampOwner l).toList ++ (if st = 0 then [] else (s.bank b).owner.toList)) →
    (st ≠ 0 → (∃ m y, m ≠ l ∧ s.lamp m = some y ∧
        (y.station = st.toNat ∨ (y.bank = b ∧ y.slot = sl.toNat))) →
      exec (.writeLampEntry r (BitVec.ofNat 8 l.1) st (BitVec.ofNat 8 b.1) sl) s =
        .next (s.withReply r 0x03 [2, 5])) ∧
    ((st = 0 ∨ ∀ m y, m ≠ l → s.lamp m = some y → y.station ≠ st.toNat ∧ ¬ (y.bank = b ∧ y.slot = sl.toNat)) →
      (s.lamp l = none → st = 0 →
        exec (.writeLampEntry r (BitVec.ofNat 8 l.1) st (BitVec.ofNat 8 b.1) sl) s =
          .next (s.withReply r 0x03 [0])) ∧
      (s.lamp l = none → st ≠ 0 → ∀ new : Lamp,
        new = { station := st.toNat, bank := b, slot := sl.toNat, state := .off, wanted := false, unconfirmed := false,
                adopted := false, cool := 1000, attempts := 0, sets := 0, dropouts := 0, strikeTimer := none,
                waitTimer := none, clearTimer := none, coolTimer := some (s.now + 100), cmd := none } →
        (((s.bank b).state ≠ .faulted ∨ (s.bank b).faultTimer ≠ none ∨ s.nonDead b + 1 < (s.bank b).get .minLampsLit) →
          exec (.writeLampEntry r (BitVec.ofNat 8 l.1) st (BitVec.ofNat 8 b.1) sl) s =
            .next (((s.flagsCleared (s.bank b).owner.toList).setLamp l (some new)).withReply r 0x03 [0])) ∧
        (s.listsSound → (s.bank b).state = .faulted → (s.bank b).faultTimer = none →
          (s.bank b).get .minLampsLit ≤ s.nonDead b + 1 →
          ∃ t : State, exec (.writeLampEntry r (BitVec.ofNat 8 l.1) st (BitVec.ofNat 8 b.1) sl) s =
              .next (t.withReply r 0x03 [0]) ∧
            ((t.bank b).state = .dark ∨ (t.bank b).state = .striking) ∧ (t.alarm .bankFault b.1).cause = false ∧
            t.lamp l = some new ∧ ∀ m, m ≠ l → t.lamp m = s.lamp m)) ∧
      ∀ x, s.lamp l = some x →
        (x.state ≠ .off → x.state ≠ .dead →
          exec (.writeLampEntry r (BitVec.ofNat 8 l.1) st (BitVec.ofNat 8 b.1) sl) s =
            .next (s.withReply r 0x03 [2, 6])) ∧
        ((x.state = .off ∨ x.state = .dead) →
          ((s.bank x.bank).state ≠ .faulted ∨ (s.bank x.bank).faultTimer ≠ none) →
          ((s.bank b).state ≠ .faulted ∨ (s.bank b).faultTimer ≠ none) →
          (st = 0 →
            exec (.writeLampEntry r (BitVec.ofNat 8 l.1) st (BitVec.ofNat 8 b.1) sl) s =
              .next (((s.flagsCleared (s.bank x.bank).owner.toList).setLamp l none).withReply r 0x03 [0])) ∧
          (st ≠ 0 → ∀ (kept moved : Lamp) (before after : Bool),
            kept = (if st.toNat = x.station then
                (if x.bank = b ∧ x.slot = sl.toNat then x
                 else { x with bank := b, slot := sl.toNat, wanted := false, cmd := none })
              else { station := st.toNat, bank := b, slot := sl.toNat, state := .off, wanted := false,
                     unconfirmed := false, adopted := false, cool := 1000, attempts := 0, sets := 0, dropouts := 0,
                     strikeTimer := none, waitTimer := none, clearTimer := none, coolTimer := x.coolTimer,
                     cmd := none }) →
            before = s.bankGoverned x.bank → after = s.bankGoverned b →
            moved = (if before = true ∧ after = false then
                { kept with strikeTimer := none, waitTimer := none, clearTimer := none }
              else if before = false ∧ after = true then { kept with unconfirmed := false }
              else kept) →
            exec (.writeLampEntry r (BitVec.ofNat 8 l.1) st (BitVec.ofNat 8 b.1) sl) s =
              .next (((s.flagsCleared ((s.bank x.bank).owner.toList ++ (s.bank b).owner.toList)).setLamp l
                (some moved)).withReply r 0x03 [0]))))

/-- A write of a point entry (02, R26, R27; 09, R153 to R155): stored with Timeout clamped and RawMax raised to
RawMin; the entry's state is kept while station, index, role, gain and offset stay, and discarded otherwise; a station
and index already taken refuse with DUPLICATE; station 0 empties the entry, marked CLAMPED as any other write. The
consumers then have their points chosen anew: a channel's fallback timer and FLOW_STALE, its UVT in use and UVT_STALE
(R34, R37), a bank's Sf, Sn and warm check (03, R45) and INTENSITY_STALE (R38) follow, and a wipe's supervision stays.
The content's coding (log 8), the testing of an emptying write's references (log 35) and the telling of the old
consumers first (log 36) are the model's choices. -/
def Obligations.PointEntryIsWritten : Prop :=
  (∀ (r : Sender) (p : PointId) (new : PointCfg) (c : PointContent) (chs : List ChanId) (s : State),
    s.ready → 1 ≤ new.station → new.station ≤ 126 → new.index ≤ 15 → new.gain < 65536 → -32768 ≤ new.offset →
    new.offset ≤ 32767 → new.rawMin < 65536 → new.rawMax < 65536 → new.timeout < 65536 →
    (∀ l, new.targets = .uvt l → l ≠ [] ∧ l.Pairwise (· < ·)) →
    c = { station := BitVec.ofNat 8 new.station, index := BitVec.ofNat 16 new.index,
          role := match new.targets with
            | .flow _ => 0
            | .uvt _ => 1
            | .intensity _ => 2
            | .wiper _ => 3
          targets := match new.targets with
            | .flow ch => [ch.1]
            | .uvt l => l.map fun ch => ch.1
            | .intensity b => [b.1]
            | .wiper b => [b.1]
          gain := BitVec.ofNat 16 new.gain, offset := BitVec.ofInt 16 new.offset,
          rawMin := BitVec.ofNat 16 new.rawMin, rawMax := BitVec.ofNat 16 new.rawMax,
          timeout := BitVec.ofNat 16 new.timeout } →
    chs = (match s.point p with
      | some x => s.targetChans x.cfg.targets
      | none => []) ++ s.targetChans new.targets →
    s.holdsLocks r.station chs →
    ((∃ q y, q ≠ p ∧ s.point q = some y ∧ y.cfg.station = new.station ∧ y.cfg.index = new.index) →
      exec (.writePointEntry r (BitVec.ofNat 8 p.1) c) s = .next (s.withReply r 0x03 [2, 5])) ∧
    ((∀ q y, q ≠ p → s.point q = some y → ¬ (y.cfg.station = new.station ∧ y.cfg.index = new.index)) →
      ∀ stored : PointCfg,
        stored = { new with rawMax := max new.rawMin new.rawMax, timeout := clampNat new.timeout 100 60000 } →
        ∃ t : State, exec (.writePointEntry r (BitVec.ofNat 8 p.1) c) s = .next (t.withReply r 0x03
            [clampMark new.timeout 100 60000 ||| (if new.rawMax < new.rawMin then 1 else 0)]) ∧
          t.outer = s.outer ∧ t.lamps = s.lamps ∧ t.south = s.south ∧ (∀ q, q ≠ p → t.point q = s.point q) ∧
          (∀ ch, (t.chan ch).profileValid = (if ch ∈ chs then false else (s.chan ch).profileValid) ∧
            t.totals ch = s.totals ch ∧ (t.chan ch).settings = (s.chan ch).settings ∧
            (t.chan ch).mode = (s.chan ch).mode) ∧
          (∀ b, (t.bank b).settings = (s.bank b).settings ∧ (t.bank b).owner = (s.bank b).owner) ∧
          (∀ x, s.point p = some x →
            (x.cfg.station = new.station ∧ x.cfg.index = new.index ∧ x.cfg.gain = new.gain ∧
                x.cfg.offset = new.offset ∧ x.cfg.targets.roleCode = new.targets.roleCode →
              t.point p = some { x with cfg := stored }) ∧
            (¬ (x.cfg.station = new.station ∧ x.cfg.index = new.index ∧ x.cfg.gain = new.gain ∧
                x.cfg.offset = new.offset ∧ x.cfg.targets.roleCode = new.targets.roleCode) →
              t.point p = some { cfg := stored, value := none, fresh := false, timer := none, quality := none,
                                 accepted := none })) ∧
          (s.point p = none →
            t.point p = some { cfg := stored, value := none, fresh := false, timer := none, quality := none,
                               accepted := none }) ∧
          s.pointsRechosen t)) ∧
  ∀ (r : Sender) (p : PointId) (c : PointContent) (chs : List ChanId) (s : State),
    s.ready → c.station = 0 → c.index.toNat ≤ 15 →
    ((c.role = 0 ∧ ∃ n, c.targets = [n] ∧ n < 4) ∨ (c.role = 1 ∧ c.targets ≠ [] ∧ c.targets.length ≤ 4 ∧
        ∀ n ∈ c.targets, n < 4) ∨ ((c.role = 2 ∨ c.role = 3) ∧ ∃ n, c.targets = [n] ∧ n < 12)) →
    chs = (match s.point p with
      | some x => s.targetChans x.cfg.targets
      | none => []) →
    s.holdsLocks r.station chs →
    ∃ t : State, exec (.writePointEntry r (BitVec.ofNat 8 p.1) c) s = .next (t.withReply r 0x03
        [clampMark c.timeout.toNat 100 60000 ||| (if c.rawMax.toNat < c.rawMin.toNat then 1 else 0)]) ∧
      t.outer = s.outer ∧ t.lamps = s.lamps ∧ t.south = s.south ∧ (∀ q, q ≠ p → t.point q = s.point q) ∧
      t.point p = none ∧
      (∀ ch, (t.chan ch).profileValid = (if ch ∈ chs then false else (s.chan ch).profileValid) ∧
        t.totals ch = s.totals ch ∧ (t.chan ch).settings = (s.chan ch).settings ∧
        (t.chan ch).mode = (s.chan ch).mode) ∧
      (∀ b, (t.bank b).settings = (s.bank b).settings ∧ (t.bank b).owner = (s.bank b).owner) ∧
      s.pointsRechosen t

/-- A write of an alarm kind's priority (10, R171, R174): to 0 the pending instances are IDLE, from 0 the instances of a
condition that holds are PENDING, and the ALERT line is judged anew. A write of a device setting (08, R135; 10, R176)
stores the clamped value. -/
def Obligations.PrioritiesAndDeviceSettingsAreWritten : Prop :=
  ∀ (r : Sender) (v : Half) (s : State), s.ready →
    (∀ (k : AlarmKind) (w : Nat), w = clampNat v.toNat 0 7 →
      (w = s.priority k → exec (.writeAlarmPriority r (BitVec.ofNat 8 k.number) v) s =
        .next (s.withReply r 0x03 [clampMark v.toNat 0 7])) ∧
      (w ≠ s.priority k →
        ∃ t : State, exec (.writeAlarmPriority r (BitVec.ofNat 8 k.number) v) s =
            .next (t.withReply r 0x03 [clampMark v.toNat 0 7]) ∧
          ({ s with priorities := t.priorities } : State).onlyAlarms t ∧
          (∀ m, t.priority m = if m = k then w else s.priority m) ∧
          (∀ m i, i < m.scope → (t.alarm m i).cause = (s.alarm m i).cause ∧
            (t.alarm m i).state =
              if m = k ∧ w = 0 ∧ (s.alarm m i).state = .pending then .idle
              else if m = k ∧ s.priority k = 0 ∧ k.latched = false ∧ (s.alarm m i).state = .idle ∧
                (s.alarm m i).cause = true then .pending
              else (s.alarm m i).state) ∧
          t.lineRight)) ∧
    (exec (.writeDeviceSetting r 1 v) s =
      .next ((s.modPort .north fun p => { p with errorLimit := clampNat v.toNat 1 65535 }).withReply
        r 0x03 [clampMark v.toNat 1 65535])) ∧
    (exec (.writeDeviceSetting r 2 v) s =
      .next ((s.modPort .south fun p => { p with errorLimit := clampNat v.toNat 1 65535 }).withReply
        r 0x03 [clampMark v.toNat 1 65535])) ∧
    (∃ line, exec (.writeDeviceSetting r 3 v) s =
        .next (({ s with threshold := clampNat v.toNat 0 7, alertLine := line } : State).withReply
          r 0x03 [clampMark v.toNat 0 7]) ∧
      ({ s with threshold := clampNat v.toNat 0 7, alertLine := line } : State).lineRight) ∧
    (exec (.writeDeviceSetting r 4 v) s =
      .next (({ s with alertDest := clampNat v.toNat 1 127 } : State).withReply r 0x03 [clampMark v.toNat 1 127])) ∧
    ∀ x : Byte, x = 0 ∨ 5 ≤ x.toNat → exec (.writeDeviceSetting r x v) s = .next (s.withReply r 0x03 [2, 2])

/-! ### Refusals -/

/-- A request that its channel's lock, its references or its channel's mode do not allow is refused with its reason and
changes nothing (09, R151, R154, R157, R159, R161). With restart pending a request is discarded; with the reply slot
occupied it is dropped, never looked at, and REQUEST_DROPPED is raised (09, R150). -/
def Obligations.RefusedAndDroppedRequests : Prop :=
  (∀ (r : Sender) (s : State), s.ready →
    (∀ (ch : ChanId) (n : Byte) (v : Half) (x : ChanSetting) (code : Byte),
      chanSettingOfCode n.toNat = some x → n ≠ 13 → n ≠ 25 →
      ((s.chan ch).holder = none ∧ code = 3 ∨ (∃ h, (s.chan ch).holder = some h ∧ h ≠ r.station) ∧ code = 4) →
      exec (.writeChannelSetting r (BitVec.ofNat 8 ch.1) n v) s = .next (s.withReply r 0x03 [2, code]) ∧
      exec (.giveEdit r (BitVec.ofNat 8 ch.1)) s = .next (s.withReply r 0x05 [2, code])) ∧
    (∀ (ch : ChanId) (lease : Half) (h : Nat), r.station ≠ 0 → r.station ≠ 127 →
      (s.chan ch).holder = some h → h ≠ r.station →
      exec (.takeEdit r (BitVec.ofNat 8 ch.1) lease) s = .next (s.withReply r 0x04 [2, 4])) ∧
    (∀ (ch : Byte) (lease : Half), r.station = 0 ∨ r.station = 127 ∨ 4 ≤ ch.toNat →
      exec (.takeEdit r ch lease) s = .next (s.withReply r 0x04 [2, 2])) ∧
    (∀ (ch n : Byte) (v : Half), 4 ≤ ch.toNat ∨ n = 0 ∨ 34 ≤ n.toNat →
      exec (.writeChannelSetting r ch n v) s = .next (s.withReply r 0x03 [2, 2])) ∧
    (∀ (ch m count : Byte) (v lease : Half), m = 0 ∨ m = 5 ∨ 7 ≤ m.toNat ∨ 4 ≤ ch.toNat →
      exec (.setMode r ch m v count lease) s = .next (s.withReply r 0x06 [2, 2])) ∧
    (∀ (ch : ChanId) (m count : Byte) (v lease : Half), 1 ≤ m.toNat → m.toNat ≤ 4 →
      (s.chan ch).mode = .unarmed ∨ (s.chan ch).mode = .edit →
      exec (.setMode r (BitVec.ofNat 8 ch.1) m v count lease) s = .next (s.withReply r 0x06 [2, 7]) ∧
      exec (.setModeUnarm r (BitVec.ofNat 8 ch.1)) s = .next (s.withReply r 0x06 [2, 7])) ∧
    (∀ b : Byte, 4 ≤ b.toNat →
      exec (.giveEdit r b) s = .next (s.withReply r 0x05 [2, 2]) ∧
      exec (.setModeUnarm r b) s = .next (s.withReply r 0x06 [2, 2])) ∧
    ∀ b : Byte, 12 ≤ b.toNat →
      exec (.bankActionLock r b) s = .next (s.withReply r 0x07 [2, 2]) ∧
      exec (.bankActionUnlock r b) s = .next (s.withReply r 0x07 [2, 2]) ∧
      exec (.bankActionWipeNow r b) s = .next (s.withReply r 0x07 [2, 2])) ∧
  ∀ (i : Instr) (r : Sender) (req : Request) (s : State), i.request = some (r, req) → s.normal → s.atRest →
    (s.restartPending = true → exec i s = .next s) ∧
    (s.restartPending = false → s.replySlot ≠ none →
      ∃ t, exec i s = .next t ∧ s.onlyAlarms t ∧ s.raisedOnly t .requestDropped 0)

/-! ### Edit locks and modes -/

/-- TAKE EDIT (05, R77; 09, R157; 01, R4): a free lock is taken under the clamped lease and the channel enters EDIT
from its present mode; the holder's own request restarts the lease. -/
def Obligations.TakeEditTakesTheLock : Prop :=
  ∀ (r : Sender) (ch : ChanId) (lease : Half) (n : Nat) (s : State),
    s.ready → 1 ≤ r.station → r.station ≤ 126 → n = clampNat lease.toNat 1 600 →
    ((s.chan ch).holder = none → (s.chan ch).mode ≠ .edit →
      ∃ t : State, exec (.takeEdit r (BitVec.ofNat 8 ch.1) lease) s =
          .next (t.withReply r 0x04 [clampMark lease.toNat 1 600]) ∧
        (s.modChan ch fun c => { c with
          mode := .edit
          prevMode := c.mode
          holder := some r.station
          editLease := some (s.now + 1000 * n)
          upCount := 0
          downCount := 0
          acct := { c.acct with
            fallback := if c.mode = .unarmed ∧ s.freshPoint (s.flowPoint ch) = false then
                some (s.now + c.get .passFallback)
              else c.acct.fallback } }).onlyAlarms t ∧
        (t.alarm .stageExhausted ch.1).cause = false ∧
        ((s.chan ch).mode = .unarmed →
          (t.alarm .flowStale ch.1).cause = !s.freshPoint (s.flowPoint ch) ∧
          ((t.alarm .uvtStale ch.1).cause = true ↔ (s.chan ch).uvtUse ≠ .fresh))) ∧
    ((s.chan ch).holder = some r.station →
      exec (.takeEdit r (BitVec.ofNat 8 ch.1) lease) s =
        .next ((s.modChan ch fun c => { c with editLease := some (s.now + 1000 * n) }).withReply
          r 0x04 [clampMark lease.toNat 1 600]))

/-- GIVE EDIT by the holder (05, R78, R83; 09, R159, R160, Table 9-5; 06, R106): with any of the ten checks failing,
the profile stays as it stands and the answer names the first check that fails, in their order, and the bank it
reports. With none failing, a channel edited from an armed mode returns to it with the lock free, the flag set and the
code worked out anew. -/
def Obligations.GiveEditReturnsTheChannel : Prop :=
  ∀ (r : Sender) (ch : ChanId) (s : State), s.ready → (s.chan ch).holder = some r.station →
    (∀ k n : Nat, s.checkFails ch k n → (∀ j m, j < k → ¬ s.checkFails ch j m) →
      exec (.giveEdit r (BitVec.ofNat 8 ch.1)) s =
        .next (s.withReply r 0x05 [2, 8, BitVec.ofNat 8 k, BitVec.ofNat 8 n])) ∧
    ((∀ k n, ¬ s.checkFails ch k n) → (s.chan ch).prevMode.armed = true →
      ∃ t : State, exec (.giveEdit r (BitVec.ofNat 8 ch.1)) s = .next (t.withReply r 0x05 [0]) ∧ s.sameBase t ∧
        (∀ d, d ≠ ch → (t.chan d).butList = (s.chan d).butList) ∧
        (t.chan ch).mode = (s.chan ch).prevMode ∧ (t.chan ch).holder = none ∧ (t.chan ch).editLease = none ∧
        (t.chan ch).profileValid = true ∧ (t.chan ch).acct = (s.chan ch).acct ∧
        (t.chan ch).power.pd = (s.chan ch).power.pd ∧
        (t.chan ch).power.code = ballastCode (s.chan ch).ballastCurve (s.chan ch).power.pd ∧
        ((s.chan ch).prevMode ≠ .auto → (t.chan ch).pendingUp = 0) ∧
        ((s.chan ch).prevMode = .auto → (s.chan ch).adoption ≠ none →
          (t.chan ch).pendingUp = (s.chan ch).pendingUp))

/-- A valid GIVE EDIT of a channel edited from UNARMED arms it into AUTO (05, R78, R84; 01, R4, R23; 03, R58; 04, R74;
07, R133): full demand, the adoption window, banks dark but for LOCKED ones, lamps unconfirmed, the accounts' marks
cleared, totals and pulses kept. That the trackers of LOCKED banks are reset too is the model's choice (log 19). -/
def Obligations.GiveEditArmsTheChannel : Prop :=
  ∀ (r : Sender) (ch : ChanId) (s : State), s.ready → (s.chan ch).holder = some r.station →
    (∀ k n, ¬ s.checkFails ch k n) → (s.chan ch).prevMode = .unarmed →
    ∃ t : State, exec (.giveEdit r (BitVec.ofNat 8 ch.1)) s = .next (t.withReply r 0x05 [0]) ∧
      (s.modChan ch fun c => { c with
        mode := .auto
        holder := none
        editLease := none
        profileValid := true
        adoption := some (s.now + 10000)
        startList := []
        pendingUp := 0
        upCount := 0
        downCount := 0
        power := { pd := 1000, ePrev := 0, applied := 1000, code := (c.ballastCurve.get 7).y }
        acct := { c.acct with
          lastDose := 0
          bankDoses := Vector.replicate 4 0
          lastPass := none
          outOfRange := false
          offSpec := false
          doseLow := 0
          fallback := if s.freshPoint (s.flowPoint ch) = true then none
            else some (s.now + c.get .passFallback) } }).channels = t.channels ∧
      t.outer = s.outer ∧ t.points = s.points ∧ t.south = s.south ∧
      (∃ made, s.areAlerts made ∧ t.north.queue = s.north.queue ++ made) ∧
      (∀ b, (s.bank b).owner ≠ some ch → t.bank b = s.bank b) ∧
      (∀ b, (s.bank b).owner = some ch →
        (t.bank b).state = (if (s.bank b).state = .locked then .locked else .dark) ∧
        (t.bank b).tracker =
          { sf := none, sn := none, sref := none, reseed := false, sag := .clear, sagTimer := none, settleTimer := none,
            blank := false, warm := false } ∧
        ((s.bank b).state ≠ .locked → (t.bank b).running = none ∧ (t.bank b).stepTimer = none ∧
          (t.bank b).wipeInterval = none ∧ (t.bank b).wipeDue = false ∧ (t.bank b).wiperSlot = none ∧
          (t.bank b).supervision = .idle ∧ (t.bank b).wipeLimit = none ∧ (t.bank b).warmTimer = none ∧
          (t.bank b).faultTimer = none)) ∧
      (∀ l x, s.lamp l = some x →
        t.lamp l = some (
          if (s.bank x.bank).owner ≠ some ch then x
          else if x.state = .dead then
            { x with strikeTimer := none, waitTimer := none, clearTimer := none, cmd := none }
          else { x with state := .off, wanted := false, unconfirmed := true, cool := 1000, attempts := 0, sets := 0,
                        dropouts := 0, strikeTimer := none, waitTimer := none, clearTimer := none, cmd := none }))

/-- SET MODE between armed modes (05, R80; 04, R67; 09, R161): the mode is taken, MANUAL with its clamped value, count
and lease, leaving MANUAL stops the lease, a change empties the pending stage-up count, and the demand does not move.
The staging review that follows (R88), here after a SET MODE naming the mode the channel is in, takes what the mode
calls for: which bank it stages up (R91), in AUTO for pending requests, the floor or saturation, and when it stages
down (R92); in MANUAL toward N, in FULL all, in STANDDOWN none (R93); in the adoption window nothing. Banks at one
position go by number (the model's choice, log 29). -/
def Obligations.SetModeTakesTheMode : Prop :=
  (∀ (r : Sender) (ch : ChanId) (mb count : Byte) (v lease : Half) (m : Mode) (s : State),
    s.ready → (s.chan ch).mode.armed = true →
    (mb = 1 ∧ m = .auto ∨ mb = 2 ∧ m = .manual ∨ mb = 3 ∧ m = .full ∨ mb = 4 ∧ m = .standdown) →
    ∃ t : State, exec (.setMode r (BitVec.ofNat 8 ch.1) mb v count lease) s = .next (t.withReply r 0x06
        [if m = .manual then clampMark v.toNat 0 1000 ||| clampMark count.toNat 0 4 ||| clampMark lease.toNat 10 3600
          else 0]) ∧
      s.sameBase t ∧ t.lamps = s.lamps ∧ t.south = s.south ∧
      (∀ d, d ≠ ch → (t.chan d).butList = (s.chan d).butList) ∧
      (t.chan ch).mode = m ∧ (t.chan ch).power = (s.chan ch).power ∧ (t.chan ch).acct = (s.chan ch).acct ∧
      (t.chan ch).profileValid = (s.chan ch).profileValid ∧ (t.chan ch).adoption = (s.chan ch).adoption ∧
      ((s.chan ch).mode ≠ m → (t.chan ch).pendingUp = 0) ∧
      (m = .manual → (t.chan ch).manualValue = clampNat v.toNat 0 1000 ∧
        (t.chan ch).manualCount = clampNat count.toNat 0 4 ∧
        (t.chan ch).manualLease = some (s.now + 1000 * clampNat lease.toNat 10 3600)) ∧
      (m ≠ .manual → (t.chan ch).manualValue = (s.chan ch).manualValue ∧
        (t.chan ch).manualCount = (s.chan ch).manualCount ∧
        (t.chan ch).manualLease = if (s.chan ch).mode = .manual then none else (s.chan ch).manualLease)) ∧
  ∀ (r : Sender) (ch : ChanId) (mb count : Byte) (v lease : Half) (m : Mode) (s u : State),
    s.ready → s.listsSound → (s.chan ch).mode = m → (mb = 1 ∧ m = .auto ∨ mb = 2 ∧ m = .manual ∨ mb = 3 ∧ m = .full ∨
      mb = 4 ∧ m = .standdown) →
    u = s.modChan ch (fun c =>
      if m = .manual then { c with
        manualValue := clampNat v.toNat 0 1000
        manualCount := clampNat count.toNat 0 4
        manualLease := some (s.now + 1000 * clampNat lease.toNat 10 3600) }
      else c) →
    ∃ (t : State) (mark : Byte), exec (.setMode r (BitVec.ofNat 8 ch.1) mb v count lease) s =
        .next (t.withReply r 0x06 [mark]) ∧
      ((s.chan ch).adoption ≠ none → t = u) ∧
      ((s.chan ch).adoption = none →
        -- AUTO
        (m = .auto →
          ((s.chan ch).pendingUp = 0 ∨ s.darkCount ch = 0 →
            ¬ ((s.chan ch).startList.length < (s.chan ch).get .minBanks ∧ ¬ s.listLighting ch ∧ s.darkCount ch ≠ 0) →
            ¬ ((s.chan ch).get .stageUpPasses ≤ (s.chan ch).upCount ∧ ¬ s.listLighting ch ∧ s.darkCount ch ≠ 0) →
            ¬ ((s.chan ch).get .stageDownPasses ≤ (s.chan ch).downCount ∧ ¬ s.listLighting ch ∧
              (s.chan ch).get .minBanks < (s.chan ch).startList.length) →
            u.onlyAlarms t ∧ ((t.alarm .stageExhausted ch.1).cause = true ↔
              s.darkCount ch = 0 ∧ (0 < (s.chan ch).pendingUp ∨
                ((s.chan ch).startList.length < (s.chan ch).get .minBanks ∧ ¬ s.listLighting ch) ∨
                ((s.chan ch).get .stageUpPasses ≤ (s.chan ch).upCount ∧ ¬ s.listLighting ch)))) ∧
          (∀ b, s.selected ch b →
            ((s.chan ch).pendingUp = 1 ∨ ((s.chan ch).pendingUp = 0 ∧ ¬ s.listLighting ch ∧
              ((s.chan ch).startList.length < (s.chan ch).get .minBanks ∨
                (s.chan ch).get .stageUpPasses ≤ (s.chan ch).upCount))) →
            ((u.stagedUp ch b).modChan ch fun c =>
              { c with pendingUp := 0, upCount := 0, downCount := 0 }).onlyAlarms t ∧
            (t.alarm .stageExhausted ch.1).cause = false) ∧
          (0 < (s.chan ch).pendingUp → s.darkCount ch ≠ 0 →
            u.requestsServed t ch) ∧
          ((s.chan ch).pendingUp = 0 ∨ s.darkCount ch = 0 → ¬ s.listLighting ch →
            (s.chan ch).get .stageDownPasses ≤ (s.chan ch).downCount →
            (s.chan ch).get .minBanks < (s.chan ch).startList.length →
            (s.chan ch).upCount < (s.chan ch).get .stageUpPasses ∨ s.darkCount ch = 0 →
            u.surplusServed t ch)) ∧
        -- MANUAL
        (m = .manual → ∀ n, n = clampNat count.toNat 0 4 →
          ((s.chan ch).startList.length < n → ¬ s.listLighting ch → ∀ b, s.selected ch b →
            (u.stagedUp ch b).onlyAlarms t) ∧
          (n < (s.chan ch).startList.length →
            (∀ b, (s.bank b).owner = some ch → (s.bank b).state ≠ .quenching) →
            ∀ b, (s.chan ch).startList.getLast? = some b →
            (u.stagedDown t ch b).onlyAlarms t ∧
              Tracker.left (s.bank b).tracker (t.bank b).tracker (s.bank b).state) ∧
          ((s.chan ch).startList.length = n ∨
              ((s.chan ch).startList.length < n ∧ (s.listLighting ch ∨ s.darkCount ch = 0)) ∨
              (n < (s.chan ch).startList.length ∧
                ∃ b, (s.bank b).owner = some ch ∧ (s.bank b).state = .quenching) →
            u.onlyAlarms t) ∧
          ((t.alarm .stageExhausted ch.1).cause = true ↔
            t.darkCount ch = 0 ∧ (t.chan ch).startList.length < n)) ∧
        -- FULL
        (m = .full →
          (¬ s.listLighting ch → ∀ b, s.selected ch b → (u.stagedUp ch b).onlyAlarms t) ∧
          (s.listLighting ch ∨ s.darkCount ch = 0 → u.onlyAlarms t) ∧
          (t.alarm .stageExhausted ch.1).cause = false) ∧
        -- STANDDOWN
        (m = .standdown →
          (t.chan ch).startList = [] ∧ (t.alarm .stageExhausted ch.1).cause = false ∧
          (∀ b, b ∉ (s.chan ch).startList → t.bank b = s.bank b) ∧
          ∀ b, b ∈ (s.chan ch).startList →
            (t.bank b).state = .quenching ∧ (t.bank b).running = some .quench ∧ (t.bank b).stepIdx = 0 ∧
              (t.bank b).stepTimer = some (s.now + 10 * 2 ^ ((s.bank b).quench.get 0).k) ∧
              (t.bank b).warmTimer = none ∧ (t.bank b).wipeDue = false ∧
              Tracker.left (s.bank b).tracker (t.bank b).tracker (s.bank b).state))

/-- SET MODE UNARM (05, R82; 01, R23; 06, R113; 07, R132): the channel, its banks and its lamps give up their timers,
programs and commands, banks and lit lamps keep their states, totals and pulses stand. That the end of a blank sets the
warm check to FAIL (log 16), and that the step index stays (log 32), are the model's choices. -/
def Obligations.UnarmLeavesTheLampsAlone : Prop :=
  ∀ (r : Sender) (ch : ChanId) (s : State), s.ready → (s.chan ch).mode.armed = true →
    ∃ t : State, exec (.setModeUnarm r (BitVec.ofNat 8 ch.1)) s = .next (t.withReply r 0x06 [0]) ∧
      ({ s.modChan ch (fun c => { c with
          mode := .unarmed
          manualLease := none
          adoption := none
          pendingUp := 0
          upCount := 0
          downCount := 0
          acct := { c.acct with
            lastDose := 0
            bankDoses := Vector.replicate 4 0
            lastPass := none
            outOfRange := false
            offSpec := false
            doseLow := 0
            fallback := none } }) with
        banks := build fun b =>
          if (s.bank b).owner = some ch then
            { s.bank b with
              running := none
              stepTimer := none
              wipeDue := false
              warmTimer := none
              wipeInterval := none
              supervision := .idle
              wipeLimit := none
              wiperSlot := none
              tracker := if (s.bank b).tracker.blank = true then
                  { (s.bank b).tracker with blank := false, sf := none, sn := none, warm := false }
                else (s.bank b).tracker }
          else s.bank b
        lamps := build fun l => (s.lamp l).map fun x =>
          if (s.bank x.bank).owner = some ch then
            { x with
              state := if x.state = .striking ∨ x.state = .retryWait ∨ x.state = .longWait then .off else x.state
              strikeTimer := none
              waitTimer := none
              clearTimer := none
              cmd := none }
          else x } : State).onlyAlarms t ∧
      (∀ k, k = .flowStale ∨ k = .uvtStale ∨ k = .outOfRange ∨ k = .doseLow ∨ k = .stageExhausted →
        (t.alarm k ch.1).cause = false) ∧
      ∀ b, (s.bank b).owner = some ch →
        (t.alarm .bankFault b.1).cause = false ∧ (t.alarm .intensityStale b.1).cause = false

/-! ### Banks -/

/-- LOCK takes a bank out of service from any state and UNLOCK brings a LOCKED one back to DARK; LOCK of a LOCKED bank
and UNLOCK of any other change nothing (05, R97; 06, R105, R111, R113; 07, R118). The warm limit runs out in WARMING:
RUN with enough lit lamps, from which the review may take it to QUENCHING, else FAULTED, its lamps unwanted, with a
QUENCH for each lit one that is governed, as at LOCK (07, R118); a bank of a dormant owner makes no transition by it,
the timer stopping and no more (05, R82). The fault rest runs out: a bank of enough lamps not DEAD is DARK, any other
stays FAULTED (R95, R96). From DARK the review of the channel may strike the bank (R88, R91). That the end of a blank
sets the warm check to FAIL (log 16), and that a lamp of a dormant or unassigned bank loses its flag and nothing else
(log 18), are the model's choices. -/
def Obligations.BankLeavesServiceAndReturns : Prop :=
  (∀ (r : Sender) (b : BankId) (s : State), s.ready →
    ((s.bank b).state = .locked →
      exec (.bankActionLock r (BitVec.ofNat 8 b.1)) s = .next (s.withReply r 0x07 [0])) ∧
    ((s.bank b).state ≠ .locked →
      exec (.bankActionUnlock r (BitVec.ofNat 8 b.1)) s = .next (s.withReply r 0x07 [0])) ∧
    ((s.bank b).state ≠ .locked →
      ∃ t : State, exec (.bankActionLock r (BitVec.ofNat 8 b.1)) s = .next (t.withReply r 0x07 [0]) ∧ s.sameBase t ∧
        t.bank b = { s.bank b with
          state := .locked
          running := none
          stepTimer := none
          wipeDue := false
          wiperSlot := none
          supervision := .idle
          wipeLimit := none
          warmTimer := none
          faultTimer := none
          wipeInterval := none
          tracker := (t.bank b).tracker } ∧
        Tracker.left (s.bank b).tracker (t.bank b).tracker (s.bank b).state ∧
        (∀ ch, (s.bank b).owner = some ch → b ∉ (t.chan ch).startList) ∧
        (t.alarm .bankFault b.1).cause = false ∧
        ∀ l x, s.lamp l = some x →
          (x.bank ≠ b → t.lamp l = some x) ∧
          (x.bank = b → ∃ y, t.lamp l = some y ∧ s.flagBecame t false x y)) ∧
    (s.listsSound → (s.bank b).state = .locked →
      ∃ t : State, exec (.bankActionUnlock r (BitVec.ofNat 8 b.1)) s = .next (t.withReply r 0x07 [0]) ∧
        s.sameBase t ∧ t.lamps = s.lamps ∧ ((t.bank b).state = .dark ∨ (t.bank b).state = .striking) ∧
        (((s.bank b).owner = none ∨ ∃ ch, (s.bank b).owner = some ch ∧ (s.chan ch).mode = .unarmed) →
          t.bank b = { s.bank b with state := .dark, faultTimer := none }))) ∧
  ∀ (b : BankId) (d : Nat) (s : State), s.atRest → s.listsSound → d ≤ s.now →
    ((s.bank b).warmTimer = some d → (s.bank b).state = .warming →
      (∀ ch, (s.bank b).owner = some ch → (s.chan ch).dormant = false) →
      ∃ t, exec (.warmLimitExpiry b) s = .next t ∧ s.sameBase t ∧
        ((s.bank b).get .minLampsLit ≤ s.litCount b →
          ((t.bank b).state = .run ∨ (t.bank b).state = .quenching) ∧ (t.bank b).warmTimer = none ∧
            t.lamps = s.lamps) ∧
        (s.litCount b < (s.bank b).get .minLampsLit →
          (t.bank b).state = .faulted ∧ (t.bank b).running = none ∧ (t.bank b).warmTimer = none ∧
          (t.bank b).faultTimer = some (s.now + 1000 * (s.bank b).get .faultRest) ∧
          Tracker.left (s.bank b).tracker (t.bank b).tracker .warming ∧
          (∀ ch, (s.bank b).owner = some ch → b ∉ (t.chan ch).startList) ∧
          ((t.alarm .bankFault b.1).cause = true ↔
            ∃ ch, (s.bank b).owner = some ch ∧ (s.chan ch).mode ≠ .unarmed) ∧
          ∀ l x, s.lamp l = some x →
            (x.bank ≠ b → t.lamp l = some x) ∧
            (x.bank = b → ∃ y, t.lamp l = some y ∧ s.flagBecame t false x y))) ∧
    ((s.bank b).warmTimer = some d → (s.bank b).state = .warming →
      (∃ ch, (s.bank b).owner = some ch ∧ (s.chan ch).dormant = true) →
      exec (.warmLimitExpiry b) s = .next (s.modBank b fun x => { x with warmTimer := none })) ∧
    ((s.bank b).faultTimer = some d → (s.bank b).state = .faulted → s.nonDead b < (s.bank b).get .minLampsLit →
      exec (.faultRestExpiry b) s = .next (s.modBank b fun x => { x with faultTimer := none })) ∧
    ((s.bank b).faultTimer = some d → (s.bank b).state = .faulted → (s.bank b).get .minLampsLit ≤ s.nonDead b →
      ∃ t, exec (.faultRestExpiry b) s = .next t ∧ s.sameBase t ∧ t.lamps = s.lamps ∧
        ((t.bank b).state = .dark ∨ (t.bank b).state = .striking) ∧ (t.bank b).faultTimer = none ∧
        (t.alarm .bankFault b.1).cause = false)

/-- WIPE NOW (06, R101, R107, R110; 09, R162): in a DARK, WARMING or RUN bank of a governed channel, no program
running, it starts the WIPE program, and in RUN the wipe-interval timer; refused with IN_USE where a program runs or
the bank is STRIKING or QUENCHING, and otherwise with WRONG_MODE. That IN_USE is tested before WRONG_MODE (log 25),
and that a wipe in RUN with WipeInterval 0 leaves the timer as it stands (log 27), are the model's choices. -/
def Obligations.WipeNowStartsAWipe : Prop :=
  ∀ (r : Sender) (b : BankId) (s : State), s.ready →
    ((s.bank b).state = .striking ∨ (s.bank b).state = .quenching ∨ (s.bank b).running ≠ none →
      exec (.bankActionWipeNow r (BitVec.ofNat 8 b.1)) s = .next (s.withReply r 0x07 [2, 6])) ∧
    ((s.bank b).state ≠ .striking → (s.bank b).state ≠ .quenching → (s.bank b).running = none →
      ((s.bank b).state = .faulted ∨ (s.bank b).state = .locked ∨
          (∀ ch, (s.bank b).owner = some ch → (s.chan ch).dormant = true) →
        exec (.bankActionWipeNow r (BitVec.ofNat 8 b.1)) s = .next (s.withReply r 0x07 [2, 7])) ∧
      ((s.bank b).state ≠ .faulted → (s.bank b).state ≠ .locked →
        (∃ ch, (s.bank b).owner = some ch ∧ (s.chan ch).dormant = false) →
        exec (.bankActionWipeNow r (BitVec.ofNat 8 b.1)) s =
          .next ((s.modBank b fun x => { x with
            running := some .wipe
            stepIdx := 0
            stepTimer := some (s.now + 10 * 2 ^ (x.wipe.get 0).k)
            wipeInterval := if x.state = .run ∧ x.get .wipeInterval ≠ 0 then
                some (s.now + 60000 * x.get .wipeInterval)
              else x.wipeInterval }).withReply r 0x07 [0])))

/-! ### The alarm unit -/

/-- A claim takes the pending instance of the highest priority, then of the lowest kind, then of the lowest number,
whatever the threshold, and the ALERT line is judged anew; with none pending the answer is NONE (10, R172, R174). The
reply's bytes are those of log 9. -/
def Obligations.ClaimTakesTheMostUrgent : Prop :=
  ∀ (r : Sender) (s : State), s.ready →
    ((∀ (k : AlarmKind) (i : Nat), i < k.scope → (s.alarm k i).state ≠ .pending) →
      exec (.claimAlarm r) s = .next (s.withReply r 0x0C [0, 0])) ∧
    ∀ (k : AlarmKind) (i : Nat), i < k.scope → (s.alarm k i).state = .pending →
      (∀ (m : AlarmKind) (j : Nat), j < m.scope → (s.alarm m j).state = .pending →
        s.priority m < s.priority k ∨ (s.priority m = s.priority k ∧ (k.number < m.number ∨ (m = k ∧ i ≤ j)))) →
      ∃ line : Bool, ∀ t : State,
        t = { s.modAlarm k i (fun a => { a with state := .inService }) with alertLine := line } →
        t.lineRight ∧ exec (.claimAlarm r) s = .next (t.withReply r 0x0C
          ([0, 1, BitVec.ofNat 8 k.number, BitVec.ofNat 8 i] ++ bytes2 (s.priority k)))

/-- A completion (10, R173 to R175; 09, R165): an instance in service goes to IDLE, or to PENDING where its condition
still holds or its event recurred, its kind's priority not being 0; an entry into PENDING above the threshold makes an
ALERT frame if the alert slot is empty; any other instance is left as it is. -/
def Obligations.CompletionEndsOrReturnsAnInstance : Prop :=
  ∀ (r : Sender) (k : AlarmKind) (i : Nat) (a : Alarm) (s : State), s.ready → i < k.scope → a = s.alarm k i →
    (a.state = .idle ∨ a.state = .pending →
      exec (.completeAlarm r (BitVec.ofNat 8 k.number) (BitVec.ofNat 8 i)) s = .next (s.withReply r 0x0D [0])) ∧
    (a.state = .inService ∨ (a.state = .inServiceRecurred ∧ k.latched = true) →
      ∃ t : State, exec (.completeAlarm r (BitVec.ofNat 8 k.number) (BitVec.ofNat 8 i)) s =
          .next (t.withReply r 0x0D [0]) ∧
        s.onlyAlarms t ∧ t.lineRight ∧ (∀ q, q ≠ alarmSlot k i → t.alarms.get q = s.alarms.get q) ∧
        (t.alarm k i).cause = a.cause ∧
        (s.priority k = 0 ∨ (k.latched = true ∧ a.state = .inService) ∨ (k.latched = false ∧ a.cause = false) →
          (t.alarm k i).state = .idle ∧ t.alertSlot = s.alertSlot ∧ t.north.queue = s.north.queue) ∧
        (s.priority k ≠ 0 → (k.latched = true ∧ a.state = .inServiceRecurred) ∨ (k.latched = false ∧ a.cause = true) →
          (t.alarm k i).state = .pending ∧
          ∀ f : Frame, f = ⟨BitVec.ofNat 8 s.alertDest, BitVec.ofNat 8 s.address, 0x12,
              [BitVec.ofNat 8 k.number, BitVec.ofNat 8 i, BitVec.ofNat 8 (s.priority k)]⟩ →
            (s.threshold < s.priority k → s.alertSlot = none →
              (s.north.queue.length < 16 → s.north.ownCount < 8 →
                t.alertSlot = none ∧ t.north.queue = s.north.queue ++ [⟨f, true, false⟩]) ∧
              (16 ≤ s.north.queue.length ∨ 8 ≤ s.north.ownCount →
                t.alertSlot = some f ∧ t.north.queue = s.north.queue)) ∧
            (s.priority k ≤ s.threshold ∨ s.alertSlot ≠ none →
              t.alertSlot = s.alertSlot ∧ t.north.queue = s.north.queue))) ∧
    ∀ kb ib : Byte, kb = 0 ∨ 19 ≤ kb.toNat ∨ (kb.toNat = k.number ∧ k.scope ≤ ib.toNat) →
      exec (.completeAlarm r kb ib) s = .next (s.withReply r 0x0D [2, 2])

/-! ### Timers -/

/-- A freshness timer runs out (02, R33, R34, R36; 01, R4; 03, R45): the point goes STALE with its value, quality and
instant kept, and its consumers are told by its role: a flow's fallback timer starts, a UVT in use is held or FAILSAFE
with UVT_STALE's cause (R37), a bank's Sf and Sn are lost, and in RUN a stage-up is requested (05, R90). A hold timer
runs out: the UVT in use is FAILSAFE, and UVT_STALE holds unless the channel is UNARMED (02, R34, R37). That a stale
intensity point sets the warm check to FAIL (log 16), that a request in the adoption window is counted in MANUAL, FULL
and STANDDOWN too, against R90's list (log 34), and that staging takes banks of one position by number (log 29), are the
model's choices. -/
def Obligations.FreshnessAndHoldTimersEnd : Prop :=
  (∀ (p : PointId) (x : Point) (d : Nat) (s u : State),
    s.atRest → s.point p = some x → x.timer = some d → d ≤ s.now →
    u = s.setPoint p (some { x with fresh := false, timer := none }) →
    (∀ b, x.cfg.targets = .wiper b → exec (.freshnessTimerExpiry p) s = .next u) ∧
    (∀ ch, x.cfg.targets = .flow ch →
      (s.flowPoint ch ≠ some p → exec (.freshnessTimerExpiry p) s = .next u) ∧
      (s.flowPoint ch = some p → (s.chan ch).mode ≠ .unarmed →
        ∃ t, exec (.freshnessTimerExpiry p) s = .next t ∧ (t.alarm .flowStale ch.1).cause = true ∧
          (u.modChan ch fun c =>
            { c with acct := { c.acct with fallback := some (s.now + c.get .passFallback) } }).onlyAlarms t) ∧
      (s.flowPoint ch = some p → (s.chan ch).mode = .unarmed →
        ∃ t, exec (.freshnessTimerExpiry p) s = .next t ∧ (t.alarm .flowStale ch.1).cause = false ∧
          u.onlyAlarms t)) ∧
    (∀ chs, x.cfg.targets = .uvt chs →
      ∃ t, exec (.freshnessTimerExpiry p) s = .next t ∧
        ({ u with channels := build fun ch =>
            if ch ∈ chs ∧ s.uvtPoint ch = some p ∧ (s.chan ch).uvtUse = .fresh then
              match x.value with
              | some (.num n) =>
                if (s.chan ch).get .uvtHold = 0 then { s.chan ch with uvtUse := .failsafe, uvtHold := none }
                else { s.chan ch with
                  uvtUse := .held n, uvtHold := some (s.now + 1000 * (s.chan ch).get .uvtHold) }
              | _ => { s.chan ch with uvtUse := .failsafe, uvtHold := none }
            else s.chan ch } : State).onlyAlarms t ∧
        ∀ ch : ChanId,
          (ch ∈ chs ∧ s.uvtPoint ch = some p ∧ (s.chan ch).uvtUse = .fresh →
            ((t.alarm .uvtStale ch.1).cause = true ↔ (s.chan ch).mode ≠ .unarmed)) ∧
          (¬ (ch ∈ chs ∧ s.uvtPoint ch = some p ∧ (s.chan ch).uvtUse = .fresh) →
            t.alarm .uvtStale ch.1 = s.alarm .uvtStale ch.1)) ∧
    (∀ b, x.cfg.targets = .intensity b →
      (s.intensityPoint b ≠ some p → exec (.freshnessTimerExpiry p) s = .next u) ∧
      (s.intensityPoint b = some p →
        ∃ t, exec (.freshnessTimerExpiry p) s = .next t ∧
          ((t.alarm .intensityStale b.1).cause = true ↔
            (s.bank b).state ≠ .locked ∧ ∃ ch, (s.bank b).owner = some ch ∧ (s.chan ch).mode ≠ .unarmed) ∧
          ∀ v, v = u.modBank b (fun y =>
              { y with tracker := { y.tracker with sf := none, sn := none, warm := false } }) →
            ((s.bank b).state ≠ .run ∨ (s.bank b).owner = none → v.onlyAlarms t) ∧
            ((s.bank b).state = .run → ∀ ch, (s.bank b).owner = some ch → v.requested t ch)))) ∧
  ∀ (ch : ChanId) (d : Nat) (s : State), s.atRest → (s.chan ch).uvtHold = some d → d ≤ s.now →
    ∃ t, exec (.uvtHoldTimerExpiry ch) s = .next t ∧
      (s.modChan ch fun c => { c with uvtUse := .failsafe, uvtHold := none }).onlyAlarms t ∧
      ((t.alarm .uvtStale ch.1).cause = true ↔ (s.chan ch).mode ≠ .unarmed)

/-- The sag timer runs out: the fallen level is the reference, a reseed is pending, the sag is over and STEP_ACCEPTED
is raised; OUTPUT_LOW is judged by the new reference, and its beginning starts a wipe where one may run (03, R52, R53,
R55; 06, R109). That such a wipe with WipeInterval 0 leaves the interval timer as it stands is the model's choice (log
27). -/
def Obligations.SagTimerAcceptsTheLevel : Prop :=
  ∀ (b : BankId) (d : Nat) (s : State), s.atRest → (s.bank b).tracker.sagTimer = some d → d ≤ s.now →
    ∃ t, exec (.sagTimerExpiry b) s = .next t ∧
      (∀ low : Bool, (low = true ↔ (s.bank b).state = .run ∧
          ∃ q, (s.bank b).tracker.sn = some q ∧ q * 256 < (s.bank b).get .expected * (s.bank b).get .lowPct) →
        (t.alarm .outputLow b.1).cause = low ∧
        (s.modBank b fun x =>
          if low = true ∧ (s.alarm .outputLow b.1).cause = false ∧ x.running = none ∧
              (∃ ch, x.owner = some ch ∧ (s.chan ch).dormant = false) then
            { x with
              tracker := { x.tracker with sref := x.tracker.sn, reseed := true, sag := .clear, sagTimer := none }
              running := some .wipe
              stepIdx := 0
              stepTimer := some (s.now + 10 * 2 ^ (x.wipe.get 0).k)
              wipeInterval := if x.get .wipeInterval = 0 then x.wipeInterval
                else some (s.now + 60000 * x.get .wipeInterval) }
          else { x with
            tracker := { x.tracker with
              sref := x.tracker.sn, reseed := true, sag := .clear, sagTimer := none } }).onlyAlarms t) ∧
      (t.alarm .sag b.1).cause = false ∧
      (t.alarm .stepAccepted b.1).state = (if s.priority .stepAccepted = 0 then (s.alarm .stepAccepted b.1).state
        else (s.alarm .stepAccepted b.1).state.raised)

/-- The manual lease runs out: a channel in MANUAL enters AUTO, one in EDIT from MANUAL will return to AUTO (05, R81).
The edit lease lapses: with a valid profile the channel returns to its armed mode, with an invalid one it is UNARMED and
EDIT_LAPSED is raised, and the lock is free (05, R79; 09, R158). -/
def Obligations.LeasesRunOut : Prop :=
  (∀ (ch : ChanId) (d : Nat) (s : State), s.atRest → (s.chan ch).manualLease = some d → d ≤ s.now →
    ((s.chan ch).mode = .manual →
      ∃ t, exec (.manualLeaseExpiry ch) s = .next t ∧ s.sameBase t ∧ t.lamps = s.lamps ∧
        (t.chan ch).mode = .auto ∧ (t.chan ch).manualLease = none ∧ (t.chan ch).pendingUp = 0 ∧
        (t.chan ch).power = (s.chan ch).power ∧ ∀ d, d ≠ ch → (t.chan d).butList = (s.chan d).butList) ∧
    ((s.chan ch).mode = .edit →
      exec (.manualLeaseExpiry ch) s = .next (s.modChan ch fun c => { c with
        manualLease := none
        prevMode := if c.prevMode = .manual then .auto else c.prevMode }))) ∧
  ∀ (ch : ChanId) (d : Nat) (s : State), s.atRest → (s.chan ch).editLease = some d → d ≤ s.now →
    ∃ t, exec (.editLeaseLapse ch) s = .next t ∧ s.sameBase t ∧
      (t.chan ch).holder = none ∧ (t.chan ch).editLease = none ∧
      (t.chan ch).profileValid = (s.chan ch).profileValid ∧
      (∀ d, d ≠ ch → (t.chan d).butList = (s.chan d).butList) ∧
      ((s.chan ch).profileValid = true →
        (t.chan ch).mode = (if (s.chan ch).prevMode = .unarmed then .auto else (s.chan ch).prevMode) ∧
        ((s.chan ch).prevMode = .unarmed → (t.chan ch).adoption = some (s.now + 10000)) ∧
        t.alarm .editLapsed ch.1 = s.alarm .editLapsed ch.1) ∧
      ((s.chan ch).profileValid = false →
        (t.chan ch).mode = .unarmed ∧ (t.chan ch).acct.fallback = none ∧ (t.chan ch).adoption = none ∧
        (t.alarm .editLapsed ch.1).state = (if s.priority .editLapsed = 0 then (s.alarm .editLapsed ch.1).state
          else (s.alarm .editLapsed ch.1).state.raised))

/-- The adoption window ends (05, R86; 07, R118, R120, R128): the channel's unconfirmed lamps are confirmed and try
the strike path (the model's choice where R120 is open, log 20), its lit lamps outside the listed banks are put out,
each with a QUENCH, and its listed WARMING banks with enough lit lamps enter RUN, from which the review that follows
may take one to QUENCHING. -/
def Obligations.AdoptionWindowEnds : Prop :=
  ∀ (ch : ChanId) (d : Nat) (s : State), s.atRest → (s.chan ch).adoption = some d → d ≤ s.now →
    ∃ t, exec (.adoptionWindowExpiry ch) s = .next t ∧ s.sameBase t ∧
      (t.chan ch).adoption = none ∧ (t.chan ch).mode = (s.chan ch).mode ∧ (t.chan ch).power = (s.chan ch).power ∧
      (∀ d, d ≠ ch → (t.chan d).butList = (s.chan d).butList) ∧
      (∀ l x, s.lamp l = some x → (s.bank x.bank).owner ≠ some ch → t.lamp l = some x) ∧
      (∀ l x, s.lamp l = some x → (s.bank x.bank).owner = some ch →
        ∃ z, t.lamp l = some z ∧ ∀ y, y = { x with unconfirmed := false } →
          (x.state = .lit → x.bank ∈ (s.chan ch).startList → z = y) ∧
          (x.state = .lit → x.bank ∉ (s.chan ch).startList → s.putOut t y z) ∧
          (x.state ≠ .lit → x.unconfirmed = true → s.strikeTried t y z) ∧
          (x.state ≠ .lit → x.unconfirmed = false → z = x)) ∧
      (∀ b, b ∈ (s.chan ch).startList → (s.bank b).owner = some ch → (s.bank b).state = .warming →
        (s.bank b).get .minLampsLit ≤ s.litCount b → (t.bank b).state = .run ∨ (t.bank b).state = .quenching)

/-- A step timer runs out (06, R101 to R104, R108, R111, R112; 05, R95, R97; 07, R118, R120): the step's blank, wiper
start and lamp set take effect; a step not the last starts the next step's delay; the last one ends the program,
STRIKE into WARMING, QUENCH into DARK, WIPE in place, whatever the step carries. The lamps take the step's set in any
bank that the new lit count takes nowhere. That the end of a blank sets the warm check to FAIL (log 16), that a lamp of
a dormant or unassigned bank takes the flag and nothing else (log 18), and that a set is applied whole before the bank
is judged (log 21), are the model's choices. -/
def Obligations.StepTimerTakesTheStep : Prop :=
  ∀ (b : BankId) (k : ProgKind) (d : Nat) (y : Machine.Step) (s : State), s.atRest → s.listsSound →
    (s.bank b).running = some k → (s.bank b).stepTimer = some d → d ≤ s.now →
    y = ((s.bank b).program k).get (s.bank b).stepIdx →
    -- no lamp set, no wiper start or no wiper station, not the last
    (y.set = none → y.wiper = false ∨ (s.bank b).wiperStation = none → y.last = false →
      ∀ i : Fin 8, i.1 = (s.bank b).stepIdx.1 + 1 →
      exec (.stepTimerExpiry b) s = .next (s.modBank b fun x => { x with
        stepIdx := i
        stepTimer := some (s.now + 10 * 2 ^ ((x.program k).get i).k)
        tracker := x.tracker.afterBlank y.blank })) ∧
    -- no lamp set, a wiper start, not the last
    (y.set = none → y.wiper = true → y.last = false → ∀ st, (s.bank b).wiperStation = some st →
      ∀ i : Fin 8, i.1 = (s.bank b).stepIdx.1 + 1 →
      ∃ (t : State) (slot : Option Nat), exec (.stepTimerExpiry b) s = .next t ∧
        { t with banks := s.banks, south := s.south } = s ∧ (∀ c, c ≠ b → t.bank c = s.bank c) ∧
        t.bank b = { s.bank b with
          stepIdx := i
          stepTimer := some (s.now + 10 * 2 ^ (((s.bank b).program k).get i).k)
          tracker := (s.bank b).tracker.afterBlank y.blank
          supervision := .started
          wipeLimit := some (s.now + 1000 * (s.bank b).get .wipeLimit)
          wiperSlot := slot } ∧
        ((s.bank b).wiperSlot = none → s.repeater = false → s.south.queue.length < 16 → s.south.ownCount < 8 →
          slot = none ∧ t.south = { s.south with
            queue := s.south.queue ++ [⟨s.ownFrame st 0x04 [1], true, false⟩] }) ∧
        ((s.bank b).wiperSlot ≠ none ∨ s.repeater = true ∨ 16 ≤ s.south.queue.length ∨ 8 ≤ s.south.ownCount →
          slot = some st ∧ t.south = s.south)) ∧
    -- a lamp set, the last or not
    (∀ m, y.set = some m →
      ((s.bank b).state = .striking ∨ (s.bank b).state = .quenching ∨ (s.bank b).state = .faulted ∨
        (s.bank b).state = .locked ∨ ((s.bank b).state = .warming ∧ (s.bank b).tracker.warm = false) ∨
        ((s.bank b).state = .dark ∧ ∀ ch, (s.bank b).owner = some ch → (s.chan ch).adoption = none)) →
      ∃ t, exec (.stepTimerExpiry b) s = .next t ∧ s.sameBase t ∧
        (y.last = false → ∀ i : Fin 8, i.1 = (s.bank b).stepIdx.1 + 1 →
          t.channels = s.channels ∧ (∀ c, c ≠ b → t.bank c = s.bank c) ∧
          s.wiperPlaced t b y.wiper (t.bank b).wiperSlot ∧
          t.bank b = { s.bank b with
            stepIdx := i
            stepTimer := some (s.now + 10 * 2 ^ (((s.bank b).program k).get i).k)
            tracker := (s.bank b).tracker.afterBlank y.blank
            supervision := if y.wiper = true ∧ (s.bank b).wiperStation ≠ none then .started else (s.bank b).supervision
            wipeLimit := if y.wiper = true ∧ (s.bank b).wiperStation ≠ none then
                some (s.now + 1000 * (s.bank b).get .wipeLimit)
              else (s.bank b).wipeLimit
            wiperSlot := (t.bank b).wiperSlot }) ∧
        ∀ l x, s.lamp l = some x →
          (x.bank ≠ b → t.lamp l = some x) ∧
          (x.bank = b → ∃ z, t.lamp l = some z ∧ s.flagBecame t (m.getLsbD x.slot) x z)) ∧
    -- the last step, whatever it carries
    ((y.last = true ∨ (s.bank b).stepIdx = 7) →
      ∃ t, exec (.stepTimerExpiry b) s = .next t ∧ s.sameBase t ∧ (y.set = none → t.lamps = s.lamps) ∧
        (y.wiper = true → ∀ st, (s.bank b).wiperStation = some st → (y.set = none ∨ k ≠ .wipe) →
          (k = .strike → (s.bank b).state = .striking) → (k = .quench → (s.bank b).state = .quenching) →
          (t.bank b).supervision = .started ∧ s.wiperPlaced t b true (t.bank b).wiperSlot ∧
            (t.bank b).wipeLimit = some (s.now + 1000 * (s.bank b).get .wipeLimit)) ∧
        (k = .strike → (s.bank b).state = .striking →
          ((t.bank b).state = .warming ∨ (t.bank b).state = .quenching) ∧ (t.bank b).tracker.blank = false ∧
          ((t.bank b).state = .warming → (t.bank b).running = none ∧ (t.bank b).stepTimer = none ∧
            (t.bank b).tracker.warm = false ∧
            (t.bank b).warmTimer = some (s.now + 1000 * (s.bank b).get .warmLimit))) ∧
        (k = .quench → (s.bank b).state = .quenching →
          ((t.bank b).state = .dark ∨ (t.bank b).state = .striking) ∧ (t.bank b).tracker.blank = false ∧
          ((t.bank b).state = .dark → (t.bank b).running = none ∧ (t.bank b).stepTimer = none)) ∧
        (k = .wipe → y.set = none → (s.bank b).state = .run →
          (t.bank b).state = .run ∧ (t.bank b).tracker.blank = false ∧ (t.bank b).tracker.reseed = true ∧
          (t.bank b).wipeDue = false ∧
          (t.bank b).running = (if (s.bank b).wipeDue = true then some .wipe else none)) ∧
        (k = .wipe → y.set = none → (s.bank b).state ≠ .run →
          (t.bank b).state = (s.bank b).state ∧ (t.bank b).tracker.blank = false ∧ (t.bank b).wipeDue = false ∧
          (t.bank b).running = none))

/-- The wipe-interval timer runs out: the WIPE program starts, or, with a program running, one wipe is due (06, R107,
R108); the WipeLimit timer runs out: the supervised run fails and WIPER_FAULT is raised (06, R112). -/
def Obligations.WipeTimersEnd : Prop :=
  ∀ (b : BankId) (d : Nat) (s : State), s.atRest → d ≤ s.now →
    ((s.bank b).wipeInterval = some d → (∃ ch, (s.bank b).owner = some ch ∧ (s.chan ch).dormant = false) →
      ((s.bank b).running = none →
        exec (.wipeIntervalExpiry b) s = .next (s.modBank b fun x => { x with
          running := some .wipe
          stepIdx := 0
          stepTimer := some (s.now + 10 * 2 ^ (x.wipe.get 0).k)
          wipeInterval := if x.state = .run ∧ x.get .wipeInterval ≠ 0 then
              some (s.now + 60000 * x.get .wipeInterval)
            else none })) ∧
      ((s.bank b).running ≠ none →
        exec (.wipeIntervalExpiry b) s =
          .next (s.modBank b fun x => { x with wipeInterval := none, wipeDue := true }))) ∧
    ((s.bank b).wipeLimit = some d → (s.bank b).supervision ≠ .idle →
      ∃ t, exec (.wipeLimitExpiry b) s = .next t ∧ s.raisedOnly t .wiperFault b.1 ∧
        (s.modBank b fun x =>
          { x with supervision := .idle, wipeLimit := none, lastWipe := .fault }).onlyAlarms t)

/-- The pulse line (10, R179): at the end of its width it is low for PulseGap; at the end of the gap the next pulse
takes its unit of the backlog and starts, or the line is IDLE. -/
def Obligations.PulseTimersMoveTheLine : Prop :=
  ∀ (ch : ChanId) (d : Nat) (s : State), s.atRest → (s.chan ch).pulseTimer = some d → d ≤ s.now →
    ((s.chan ch).pulsePhase = .high →
      exec (.pulseWidthExpiry ch) s = .next (s.modChan ch fun c =>
        { c with pulsePhase := .gap, pulseTimer := some (s.now + c.get .pulseGap) })) ∧
    ((s.chan ch).pulsePhase = .gap →
      (0 < (s.chan ch).acct.backlog →
        exec (.pulseGapExpiry ch) s = .next (s.modChan ch fun c =>
          { c with pulsePhase := .high, pulseTimer := some (s.now + c.get .pulseWidth),
                   acct := { c.acct with backlog := c.acct.backlog - 1 } })) ∧
      ((s.chan ch).acct.backlog = 0 →
        exec (.pulseGapExpiry ch) s = .next (s.modChan ch fun c =>
          { c with pulsePhase := .idle, pulseTimer := none })))
end

