-- ==== Sys2Proof/Laws/State.lean ====
section
/-! SUPPORT. One lemma per field per update of the state, and what reading after an update gives, so that no proof
unfolds a record update. -/

namespace Sys2Proof.Machine

/-! ### Tables -/

theorem get_eq_getElem {n : Nat} {α : Type} (v : Vector α n) (i : Fin n) : v.get i = v[i.1] := rfl

@[simp] theorem build_get {n : Nat} {α : Type} (f : Fin n → α) (i : Fin n) : (build f).get i = f i := by
  simp [build, get_eq_getElem]

@[simp] theorem put_get_self {n : Nat} {α : Type} (v : Vector α n) (i : Fin n) (x : α) : (put v i x).get i = x := by
  simp [put, get_eq_getElem]

theorem put_get {n : Nat} {α : Type} (v : Vector α n) (i j : Fin n) (x : α) :
    (put v i x).get j = if j = i then x else v.get j := by
  by_cases h : j = i
  · subst h; simp
  · have h' : i.1 ≠ j.1 := fun e => h (Fin.ext e.symm)
    simp [put, get_eq_getElem, h, h']

@[simp] theorem put_get_ne {n : Nat} {α : Type} (v : Vector α n) {i j : Fin n} (x : α) (h : j ≠ i) :
    (put v i x).get j = v.get j := by
  simp [put_get, h]

theorem vector_ext_get {n : Nat} {α : Type} {v w : Vector α n} (h : ∀ i : Fin n, v.get i = w.get i) : v = w := by
  apply Vector.ext
  intro i hi
  exact h ⟨i, hi⟩

@[simp] theorem put_get_eq {n : Nat} {α : Type} (v : Vector α n) (i : Fin n) : put v i (v.get i) = v := by
  apply vector_ext_get
  intro j
  by_cases h : j = i
  · subst h; simp
  · simp [h]

@[simp] theorem put_put {n : Nat} {α : Type} (v : Vector α n) (i : Fin n) (x y : α) :
    put (put v i x) i y = put v i y := by
  apply vector_ext_get
  intro j
  by_cases h : j = i
  · subst h; simp
  · simp [h]

/-- A table built by changing one entry is that entry put in the table. -/
theorem build_ite_eq_put {n : Nat} {α : Type} (v : Vector α n) (i : Fin n) (x : α) :
    build (fun j => if j = i then x else v.get j) = put v i x := by
  apply vector_ext_get
  intro j
  simp [put_get]

/-! ### modChan -/

@[simp] theorem State.modChan_pending (s : State) (c : ChanId) (f : Channel → Channel) :
    (s.modChan c f).pending = s.pending := rfl

@[simp] theorem State.modChan_now (s : State) (c : ChanId) (f : Channel → Channel) :
    (s.modChan c f).now = s.now := rfl

@[simp] theorem State.modChan_straps (s : State) (c : ChanId) (f : Channel → Channel) :
    (s.modChan c f).straps = s.straps := rfl

@[simp] theorem State.modChan_strapReads (s : State) (c : ChanId) (f : Channel → Channel) :
    (s.modChan c f).strapReads = s.strapReads := rfl

@[simp] theorem State.modChan_address (s : State) (c : ChanId) (f : Channel → Channel) :
    (s.modChan c f).address = s.address := rfl

@[simp] theorem State.modChan_north (s : State) (c : ChanId) (f : Channel → Channel) :
    (s.modChan c f).north = s.north := rfl

@[simp] theorem State.modChan_south (s : State) (c : ChanId) (f : Channel → Channel) :
    (s.modChan c f).south = s.south := rfl

@[simp] theorem State.modChan_replySlot (s : State) (c : ChanId) (f : Channel → Channel) :
    (s.modChan c f).replySlot = s.replySlot := rfl

@[simp] theorem State.modChan_alertSlot (s : State) (c : ChanId) (f : Channel → Channel) :
    (s.modChan c f).alertSlot = s.alertSlot := rfl

@[simp] theorem State.modChan_pointer (s : State) (c : ChanId) (f : Channel → Channel) :
    (s.modChan c f).pointer = s.pointer := rfl

@[simp] theorem State.modChan_restartPending (s : State) (c : ChanId) (f : Channel → Channel) :
    (s.modChan c f).restartPending = s.restartPending := rfl

@[simp] theorem State.modChan_banks (s : State) (c : ChanId) (f : Channel → Channel) :
    (s.modChan c f).banks = s.banks := rfl

@[simp] theorem State.modChan_lamps (s : State) (c : ChanId) (f : Channel → Channel) :
    (s.modChan c f).lamps = s.lamps := rfl

@[simp] theorem State.modChan_points (s : State) (c : ChanId) (f : Channel → Channel) :
    (s.modChan c f).points = s.points := rfl

@[simp] theorem State.modChan_priorities (s : State) (c : ChanId) (f : Channel → Channel) :
    (s.modChan c f).priorities = s.priorities := rfl

@[simp] theorem State.modChan_threshold (s : State) (c : ChanId) (f : Channel → Channel) :
    (s.modChan c f).threshold = s.threshold := rfl

@[simp] theorem State.modChan_alertDest (s : State) (c : ChanId) (f : Channel → Channel) :
    (s.modChan c f).alertDest = s.alertDest := rfl

@[simp] theorem State.modChan_alarms (s : State) (c : ChanId) (f : Channel → Channel) :
    (s.modChan c f).alarms = s.alarms := rfl

@[simp] theorem State.modChan_alertLine (s : State) (c : ChanId) (f : Channel → Channel) :
    (s.modChan c f).alertLine = s.alertLine := rfl

@[simp] theorem State.modChan_alertsDue (s : State) (c : ChanId) (f : Channel → Channel) :
    (s.modChan c f).alertsDue = s.alertsDue := rfl

@[simp] theorem State.modChan_slotsMade (s : State) (c : ChanId) (f : Channel → Channel) :
    (s.modChan c f).slotsMade = s.slotsMade := rfl

/-! ### modBank -/

@[simp] theorem State.modBank_pending (s : State) (b : BankId) (f : Bank → Bank) :
    (s.modBank b f).pending = s.pending := rfl

@[simp] theorem State.modBank_now (s : State) (b : BankId) (f : Bank → Bank) :
    (s.modBank b f).now = s.now := rfl

@[simp] theorem State.modBank_straps (s : State) (b : BankId) (f : Bank → Bank) :
    (s.modBank b f).straps = s.straps := rfl

@[simp] theorem State.modBank_strapReads (s : State) (b : BankId) (f : Bank → Bank) :
    (s.modBank b f).strapReads = s.strapReads := rfl

@[simp] theorem State.modBank_address (s : State) (b : BankId) (f : Bank → Bank) :
    (s.modBank b f).address = s.address := rfl

@[simp] theorem State.modBank_north (s : State) (b : BankId) (f : Bank → Bank) :
    (s.modBank b f).north = s.north := rfl

@[simp] theorem State.modBank_south (s : State) (b : BankId) (f : Bank → Bank) :
    (s.modBank b f).south = s.south := rfl

@[simp] theorem State.modBank_replySlot (s : State) (b : BankId) (f : Bank → Bank) :
    (s.modBank b f).replySlot = s.replySlot := rfl

@[simp] theorem State.modBank_alertSlot (s : State) (b : BankId) (f : Bank → Bank) :
    (s.modBank b f).alertSlot = s.alertSlot := rfl

@[simp] theorem State.modBank_pointer (s : State) (b : BankId) (f : Bank → Bank) :
    (s.modBank b f).pointer = s.pointer := rfl

@[simp] theorem State.modBank_restartPending (s : State) (b : BankId) (f : Bank → Bank) :
    (s.modBank b f).restartPending = s.restartPending := rfl

@[simp] theorem State.modBank_channels (s : State) (b : BankId) (f : Bank → Bank) :
    (s.modBank b f).channels = s.channels := rfl

@[simp] theorem State.modBank_lamps (s : State) (b : BankId) (f : Bank → Bank) :
    (s.modBank b f).lamps = s.lamps := rfl

@[simp] theorem State.modBank_points (s : State) (b : BankId) (f : Bank → Bank) :
    (s.modBank b f).points = s.points := rfl

@[simp] theorem State.modBank_priorities (s : State) (b : BankId) (f : Bank → Bank) :
    (s.modBank b f).priorities = s.priorities := rfl

@[simp] theorem State.modBank_threshold (s : State) (b : BankId) (f : Bank → Bank) :
    (s.modBank b f).threshold = s.threshold := rfl

@[simp] theorem State.modBank_alertDest (s : State) (b : BankId) (f : Bank → Bank) :
    (s.modBank b f).alertDest = s.alertDest := rfl

@[simp] theorem State.modBank_alarms (s : State) (b : BankId) (f : Bank → Bank) :
    (s.modBank b f).alarms = s.alarms := rfl

@[simp] theorem State.modBank_alertLine (s : State) (b : BankId) (f : Bank → Bank) :
    (s.modBank b f).alertLine = s.alertLine := rfl

@[simp] theorem State.modBank_alertsDue (s : State) (b : BankId) (f : Bank → Bank) :
    (s.modBank b f).alertsDue = s.alertsDue := rfl

@[simp] theorem State.modBank_slotsMade (s : State) (b : BankId) (f : Bank → Bank) :
    (s.modBank b f).slotsMade = s.slotsMade := rfl

/-! ### setLamp -/

@[simp] theorem State.setLamp_pending (s : State) (l : LampId) (x : Option Lamp) :
    (s.setLamp l x).pending = s.pending := rfl

@[simp] theorem State.setLamp_now (s : State) (l : LampId) (x : Option Lamp) :
    (s.setLamp l x).now = s.now := rfl

@[simp] theorem State.setLamp_straps (s : State) (l : LampId) (x : Option Lamp) :
    (s.setLamp l x).straps = s.straps := rfl

@[simp] theorem State.setLamp_strapReads (s : State) (l : LampId) (x : Option Lamp) :
    (s.setLamp l x).strapReads = s.strapReads := rfl

@[simp] theorem State.setLamp_address (s : State) (l : LampId) (x : Option Lamp) :
    (s.setLamp l x).address = s.address := rfl

@[simp] theorem State.setLamp_north (s : State) (l : LampId) (x : Option Lamp) :
    (s.setLamp l x).north = s.north := rfl

@[simp] theorem State.setLamp_south (s : State) (l : LampId) (x : Option Lamp) :
    (s.setLamp l x).south = s.south := rfl

@[simp] theorem State.setLamp_replySlot (s : State) (l : LampId) (x : Option Lamp) :
    (s.setLamp l x).replySlot = s.replySlot := rfl

@[simp] theorem State.setLamp_alertSlot (s : State) (l : LampId) (x : Option Lamp) :
    (s.setLamp l x).alertSlot = s.alertSlot := rfl

@[simp] theorem State.setLamp_pointer (s : State) (l : LampId) (x : Option Lamp) :
    (s.setLamp l x).pointer = s.pointer := rfl

@[simp] theorem State.setLamp_restartPending (s : State) (l : LampId) (x : Option Lamp) :
    (s.setLamp l x).restartPending = s.restartPending := rfl

@[simp] theorem State.setLamp_channels (s : State) (l : LampId) (x : Option Lamp) :
    (s.setLamp l x).channels = s.channels := rfl

@[simp] theorem State.setLamp_banks (s : State) (l : LampId) (x : Option Lamp) :
    (s.setLamp l x).banks = s.banks := rfl

@[simp] theorem State.setLamp_points (s : State) (l : LampId) (x : Option Lamp) :
    (s.setLamp l x).points = s.points := rfl

@[simp] theorem State.setLamp_priorities (s : State) (l : LampId) (x : Option Lamp) :
    (s.setLamp l x).priorities = s.priorities := rfl

@[simp] theorem State.setLamp_threshold (s : State) (l : LampId) (x : Option Lamp) :
    (s.setLamp l x).threshold = s.threshold := rfl

@[simp] theorem State.setLamp_alertDest (s : State) (l : LampId) (x : Option Lamp) :
    (s.setLamp l x).alertDest = s.alertDest := rfl

@[simp] theorem State.setLamp_alarms (s : State) (l : LampId) (x : Option Lamp) :
    (s.setLamp l x).alarms = s.alarms := rfl

@[simp] theorem State.setLamp_alertLine (s : State) (l : LampId) (x : Option Lamp) :
    (s.setLamp l x).alertLine = s.alertLine := rfl

@[simp] theorem State.setLamp_alertsDue (s : State) (l : LampId) (x : Option Lamp) :
    (s.setLamp l x).alertsDue = s.alertsDue := rfl

@[simp] theorem State.setLamp_slotsMade (s : State) (l : LampId) (x : Option Lamp) :
    (s.setLamp l x).slotsMade = s.slotsMade := rfl

/-! ### modLamp -/

@[simp] theorem State.modLamp_pending (s : State) (l : LampId) (f : Lamp → Lamp) :
    (s.modLamp l f).pending = s.pending := rfl

@[simp] theorem State.modLamp_now (s : State) (l : LampId) (f : Lamp → Lamp) :
    (s.modLamp l f).now = s.now := rfl

@[simp] theorem State.modLamp_straps (s : State) (l : LampId) (f : Lamp → Lamp) :
    (s.modLamp l f).straps = s.straps := rfl

@[simp] theorem State.modLamp_strapReads (s : State) (l : LampId) (f : Lamp → Lamp) :
    (s.modLamp l f).strapReads = s.strapReads := rfl

@[simp] theorem State.modLamp_address (s : State) (l : LampId) (f : Lamp → Lamp) :
    (s.modLamp l f).address = s.address := rfl

@[simp] theorem State.modLamp_north (s : State) (l : LampId) (f : Lamp → Lamp) :
    (s.modLamp l f).north = s.north := rfl

@[simp] theorem State.modLamp_south (s : State) (l : LampId) (f : Lamp → Lamp) :
    (s.modLamp l f).south = s.south := rfl

@[simp] theorem State.modLamp_replySlot (s : State) (l : LampId) (f : Lamp → Lamp) :
    (s.modLamp l f).replySlot = s.replySlot := rfl

@[simp] theorem State.modLamp_alertSlot (s : State) (l : LampId) (f : Lamp → Lamp) :
    (s.modLamp l f).alertSlot = s.alertSlot := rfl

@[simp] theorem State.modLamp_pointer (s : State) (l : LampId) (f : Lamp → Lamp) :
    (s.modLamp l f).pointer = s.pointer := rfl

@[simp] theorem State.modLamp_restartPending (s : State) (l : LampId) (f : Lamp → Lamp) :
    (s.modLamp l f).restartPending = s.restartPending := rfl

@[simp] theorem State.modLamp_channels (s : State) (l : LampId) (f : Lamp → Lamp) :
    (s.modLamp l f).channels = s.channels := rfl

@[simp] theorem State.modLamp_banks (s : State) (l : LampId) (f : Lamp → Lamp) :
    (s.modLamp l f).banks = s.banks := rfl

@[simp] theorem State.modLamp_points (s : State) (l : LampId) (f : Lamp → Lamp) :
    (s.modLamp l f).points = s.points := rfl

@[simp] theorem State.modLamp_priorities (s : State) (l : LampId) (f : Lamp → Lamp) :
    (s.modLamp l f).priorities = s.priorities := rfl

@[simp] theorem State.modLamp_threshold (s : State) (l : LampId) (f : Lamp → Lamp) :
    (s.modLamp l f).threshold = s.threshold := rfl

@[simp] theorem State.modLamp_alertDest (s : State) (l : LampId) (f : Lamp → Lamp) :
    (s.modLamp l f).alertDest = s.alertDest := rfl

@[simp] theorem State.modLamp_alarms (s : State) (l : LampId) (f : Lamp → Lamp) :
    (s.modLamp l f).alarms = s.alarms := rfl

@[simp] theorem State.modLamp_alertLine (s : State) (l : LampId) (f : Lamp → Lamp) :
    (s.modLamp l f).alertLine = s.alertLine := rfl

@[simp] theorem State.modLamp_alertsDue (s : State) (l : LampId) (f : Lamp → Lamp) :
    (s.modLamp l f).alertsDue = s.alertsDue := rfl

@[simp] theorem State.modLamp_slotsMade (s : State) (l : LampId) (f : Lamp → Lamp) :
    (s.modLamp l f).slotsMade = s.slotsMade := rfl

/-! ### setPoint -/

@[simp] theorem State.setPoint_pending (s : State) (p : PointId) (x : Option Point) :
    (s.setPoint p x).pending = s.pending := rfl

@[simp] theorem State.setPoint_now (s : State) (p : PointId) (x : Option Point) :
    (s.setPoint p x).now = s.now := rfl

@[simp] theorem State.setPoint_straps (s : State) (p : PointId) (x : Option Point) :
    (s.setPoint p x).straps = s.straps := rfl

@[simp] theorem State.setPoint_strapReads (s : State) (p : PointId) (x : Option Point) :
    (s.setPoint p x).strapReads = s.strapReads := rfl

@[simp] theorem State.setPoint_address (s : State) (p : PointId) (x : Option Point) :
    (s.setPoint p x).address = s.address := rfl

@[simp] theorem State.setPoint_north (s : State) (p : PointId) (x : Option Point) :
    (s.setPoint p x).north = s.north := rfl

@[simp] theorem State.setPoint_south (s : State) (p : PointId) (x : Option Point) :
    (s.setPoint p x).south = s.south := rfl

@[simp] theorem State.setPoint_replySlot (s : State) (p : PointId) (x : Option Point) :
    (s.setPoint p x).replySlot = s.replySlot := rfl

@[simp] theorem State.setPoint_alertSlot (s : State) (p : PointId) (x : Option Point) :
    (s.setPoint p x).alertSlot = s.alertSlot := rfl

@[simp] theorem State.setPoint_pointer (s : State) (p : PointId) (x : Option Point) :
    (s.setPoint p x).pointer = s.pointer := rfl

@[simp] theorem State.setPoint_restartPending (s : State) (p : PointId) (x : Option Point) :
    (s.setPoint p x).restartPending = s.restartPending := rfl

@[simp] theorem State.setPoint_channels (s : State) (p : PointId) (x : Option Point) :
    (s.setPoint p x).channels = s.channels := rfl

@[simp] theorem State.setPoint_banks (s : State) (p : PointId) (x : Option Point) :
    (s.setPoint p x).banks = s.banks := rfl

@[simp] theorem State.setPoint_lamps (s : State) (p : PointId) (x : Option Point) :
    (s.setPoint p x).lamps = s.lamps := rfl

@[simp] theorem State.setPoint_priorities (s : State) (p : PointId) (x : Option Point) :
    (s.setPoint p x).priorities = s.priorities := rfl

@[simp] theorem State.setPoint_threshold (s : State) (p : PointId) (x : Option Point) :
    (s.setPoint p x).threshold = s.threshold := rfl

@[simp] theorem State.setPoint_alertDest (s : State) (p : PointId) (x : Option Point) :
    (s.setPoint p x).alertDest = s.alertDest := rfl

@[simp] theorem State.setPoint_alarms (s : State) (p : PointId) (x : Option Point) :
    (s.setPoint p x).alarms = s.alarms := rfl

@[simp] theorem State.setPoint_alertLine (s : State) (p : PointId) (x : Option Point) :
    (s.setPoint p x).alertLine = s.alertLine := rfl

@[simp] theorem State.setPoint_alertsDue (s : State) (p : PointId) (x : Option Point) :
    (s.setPoint p x).alertsDue = s.alertsDue := rfl

@[simp] theorem State.setPoint_slotsMade (s : State) (p : PointId) (x : Option Point) :
    (s.setPoint p x).slotsMade = s.slotsMade := rfl

/-! ### modAlarm -/

@[simp] theorem State.modAlarm_pending (s : State) (k : AlarmKind) (i : Nat) (f : Alarm → Alarm) :
    (s.modAlarm k i f).pending = s.pending := rfl

@[simp] theorem State.modAlarm_now (s : State) (k : AlarmKind) (i : Nat) (f : Alarm → Alarm) :
    (s.modAlarm k i f).now = s.now := rfl

@[simp] theorem State.modAlarm_straps (s : State) (k : AlarmKind) (i : Nat) (f : Alarm → Alarm) :
    (s.modAlarm k i f).straps = s.straps := rfl

@[simp] theorem State.modAlarm_strapReads (s : State) (k : AlarmKind) (i : Nat) (f : Alarm → Alarm) :
    (s.modAlarm k i f).strapReads = s.strapReads := rfl

@[simp] theorem State.modAlarm_address (s : State) (k : AlarmKind) (i : Nat) (f : Alarm → Alarm) :
    (s.modAlarm k i f).address = s.address := rfl

@[simp] theorem State.modAlarm_north (s : State) (k : AlarmKind) (i : Nat) (f : Alarm → Alarm) :
    (s.modAlarm k i f).north = s.north := rfl

@[simp] theorem State.modAlarm_south (s : State) (k : AlarmKind) (i : Nat) (f : Alarm → Alarm) :
    (s.modAlarm k i f).south = s.south := rfl

@[simp] theorem State.modAlarm_replySlot (s : State) (k : AlarmKind) (i : Nat) (f : Alarm → Alarm) :
    (s.modAlarm k i f).replySlot = s.replySlot := rfl

@[simp] theorem State.modAlarm_alertSlot (s : State) (k : AlarmKind) (i : Nat) (f : Alarm → Alarm) :
    (s.modAlarm k i f).alertSlot = s.alertSlot := rfl

@[simp] theorem State.modAlarm_pointer (s : State) (k : AlarmKind) (i : Nat) (f : Alarm → Alarm) :
    (s.modAlarm k i f).pointer = s.pointer := rfl

@[simp] theorem State.modAlarm_restartPending (s : State) (k : AlarmKind) (i : Nat) (f : Alarm → Alarm) :
    (s.modAlarm k i f).restartPending = s.restartPending := rfl

@[simp] theorem State.modAlarm_channels (s : State) (k : AlarmKind) (i : Nat) (f : Alarm → Alarm) :
    (s.modAlarm k i f).channels = s.channels := rfl

@[simp] theorem State.modAlarm_banks (s : State) (k : AlarmKind) (i : Nat) (f : Alarm → Alarm) :
    (s.modAlarm k i f).banks = s.banks := rfl

@[simp] theorem State.modAlarm_lamps (s : State) (k : AlarmKind) (i : Nat) (f : Alarm → Alarm) :
    (s.modAlarm k i f).lamps = s.lamps := rfl

@[simp] theorem State.modAlarm_points (s : State) (k : AlarmKind) (i : Nat) (f : Alarm → Alarm) :
    (s.modAlarm k i f).points = s.points := rfl

@[simp] theorem State.modAlarm_priorities (s : State) (k : AlarmKind) (i : Nat) (f : Alarm → Alarm) :
    (s.modAlarm k i f).priorities = s.priorities := rfl

@[simp] theorem State.modAlarm_threshold (s : State) (k : AlarmKind) (i : Nat) (f : Alarm → Alarm) :
    (s.modAlarm k i f).threshold = s.threshold := rfl

@[simp] theorem State.modAlarm_alertDest (s : State) (k : AlarmKind) (i : Nat) (f : Alarm → Alarm) :
    (s.modAlarm k i f).alertDest = s.alertDest := rfl

@[simp] theorem State.modAlarm_alertLine (s : State) (k : AlarmKind) (i : Nat) (f : Alarm → Alarm) :
    (s.modAlarm k i f).alertLine = s.alertLine := rfl

@[simp] theorem State.modAlarm_alertsDue (s : State) (k : AlarmKind) (i : Nat) (f : Alarm → Alarm) :
    (s.modAlarm k i f).alertsDue = s.alertsDue := rfl

@[simp] theorem State.modAlarm_slotsMade (s : State) (k : AlarmKind) (i : Nat) (f : Alarm → Alarm) :
    (s.modAlarm k i f).slotsMade = s.slotsMade := rfl

/-! ### modPort -/

@[simp] theorem State.modPort_pending (s : State) (p : Port) (f : PortState → PortState) :
    (s.modPort p f).pending = s.pending := by cases p <;> rfl

@[simp] theorem State.modPort_now (s : State) (p : Port) (f : PortState → PortState) :
    (s.modPort p f).now = s.now := by cases p <;> rfl

@[simp] theorem State.modPort_straps (s : State) (p : Port) (f : PortState → PortState) :
    (s.modPort p f).straps = s.straps := by cases p <;> rfl

@[simp] theorem State.modPort_strapReads (s : State) (p : Port) (f : PortState → PortState) :
    (s.modPort p f).strapReads = s.strapReads := by cases p <;> rfl

@[simp] theorem State.modPort_address (s : State) (p : Port) (f : PortState → PortState) :
    (s.modPort p f).address = s.address := by cases p <;> rfl

@[simp] theorem State.modPort_replySlot (s : State) (p : Port) (f : PortState → PortState) :
    (s.modPort p f).replySlot = s.replySlot := by cases p <;> rfl

@[simp] theorem State.modPort_alertSlot (s : State) (p : Port) (f : PortState → PortState) :
    (s.modPort p f).alertSlot = s.alertSlot := by cases p <;> rfl

@[simp] theorem State.modPort_pointer (s : State) (p : Port) (f : PortState → PortState) :
    (s.modPort p f).pointer = s.pointer := by cases p <;> rfl

@[simp] theorem State.modPort_restartPending (s : State) (p : Port) (f : PortState → PortState) :
    (s.modPort p f).restartPending = s.restartPending := by cases p <;> rfl

@[simp] theorem State.modPort_channels (s : State) (p : Port) (f : PortState → PortState) :
    (s.modPort p f).channels = s.channels := by cases p <;> rfl

@[simp] theorem State.modPort_banks (s : State) (p : Port) (f : PortState → PortState) :
    (s.modPort p f).banks = s.banks := by cases p <;> rfl

@[simp] theorem State.modPort_lamps (s : State) (p : Port) (f : PortState → PortState) :
    (s.modPort p f).lamps = s.lamps := by cases p <;> rfl

@[simp] theorem State.modPort_points (s : State) (p : Port) (f : PortState → PortState) :
    (s.modPort p f).points = s.points := by cases p <;> rfl

@[simp] theorem State.modPort_priorities (s : State) (p : Port) (f : PortState → PortState) :
    (s.modPort p f).priorities = s.priorities := by cases p <;> rfl

@[simp] theorem State.modPort_threshold (s : State) (p : Port) (f : PortState → PortState) :
    (s.modPort p f).threshold = s.threshold := by cases p <;> rfl

@[simp] theorem State.modPort_alertDest (s : State) (p : Port) (f : PortState → PortState) :
    (s.modPort p f).alertDest = s.alertDest := by cases p <;> rfl

@[simp] theorem State.modPort_alarms (s : State) (p : Port) (f : PortState → PortState) :
    (s.modPort p f).alarms = s.alarms := by cases p <;> rfl

@[simp] theorem State.modPort_alertLine (s : State) (p : Port) (f : PortState → PortState) :
    (s.modPort p f).alertLine = s.alertLine := by cases p <;> rfl

@[simp] theorem State.modPort_alertsDue (s : State) (p : Port) (f : PortState → PortState) :
    (s.modPort p f).alertsDue = s.alertsDue := by cases p <;> rfl

@[simp] theorem State.modPort_slotsMade (s : State) (p : Port) (f : PortState → PortState) :
    (s.modPort p f).slotsMade = s.slotsMade := by cases p <;> rfl

@[simp] theorem State.modPort_port_self (s : State) (p : Port) (f : PortState → PortState) :
    (s.modPort p f).port p = f (s.port p) := by cases p <;> rfl

@[simp] theorem State.modPort_port_other (s : State) (p : Port) (f : PortState → PortState) :
    (s.modPort (otherPort p) f).port p = s.port p := by cases p <;> rfl

theorem State.modPort_port (s : State) (p q : Port) (f : PortState → PortState) :
    (s.modPort p f).port q = if q = p then f (s.port p) else s.port q := by
  cases p <;> cases q <;> rfl

/-! ### Reading after an update -/

@[simp] theorem State.modChan_bank (s : State) (d : ChanId) (f : Channel → Channel) (b : BankId) :
    (s.modChan d f).bank b = s.bank b := rfl

@[simp] theorem State.modChan_lamp (s : State) (d : ChanId) (f : Channel → Channel) (l : LampId) :
    (s.modChan d f).lamp l = s.lamp l := rfl

@[simp] theorem State.modChan_point (s : State) (d : ChanId) (f : Channel → Channel) (p : PointId) :
    (s.modChan d f).point p = s.point p := rfl

@[simp] theorem State.modChan_port (s : State) (d : ChanId) (f : Channel → Channel) (p : Port) :
    (s.modChan d f).port p = s.port p := by cases p <;> rfl

@[simp] theorem State.modChan_alarm (s : State) (d : ChanId) (f : Channel → Channel) (kind : AlarmKind) (inst : Nat) :
    (s.modChan d f).alarm kind inst = s.alarm kind inst := rfl

@[simp] theorem State.modBank_chan (s : State) (d : BankId) (f : Bank → Bank) (c : ChanId) :
    (s.modBank d f).chan c = s.chan c := rfl

@[simp] theorem State.modBank_lamp (s : State) (d : BankId) (f : Bank → Bank) (l : LampId) :
    (s.modBank d f).lamp l = s.lamp l := rfl

@[simp] theorem State.modBank_point (s : State) (d : BankId) (f : Bank → Bank) (p : PointId) :
    (s.modBank d f).point p = s.point p := rfl

@[simp] theorem State.modBank_port (s : State) (d : BankId) (f : Bank → Bank) (p : Port) :
    (s.modBank d f).port p = s.port p := by cases p <;> rfl

@[simp] theorem State.modBank_alarm (s : State) (d : BankId) (f : Bank → Bank) (kind : AlarmKind) (inst : Nat) :
    (s.modBank d f).alarm kind inst = s.alarm kind inst := rfl

@[simp] theorem State.setLamp_chan (s : State) (m : LampId) (x : Option Lamp) (c : ChanId) :
    (s.setLamp m x).chan c = s.chan c := rfl

@[simp] theorem State.setLamp_bank (s : State) (m : LampId) (x : Option Lamp) (b : BankId) :
    (s.setLamp m x).bank b = s.bank b := rfl

@[simp] theorem State.setLamp_point (s : State) (m : LampId) (x : Option Lamp) (p : PointId) :
    (s.setLamp m x).point p = s.point p := rfl

@[simp] theorem State.setLamp_port (s : State) (m : LampId) (x : Option Lamp) (p : Port) :
    (s.setLamp m x).port p = s.port p := by cases p <;> rfl

@[simp] theorem State.setLamp_alarm (s : State) (m : LampId) (x : Option Lamp) (kind : AlarmKind) (inst : Nat) :
    (s.setLamp m x).alarm kind inst = s.alarm kind inst := rfl

@[simp] theorem State.modLamp_chan (s : State) (m : LampId) (f : Lamp → Lamp) (c : ChanId) :
    (s.modLamp m f).chan c = s.chan c := rfl

@[simp] theorem State.modLamp_bank (s : State) (m : LampId) (f : Lamp → Lamp) (b : BankId) :
    (s.modLamp m f).bank b = s.bank b := rfl

@[simp] theorem State.modLamp_point (s : State) (m : LampId) (f : Lamp → Lamp) (p : PointId) :
    (s.modLamp m f).point p = s.point p := rfl

@[simp] theorem State.modLamp_port (s : State) (m : LampId) (f : Lamp → Lamp) (p : Port) :
    (s.modLamp m f).port p = s.port p := by cases p <;> rfl

@[simp] theorem State.modLamp_alarm (s : State) (m : LampId) (f : Lamp → Lamp) (kind : AlarmKind) (inst : Nat) :
    (s.modLamp m f).alarm kind inst = s.alarm kind inst := rfl

@[simp] theorem State.setPoint_chan (s : State) (q : PointId) (x : Option Point) (c : ChanId) :
    (s.setPoint q x).chan c = s.chan c := rfl

@[simp] theorem State.setPoint_bank (s : State) (q : PointId) (x : Option Point) (b : BankId) :
    (s.setPoint q x).bank b = s.bank b := rfl

@[simp] theorem State.setPoint_lamp (s : State) (q : PointId) (x : Option Point) (l : LampId) :
    (s.setPoint q x).lamp l = s.lamp l := rfl

@[simp] theorem State.setPoint_port (s : State) (q : PointId) (x : Option Point) (p : Port) :
    (s.setPoint q x).port p = s.port p := by cases p <;> rfl

@[simp] theorem State.setPoint_alarm (s : State) (q : PointId) (x : Option Point) (kind : AlarmKind) (inst : Nat) :
    (s.setPoint q x).alarm kind inst = s.alarm kind inst := rfl

@[simp] theorem State.modAlarm_chan (s : State) (k : AlarmKind) (i : Nat) (f : Alarm → Alarm) (c : ChanId) :
    (s.modAlarm k i f).chan c = s.chan c := rfl

@[simp] theorem State.modAlarm_bank (s : State) (k : AlarmKind) (i : Nat) (f : Alarm → Alarm) (b : BankId) :
    (s.modAlarm k i f).bank b = s.bank b := rfl

@[simp] theorem State.modAlarm_lamp (s : State) (k : AlarmKind) (i : Nat) (f : Alarm → Alarm) (l : LampId) :
    (s.modAlarm k i f).lamp l = s.lamp l := rfl

@[simp] theorem State.modAlarm_point (s : State) (k : AlarmKind) (i : Nat) (f : Alarm → Alarm) (p : PointId) :
    (s.modAlarm k i f).point p = s.point p := rfl

@[simp] theorem State.modAlarm_port (s : State) (k : AlarmKind) (i : Nat) (f : Alarm → Alarm) (p : Port) :
    (s.modAlarm k i f).port p = s.port p := by cases p <;> rfl

@[simp] theorem State.modPort_chan (s : State) (q : Port) (f : PortState → PortState) (c : ChanId) :
    (s.modPort q f).chan c = s.chan c := by cases q <;> rfl

@[simp] theorem State.modPort_bank (s : State) (q : Port) (f : PortState → PortState) (b : BankId) :
    (s.modPort q f).bank b = s.bank b := by cases q <;> rfl

@[simp] theorem State.modPort_lamp (s : State) (q : Port) (f : PortState → PortState) (l : LampId) :
    (s.modPort q f).lamp l = s.lamp l := by cases q <;> rfl

@[simp] theorem State.modPort_point (s : State) (q : Port) (f : PortState → PortState) (p : PointId) :
    (s.modPort q f).point p = s.point p := by cases q <;> rfl

@[simp] theorem State.modPort_alarm (s : State) (q : Port) (f : PortState → PortState) (kind : AlarmKind) (inst : Nat) :
    (s.modPort q f).alarm kind inst = s.alarm kind inst := by cases q <;> rfl

@[simp] theorem State.modChan_chan_self (s : State) (c : ChanId) (f : Channel → Channel) :
    (s.modChan c f).chan c = f (s.chan c) := by
  simp [State.modChan, State.chan]

theorem State.modChan_chan (s : State) (c d : ChanId) (f : Channel → Channel) :
    (s.modChan c f).chan d = if d = c then f (s.chan c) else s.chan d := by
  simp [State.modChan, State.chan, put_get]

@[simp] theorem State.modBank_bank_self (s : State) (b : BankId) (f : Bank → Bank) :
    (s.modBank b f).bank b = f (s.bank b) := by
  simp [State.modBank, State.bank]

theorem State.modBank_bank (s : State) (b c : BankId) (f : Bank → Bank) :
    (s.modBank b f).bank c = if c = b then f (s.bank b) else s.bank c := by
  simp [State.modBank, State.bank, put_get]

@[simp] theorem State.setLamp_lamp_self (s : State) (l : LampId) (x : Option Lamp) :
    (s.setLamp l x).lamp l = x := by
  simp [State.setLamp, State.lamp]

theorem State.setLamp_lamp (s : State) (l m : LampId) (x : Option Lamp) :
    (s.setLamp l x).lamp m = if m = l then x else s.lamp m := by
  simp [State.setLamp, State.lamp, put_get]

@[simp] theorem State.modLamp_lamp_self (s : State) (l : LampId) (f : Lamp → Lamp) :
    (s.modLamp l f).lamp l = (s.lamp l).map f := by
  simp [State.modLamp]

theorem State.modLamp_lamp (s : State) (l m : LampId) (f : Lamp → Lamp) :
    (s.modLamp l f).lamp m = if m = l then (s.lamp l).map f else s.lamp m := by
  simp [State.modLamp, State.setLamp_lamp]

@[simp] theorem State.setPoint_point_self (s : State) (p : PointId) (x : Option Point) :
    (s.setPoint p x).point p = x := by
  simp [State.setPoint, State.point]

theorem State.setPoint_point (s : State) (p q : PointId) (x : Option Point) :
    (s.setPoint p x).point q = if q = p then x else s.point q := by
  simp [State.setPoint, State.point, put_get]

@[simp] theorem State.modAlarm_alarm_self (s : State) (k : AlarmKind) (i : Nat) (f : Alarm → Alarm) :
    (s.modAlarm k i f).alarm k i = f (s.alarm k i) := by
  simp [State.modAlarm, State.alarm]

theorem State.modAlarm_get (s : State) (k : AlarmKind) (i : Nat) (f : Alarm → Alarm) (q : Fin 118) :
    (s.modAlarm k i f).alarms.get q = if q = alarmSlot k i then f (s.alarm k i) else s.alarms.get q := by
  simp [State.modAlarm, put_get]

@[simp] theorem State.modAlarm_priority (s : State) (k m : AlarmKind) (i : Nat) (f : Alarm → Alarm) :
    (s.modAlarm k i f).priority m = s.priority m := rfl

/-! ### Updates that change nothing, and updates twice -/

@[simp] theorem State.modChan_id (s : State) (c : ChanId) : s.modChan c (fun x => x) = s := by
  simp [State.modChan, State.chan]

@[simp] theorem State.modBank_id (s : State) (b : BankId) : s.modBank b (fun x => x) = s := by
  simp [State.modBank, State.bank]

@[simp] theorem State.setLamp_same (s : State) (l : LampId) : s.setLamp l (s.lamp l) = s := by
  simp [State.setLamp, State.lamp]

@[simp] theorem State.setPoint_same (s : State) (p : PointId) : s.setPoint p (s.point p) = s := by
  simp [State.setPoint, State.point]

@[simp] theorem State.modChan_modChan (s : State) (c : ChanId) (f g : Channel → Channel) :
    (s.modChan c f).modChan c g = s.modChan c (fun x => g (f x)) := by
  simp [State.modChan, State.chan]

@[simp] theorem State.modBank_modBank (s : State) (b : BankId) (f g : Bank → Bank) :
    (s.modBank b f).modBank b g = s.modBank b (fun x => g (f x)) := by
  simp [State.modBank, State.bank]

@[simp] theorem State.setLamp_setLamp (s : State) (l : LampId) (x y : Option Lamp) :
    (s.setLamp l x).setLamp l y = s.setLamp l y := by
  simp [State.setLamp]

@[simp] theorem State.setPoint_setPoint (s : State) (p : PointId) (x y : Option Point) :
    (s.setPoint p x).setPoint p y = s.setPoint p y := by
  simp [State.setPoint]

end Sys2Proof.Machine
end

