-- ==== Sys2Proof/Laws/Ops.lean ====
section
/-! SUPPORT. What the shared operations can do, said once each: the alarm unit's operations, the outgoing queues, the
slots of own frames, the end of an event, and how a request that is consumed is answered. -/

namespace Sys2Proof.Machine

/-! ### Repetition -/

@[simp] theorem forEach_nil {α : Type} (f : α → State → State) (s : State) : forEach [] f s = s := rfl

@[simp] theorem forEach_cons {α : Type} (x : α) (l : List α) (f : α → State → State) (s : State) :
    forEach (x :: l) f s = forEach l f (f x s) := rfl

/-- A relation that is reflexive and transitive and holds of each turn holds of the whole repetition. -/
theorem forEach_relates {α : Type} {R : State → State → Prop} (refl : ∀ s, R s s)
    (trans : ∀ {s t u}, R s t → R t u → R s u) {f : α → State → State} {l : List α}
    (turn : ∀ x ∈ l, ∀ s, R s (f x s)) (s : State) : R s (forEach l f s) := by
  induction l generalizing s with
  | nil => exact refl s
  | cons x l ih =>
    exact trans (turn x (by simp) s) (ih (fun y hy => turn y (by simp [hy])) (f x s))

/-- What holds before and is kept by each turn holds after the whole repetition. -/
theorem forEach_keeps {α : Type} {P : State → Prop} {f : α → State → State} {l : List α}
    (turn : ∀ x ∈ l, ∀ s, P s → P (f x s)) {s : State} (h : P s) : P (forEach l f s) := by
  induction l generalizing s with
  | nil => exact h
  | cons x l ih => exact ih (fun y hy => turn y (by simp [hy])) (turn x (by simp) s h)

/-! ### The alarm unit -/

/-- `t` is `s` but for the alarm instances, the ALERT line and the notes of ALERT frames to make. -/
def State.alarmUnitOnly (s t : State) : Prop :=
  ∃ a l d, t = { s with alarms := a, alertLine := l, alertsDue := d }

theorem State.alarmUnitOnly.refl (s : State) : s.alarmUnitOnly s := ⟨_, _, _, rfl⟩

theorem State.alarmUnitOnly.trans {s t u : State} (h : s.alarmUnitOnly t) (g : t.alarmUnitOnly u) :
    s.alarmUnitOnly u := by
  obtain ⟨_, _, _, rfl⟩ := h
  obtain ⟨a, l, d, rfl⟩ := g
  exact ⟨a, l, d, rfl⟩

theorem judgeLine_alarmUnitOnly (s : State) : s.alarmUnitOnly (judgeLine s) := ⟨_, _, _, rfl⟩

theorem noteAlert_alarmUnitOnly (k : AlarmKind) (i : Nat) (s : State) : s.alarmUnitOnly (noteAlert k i s) := by
  unfold noteAlert
  split
  · exact ⟨_, _, _, rfl⟩
  · exact .refl s

theorem modAlarm_alarmUnitOnly (k : AlarmKind) (i : Nat) (f : Alarm → Alarm) (s : State) :
    s.alarmUnitOnly (s.modAlarm k i f) := ⟨_, _, _, rfl⟩

theorem enterPending_alarmUnitOnly (k : AlarmKind) (i : Nat) (s : State) : s.alarmUnitOnly (enterPending k i s) :=
  (modAlarm_alarmUnitOnly k i _ s).trans ((noteAlert_alarmUnitOnly k i _).trans (judgeLine_alarmUnitOnly _))

theorem leavePending_alarmUnitOnly (k : AlarmKind) (i : Nat) (st : AlarmState) (s : State) :
    s.alarmUnitOnly (leavePending k i st s) :=
  (modAlarm_alarmUnitOnly k i _ s).trans (judgeLine_alarmUnitOnly _)

theorem raise_alarmUnitOnly (k : AlarmKind) (i : Nat) (s : State) : s.alarmUnitOnly (raise k i s) := by
  unfold raise
  split
  · exact .refl s
  · split
    · exact enterPending_alarmUnitOnly k i s
    · exact .refl s
    · exact leavePending_alarmUnitOnly k i _ s
    · exact .refl s

theorem beginCondition_alarmUnitOnly (k : AlarmKind) (i : Nat) (s : State) :
    s.alarmUnitOnly (beginCondition k i s) := by
  unfold beginCondition
  dsimp only
  split
  · exact (modAlarm_alarmUnitOnly k i _ s).trans (enterPending_alarmUnitOnly k i _)
  · exact modAlarm_alarmUnitOnly k i _ s

theorem ceaseCondition_alarmUnitOnly (k : AlarmKind) (i : Nat) (s : State) :
    s.alarmUnitOnly (ceaseCondition k i s) := by
  unfold ceaseCondition
  dsimp only
  split
  · exact (modAlarm_alarmUnitOnly k i _ s).trans (leavePending_alarmUnitOnly k i _ _)
  · exact modAlarm_alarmUnitOnly k i _ s

theorem report_alarmUnitOnly (k : AlarmKind) (i : Nat) (holds : Bool) (s : State) :
    s.alarmUnitOnly (report k i holds s) := by
  unfold report
  split
  · exact .refl s
  · split
    · exact beginCondition_alarmUnitOnly k i s
    · exact ceaseCondition_alarmUnitOnly k i s

/-! What the operations do to the instances. -/

@[simp] theorem judgeLine_alarms (s : State) : (judgeLine s).alarms = s.alarms := rfl

@[simp] theorem noteAlert_alarms (k : AlarmKind) (i : Nat) (s : State) : (noteAlert k i s).alarms = s.alarms := by
  unfold noteAlert
  split <;> rfl

@[simp] theorem enterPending_alarms (k : AlarmKind) (i : Nat) (s : State) :
    (enterPending k i s).alarms = put s.alarms (alarmSlot k i) { s.alarm k i with state := .pending } := by
  simp [enterPending, State.modAlarm]

@[simp] theorem leavePending_alarms (k : AlarmKind) (i : Nat) (st : AlarmState) (s : State) :
    (leavePending k i st s).alarms = put s.alarms (alarmSlot k i) { s.alarm k i with state := st } := by
  simp [leavePending, State.modAlarm]

/-- A latched event leaves every other instance alone and moves its own as `AlarmState.raised` says, unless its kind has
priority 0 (10, R169). -/
theorem raise_raisedOnly (k : AlarmKind) (i : Nat) (s : State) : s.raisedOnly (raise k i s) k i := by
  unfold State.raisedOnly raise
  by_cases h : s.priority k = 0
  · simp [h]
  · cases hs : (s.alarm k i).state <;>
      simp_all [State.alarm, AlarmState.raised]

/-- After a report the cause-holds flag is what was reported (10, R170). -/
@[simp] theorem report_cause (k : AlarmKind) (i : Nat) (holds : Bool) (s : State) :
    ((report k i holds s).alarm k i).cause = holds := by
  unfold report
  split
  · next h => simp [h, State.holds]
  · split
    · next h =>
      unfold beginCondition
      dsimp only
      split <;> simp [State.alarm, State.modAlarm, h]
    · next h =>
      unfold ceaseCondition
      dsimp only
      split <;> simp_all [State.alarm, State.modAlarm]

/-- A report moves no other instance. -/
theorem report_alarms_ne (k : AlarmKind) (i : Nat) (holds : Bool) (s : State) {q : Fin 118} (hq : q ≠ alarmSlot k i) :
    (report k i holds s).alarms.get q = s.alarms.get q := by
  unfold report
  split
  · rfl
  · split
    · unfold beginCondition
      dsimp only
      split <;> simp [State.modAlarm, hq]
    · unfold ceaseCondition
      dsimp only
      split <;> simp [State.modAlarm, hq]

/-- A condition reported as it stands moves nothing (10, R168). -/
theorem report_same (k : AlarmKind) (i : Nat) (s : State) : report k i (s.holds k i) s = s := by
  simp [report]

/-! ### Queues and slots -/

/-- A frame that enters a queue only lengthens it at the tail. -/
theorem pushFrame_port (p q : Port) (f : QFrame) (s : State) :
    (pushFrame p f s).port q = if q = p then { s.port p with queue := (s.port p).queue ++ [f] } else s.port q := by
  simp [pushFrame, State.modPort_port]

/-- A frame forwarded with room in the other port's queue enters it, and nothing else changes (08, R143). -/
theorem forwardFrame_room (p : Port) (f : Frame) (s : State) (h : (s.port (otherPort p)).queue.length < 16) :
    forwardFrame p f s =
      s.modPort (otherPort p) fun ps => { ps with queue := ps.queue ++ [⟨f, false, false⟩] } := by
  simp [forwardFrame, Config.queueFrames, h, pushFrame]

/-- A frame forwarded to a full queue is lost (08, R143). -/
theorem forwardFrame_full (p : Port) (f : Frame) (s : State) (h : 16 ≤ (s.port (otherPort p)).queue.length) :
    forwardFrame p f s = raise .transitOverrun (portNumber (otherPort p)) s := by
  simp [forwardFrame, Config.queueFrames, Nat.not_lt.mpr h]

theorem PortState.ownRoom_iff (p : PortState) : p.ownRoom = true ↔ p.queue.length < 16 ∧ p.ownCount < 8 := by
  unfold PortState.ownRoom Config.queueFrames Config.ownFrames
  rw [Bool.and_eq_true, decide_eq_true_iff, decide_eq_true_iff]

/-! ### The end of an event -/

theorem flushAlerts_none {s : State} (h : s.alertsDue = []) : flushAlerts s = s := by
  cases s
  simp_all [flushAlerts]

theorem flushSlots_none {s : State} (h : s.slotsMade = []) : flushSlots s = s := by
  cases s
  simp_all [flushSlots]

/-- An event that made no frame ends as it stands. -/
@[simp] theorem endEvent_atRest {s : State} (h : s.atRest) : endEvent s = s := by
  simp [endEvent, flushAlerts_none h.1, flushSlots_none h.2]

/-- `t` is `s` but for the queues, the alert slot, and the commands waiting in lamp and wiper slots. -/
def State.framesOnly (s t : State) : Prop :=
  ∃ n q a x b, t = { s with
    north := { s.north with queue := n }, south := { s.south with queue := q }, alertSlot := a, lamps := x, banks := b }

theorem State.framesOnly.refl (s : State) : s.framesOnly s := ⟨_, _, _, _, _, rfl⟩

theorem State.framesOnly.trans {s t u : State} (h : s.framesOnly t) (g : t.framesOnly u) : s.framesOnly u := by
  obtain ⟨_, _, _, _, _, rfl⟩ := h
  obtain ⟨n, q, a, x, b, rfl⟩ := g
  exact ⟨n, q, a, x, b, rfl⟩

theorem pushFrame_framesOnly (p : Port) (f : QFrame) (s : State) : s.framesOnly (pushFrame p f s) := by
  cases p <;> exact ⟨_, _, _, _, _, rfl⟩

theorem clearSlot_framesOnly (pos : SlotId) (s : State) : s.framesOnly (clearSlot pos s) := by
  unfold clearSlot
  split <;> exact ⟨_, _, _, _, _, rfl⟩

theorem enterSouth_framesOnly (pos : SlotId) (s : State) : s.framesOnly (enterSouth pos s) := by
  unfold enterSouth
  split
  · exact (pushFrame_framesOnly .south _ s).trans (clearSlot_framesOnly pos _)
  · exact .refl s

theorem tryDirect_framesOnly (pos : SlotId) (s : State) : s.framesOnly (tryDirect pos s) := by
  unfold tryDirect
  split
  · exact enterSouth_framesOnly pos s
  · exact .refl s

theorem makeAlert_framesOnly (n : AlertNote) (s : State) : s.framesOnly (makeAlert n s) := by
  unfold makeAlert
  split
  · dsimp only
    split
    · exact pushFrame_framesOnly .north _ s
    · exact ⟨_, _, _, _, _, rfl⟩
  · exact .refl s

/-- The end of an event moves frames and slots at most, and leaves no note (08, R144; 10, R175). -/
theorem endEvent_framesOnly (s : State) :
    ({ s with alertsDue := [], slotsMade := [] } : State).framesOnly (endEvent s) := by
  have h1 : ({ s with alertsDue := [] } : State).framesOnly (flushAlerts s) :=
    forEach_relates State.framesOnly.refl State.framesOnly.trans (fun n _ s => makeAlert_framesOnly n s) _
  have h2 : ({ flushAlerts s with slotsMade := [] } : State).framesOnly (flushSlots (flushAlerts s)) :=
    forEach_relates State.framesOnly.refl State.framesOnly.trans (fun q _ s => tryDirect_framesOnly q s) _
  obtain ⟨n, q, a, x, b, h⟩ := h1
  have h3 : ({ s with alertsDue := [], slotsMade := [] } : State).framesOnly
      { flushAlerts s with slotsMade := [] } := ⟨n, q, a, x, b, by rw [h]⟩
  exact h3.trans h2

/-- Between events nothing waits to be offered. -/
theorem endEvent_leavesRest (s : State) : (endEvent s).atRest := by
  obtain ⟨n, q, a, x, b, h⟩ := endEvent_framesOnly s
  rw [h]
  exact ⟨rfl, rfl⟩

theorem State.normal_repeater {s : State} (h : s.normal) : s.repeater = false := by
  obtain ⟨h1, h2⟩ := h
  simp [State.repeater, isRepeaterAddress]
  omega

/-- After an update that leaves the notes alone the state is still at rest. -/
theorem State.atRest.of_eq {s t : State} (h : s.atRest) (ha : t.alertsDue = s.alertsDue)
    (hs : t.slotsMade = s.slotsMade) : t.atRest :=
  ⟨ha.trans h.1, hs.trans h.2⟩

/-! ### Answers -/

/-- The reply is made as `withReply` says (08, R144, R147; 09, R150). -/
theorem sendReply_withReply (r : Sender) (kind : Byte) (restart : Bool) (a : Answer) (s : State)
    (h : s.repeater = false) : sendReply r kind restart a s = s.withReply r kind a.bytes restart := by
  unfold sendReply State.withReply State.directEntry
  simp only [h, Bool.not_false, Bool.true_and, PortState.ownRoom_iff]
  rfl

/-- A request row of a part that is ready: the request is handled, the event ends, and the answer is sent (09, R150,
R151). -/
theorem requestRow_ready (r : Sender) (req : Request) (h : State → State × Answer) {s : State} (hs : s.ready)
    (ha : (endEvent (h s).1).repeater = false) :
    requestRow r req h s =
      (endEvent (h s).1).withReply r req.kindByte (h s).2.bytes (req = .restart) := by
  obtain ⟨hn, hp, hr, _⟩ := hs
  simp [requestRow, State.normal_repeater hn, consume, hp, hr, sendReply_withReply, ha]

/-- A request row of a part that is ready whose handling changes nothing: its answer is sent. -/
theorem requestRow_unchanged (r : Sender) (req : Request) (h : State → State × Answer) {s : State} {a : Answer}
    (hs : s.ready) (hh : h s = (s, a)) :
    requestRow r req h s = s.withReply r req.kindByte a.bytes (req = .restart) := by
  have he : endEvent s = s := endEvent_atRest hs.2.2.2
  rw [requestRow_ready r req h hs] <;> simp [hh, he, State.normal_repeater hs.1]

/-- A request row of a part that is ready whose handling leaves the state at rest, the address kept. -/
theorem requestRow_handled (r : Sender) (req : Request) (h : State → State × Answer) {s t : State} {a : Answer}
    (hs : s.ready) (hh : h s = (t, a)) (ht : t.atRest) (haddr : t.address = s.address) :
    requestRow r req h s = t.withReply r req.kindByte a.bytes (req = .restart) := by
  have he : endEvent t = t := endEvent_atRest ht
  have hr : t.repeater = false := by
    have := State.normal_repeater hs.1
    simpa [State.repeater, haddr] using this
  rw [requestRow_ready r req h hs] <;> simp [hh, he, hr]

/-! ### References -/

@[simp] theorem indexOf_val {n : Nat} (i : Fin n) : indexOf n i.1 = some i := by
  simp [indexOf]

theorem indexOf_none {n b : Nat} (h : n ≤ b) : indexOf n b = none := by
  simp [indexOf, Nat.not_lt.mpr h]

@[simp] theorem byteOf_chan (c : ChanId) : (BitVec.ofNat 8 c.1).toNat = c.1 := by
  simp
  omega

@[simp] theorem byteOf_bank (b : BankId) : (BitVec.ofNat 8 b.1).toNat = b.1 := by
  simp
  omega

@[simp] theorem byteOf_lamp (l : LampId) : (BitVec.ofNat 8 l.1).toNat = l.1 := by
  simp
  omega

@[simp] theorem byteOf_point (p : PointId) : (BitVec.ofNat 8 p.1).toNat = p.1 := by
  simp
  omega

@[simp] theorem forChannel_ofNat (c : ChanId) (f : ChanId → State → State × Answer) (s : State) :
    forChannel (BitVec.ofNat 8 c.1) f s = f c s := by
  simp only [forChannel, byteOf_chan, indexOf_val]

@[simp] theorem forBank_ofNat (b : BankId) (f : BankId → State → State × Answer) (s : State) :
    forBank (BitVec.ofNat 8 b.1) f s = f b s := by
  simp only [forBank, byteOf_bank, indexOf_val]

theorem forChannel_none {b : Byte} (h : 4 ≤ b.toNat) (f : ChanId → State → State × Answer) (s : State) :
    forChannel b f s = refuse .badReference s := by
  simp only [forChannel, indexOf_none h]

theorem forBank_none {b : Byte} (h : 12 ≤ b.toNat) (f : BankId → State → State × Answer) (s : State) :
    forBank b f s = refuse .badReference s := by
  simp only [forBank, indexOf_none h]

/-- The IDENTIFY data leave room for tag, kind and outcome in a reply of 48 bytes (11, R183; log 6). -/
theorem identity_length_le (s : State) : s.identity.length ≤ 45 := by
  simp [State.identity, identifyRoom, bytes2]
  omega

end Sys2Proof.Machine
end

