-- ==== Sys2Proof/Laws/Frames.lean ====
section
/-! SUPPORT. What the operations of banks, staging and lamps leave unchanged. `stagingOnly`: at most channels, banks and
the alarm unit moved. `eventOnly`: at most those, the lamps, and the notes of slots filled. Every operation up to a
staging review is the former, every operation on lamps the latter. -/

namespace Sys2Proof.Machine

/-! ### The two frames -/

/-- `t` is `s` but for channels, banks and the alarm unit. -/
def State.stagingOnly (s t : State) : Prop :=
  ∃ c b a l d, t = { s with channels := c, banks := b, alarms := a, alertLine := l, alertsDue := d }

/-- `t` is `s` but for channels, banks, lamps, the alarm unit and the notes of slots filled. -/
def State.eventOnly (s t : State) : Prop :=
  ∃ c b x a l d m, t = { s with
    channels := c, banks := b, lamps := x, alarms := a, alertLine := l, alertsDue := d, slotsMade := m }

theorem State.stagingOnly.refl (s : State) : s.stagingOnly s := ⟨_, _, _, _, _, rfl⟩

theorem State.stagingOnly.trans {s t u : State} (h : s.stagingOnly t) (g : t.stagingOnly u) : s.stagingOnly u := by
  obtain ⟨_, _, _, _, _, rfl⟩ := h
  obtain ⟨c, b, a, l, d, rfl⟩ := g
  exact ⟨c, b, a, l, d, rfl⟩

theorem State.eventOnly.refl (s : State) : s.eventOnly s := ⟨_, _, _, _, _, _, _, rfl⟩

theorem State.eventOnly.trans {s t u : State} (h : s.eventOnly t) (g : t.eventOnly u) : s.eventOnly u := by
  obtain ⟨_, _, _, _, _, _, _, rfl⟩ := h
  obtain ⟨c, b, x, a, l, d, m, rfl⟩ := g
  exact ⟨c, b, x, a, l, d, m, rfl⟩

theorem State.alarmUnitOnly.staging {s t : State} (h : s.alarmUnitOnly t) : s.stagingOnly t := by
  obtain ⟨a, l, d, rfl⟩ := h
  exact ⟨_, _, a, l, d, rfl⟩

theorem State.stagingOnly.event {s t : State} (h : s.stagingOnly t) : s.eventOnly t := by
  obtain ⟨c, b, a, l, d, rfl⟩ := h
  exact ⟨c, b, _, a, l, d, _, rfl⟩

theorem State.alarmUnitOnly.event {s t : State} (h : s.alarmUnitOnly t) : s.eventOnly t :=
  h.staging.event

theorem modChan_stagingOnly (c : ChanId) (f : Channel → Channel) (s : State) : s.stagingOnly (s.modChan c f) :=
  ⟨_, _, _, _, _, rfl⟩

theorem modBank_stagingOnly (b : BankId) (f : Bank → Bank) (s : State) : s.stagingOnly (s.modBank b f) :=
  ⟨_, _, _, _, _, rfl⟩

theorem setLamp_eventOnly (l : LampId) (x : Option Lamp) (s : State) : s.eventOnly (s.setLamp l x) :=
  ⟨_, _, _, _, _, _, _, rfl⟩

theorem modLamp_eventOnly (l : LampId) (f : Lamp → Lamp) (s : State) : s.eventOnly (s.modLamp l f) :=
  ⟨_, _, _, _, _, _, _, rfl⟩

theorem forEach_stagingOnly {α : Type} {f : α → State → State} {l : List α}
    (turn : ∀ x ∈ l, ∀ s : State, s.stagingOnly (f x s)) (s : State) : s.stagingOnly (forEach l f s) :=
  forEach_relates State.stagingOnly.refl State.stagingOnly.trans turn s

theorem forEach_eventOnly {α : Type} {f : α → State → State} {l : List α}
    (turn : ∀ x ∈ l, ∀ s : State, s.eventOnly (f x s)) (s : State) : s.eventOnly (forEach l f s) :=
  forEach_relates State.eventOnly.refl State.eventOnly.trans turn s

/-! ### Conditions -/

theorem judgeFlowStale_alarmUnitOnly (ch : ChanId) (s : State) : s.alarmUnitOnly (judgeFlowStale ch s) :=
  report_alarmUnitOnly _ _ _ s

theorem judgeUvtStale_alarmUnitOnly (ch : ChanId) (s : State) : s.alarmUnitOnly (judgeUvtStale ch s) :=
  report_alarmUnitOnly _ _ _ s

theorem judgeIntensityStale_alarmUnitOnly (b : BankId) (s : State) : s.alarmUnitOnly (judgeIntensityStale b s) :=
  report_alarmUnitOnly _ _ _ s

theorem judgeBankFault_alarmUnitOnly (b : BankId) (s : State) : s.alarmUnitOnly (judgeBankFault b s) :=
  report_alarmUnitOnly _ _ _ s

theorem judgeBank_alarmUnitOnly (b : BankId) (s : State) : s.alarmUnitOnly (judgeBank b s) :=
  (judgeBankFault_alarmUnitOnly b s).trans (judgeIntensityStale_alarmUnitOnly b _)

theorem judgeChannel_alarmUnitOnly (ch : ChanId) (s : State) : s.alarmUnitOnly (judgeChannel ch s) :=
  ((judgeFlowStale_alarmUnitOnly ch s).trans (judgeUvtStale_alarmUnitOnly ch _)).trans
    (forEach_relates State.alarmUnitOnly.refl State.alarmUnitOnly.trans
      (fun b _ s => judgeBank_alarmUnitOnly b s) _)

theorem judgeSag_alarmUnitOnly (b : BankId) (s : State) : s.alarmUnitOnly (judgeSag b s) :=
  report_alarmUnitOnly _ _ _ s

/-! ### Programs and bank states -/

theorem startProgram_stagingOnly (b : BankId) (k : ProgKind) (s : State) : s.stagingOnly (startProgram b k s) :=
  modBank_stagingOnly b _ s

theorem startInterval_stagingOnly (b : BankId) (s : State) : s.stagingOnly (startInterval b s) :=
  modBank_stagingOnly b _ s

theorem startWipe_stagingOnly (b : BankId) (s : State) : s.stagingOnly (startWipe b s) := by
  unfold startWipe
  dsimp only
  split
  · exact (startProgram_stagingOnly b .wipe s).trans (startInterval_stagingOnly b _)
  · exact startProgram_stagingOnly b .wipe s

theorem forcedWipe_stagingOnly (b : BankId) (s : State) : s.stagingOnly (forcedWipe b s) := by
  unfold forcedWipe
  split
  · exact startWipe_stagingOnly b s
  · exact .refl s

theorem judgeOutputLow_stagingOnly (b : BankId) (s : State) : s.stagingOnly (judgeOutputLow b s) := by
  unfold judgeOutputLow
  dsimp only
  split
  · exact (report_alarmUnitOnly _ _ _ s).staging.trans (forcedWipe_stagingOnly b _)
  · exact (report_alarmUnitOnly _ _ _ s).staging

theorem setBankState_stagingOnly (b : BankId) (st : BankState) (s : State) : s.stagingOnly (setBankState b st s) := by
  unfold setBankState
  dsimp only
  split
  · exact .refl s
  · refine .trans ?_ (judgeBank_alarmUnitOnly b _).staging
    split
    · exact ((modBank_stagingOnly b _ s).trans (judgeSag_alarmUnitOnly b _).staging).trans
        (report_alarmUnitOnly _ _ _ _).staging
    · exact modBank_stagingOnly b _ s

theorem unlist_stagingOnly (b : BankId) (s : State) : s.stagingOnly (unlist b s) := by
  unfold unlist
  split
  · exact modChan_stagingOnly _ _ s
  · exact .refl s

theorem enlist_stagingOnly (ch : ChanId) (b : BankId) (s : State) : s.stagingOnly (enlist ch b s) :=
  modChan_stagingOnly ch _ s

theorem enterWarming_stagingOnly (b : BankId) (s : State) : s.stagingOnly (enterWarming b s) :=
  (setBankState_stagingOnly b .warming s).trans (modBank_stagingOnly b _ _)

theorem enterRun_stagingOnly (b : BankId) (s : State) : s.stagingOnly (enterRun b s) :=
  ((setBankState_stagingOnly b .run s).trans (modBank_stagingOnly b _ _)).trans (startInterval_stagingOnly b _)

theorem enterQuenching_stagingOnly (b : BankId) (s : State) : s.stagingOnly (enterQuenching b s) :=
  (((setBankState_stagingOnly b .quenching s).trans (modBank_stagingOnly b _ _)).trans
    (unlist_stagingOnly b _)).trans (startProgram_stagingOnly b .quench _)

theorem enterDark_stagingOnly (b : BankId) (s : State) : s.stagingOnly (enterDark b s) :=
  (setBankState_stagingOnly b .dark s).trans (modBank_stagingOnly b _ _)

theorem darkenBank_stagingOnly (b : BankId) (s : State) : s.stagingOnly (darkenBank b s) := by
  unfold darkenBank
  split
  · exact .refl s
  · exact (setBankState_stagingOnly b .dark s).trans (modBank_stagingOnly b _ _)

/-! ### Staging -/

theorem zeroCounters_stagingOnly (ch : ChanId) (s : State) : s.stagingOnly (zeroCounters ch s) :=
  modChan_stagingOnly ch _ s

theorem stageUp_stagingOnly (ch : ChanId) (s : State) : s.stagingOnly (stageUp ch s) := by
  unfold stageUp
  split
  · exact .refl s
  · next b _ =>
    exact ((((setBankState_stagingOnly b .striking s).trans (modBank_stagingOnly b _ _)).trans
      (enlist_stagingOnly ch b _)).trans (startProgram_stagingOnly b .strike _)).trans
      (report_alarmUnitOnly _ _ _ _).staging

theorem stageDown_stagingOnly (ch : ChanId) (s : State) : s.stagingOnly (stageDown ch s) := by
  unfold stageDown
  split
  · exact .refl s
  · exact enterQuenching_stagingOnly _ s

theorem servePending_stagingOnly (ch : ChanId) (n : Nat) (s : State) : s.stagingOnly (servePending ch n s) := by
  induction n generalizing s with
  | zero => exact .refl s
  | succ n ih =>
    unfold servePending
    split
    · exact (((stageUp_stagingOnly ch s).trans (modChan_stagingOnly ch _ _)).trans
        (zeroCounters_stagingOnly ch _)).trans (ih _)
    · exact .refl s

theorem stageUpIf_stagingOnly (ch : ChanId) (called : Bool) (s : State) : s.stagingOnly (stageUpIf ch called s) := by
  unfold stageUpIf
  split
  · exact (stageUp_stagingOnly ch s).trans (zeroCounters_stagingOnly ch _)
  · exact .refl s

theorem autoSteps_stagingOnly (ch : ChanId) (s : State) : s.stagingOnly (autoSteps ch s) := by
  unfold autoSteps
  dsimp only
  split
  · exact (((((servePending_stagingOnly ch 12 s).trans (stageUpIf_stagingOnly ch _ _)).trans
      (stageUpIf_stagingOnly ch _ _)).trans (modChan_stagingOnly ch _ _)).trans (stageDown_stagingOnly ch _)).trans
      (zeroCounters_stagingOnly ch _)
  · exact ((servePending_stagingOnly ch 12 s).trans (stageUpIf_stagingOnly ch _ _)).trans
      (stageUpIf_stagingOnly ch _ _)

theorem manualSteps_stagingOnly (ch : ChanId) (s : State) : s.stagingOnly (manualSteps ch s) := by
  unfold manualSteps
  dsimp only
  split
  · split
    · exact stageUp_stagingOnly ch s
    · exact .refl s
  · split
    · exact stageDown_stagingOnly ch s
    · exact .refl s

/-- A staging review moves channels, banks and the alarm unit at most: no lamp, no frame, no table of points. -/
theorem review_stagingOnly (ch : ChanId) (s : State) : s.stagingOnly (review ch s) := by
  unfold review
  split
  · exact .refl s
  · split
    · exact (autoSteps_stagingOnly ch s).trans (report_alarmUnitOnly _ _ _ _).staging
    · exact (manualSteps_stagingOnly ch s).trans (report_alarmUnitOnly _ _ _ _).staging
    · refine .trans ?_ (report_alarmUnitOnly _ _ _ _).staging
      split
      · exact stageUp_stagingOnly ch s
      · exact .refl s
    · exact (forEach_stagingOnly (fun b _ s => enterQuenching_stagingOnly b s) s).trans
        (report_alarmUnitOnly _ _ _ _).staging
    · exact .refl s
    · exact .refl s

theorem reviewOwner_stagingOnly (b : BankId) (s : State) : s.stagingOnly (reviewOwner b s) := by
  unfold reviewOwner
  split
  · exact review_stagingOnly _ s
  · exact .refl s

theorem requestStageUp_stagingOnly (ch : ChanId) (s : State) : s.stagingOnly (requestStageUp ch s) := by
  unfold requestStageUp
  split
  · exact (modChan_stagingOnly ch _ s).trans (review_stagingOnly ch _)
  · exact .refl s

theorem requestForBank_stagingOnly (b : BankId) (s : State) : s.stagingOnly (requestForBank b s) := by
  unfold requestForBank
  split
  · exact requestStageUp_stagingOnly _ s
  · exact .refl s

theorem runBank_stagingOnly (b : BankId) (s : State) : s.stagingOnly (runBank b s) :=
  (enterRun_stagingOnly b s).trans (reviewOwner_stagingOnly b _)

theorem darkBank_stagingOnly (b : BankId) (s : State) : s.stagingOnly (darkBank b s) :=
  (enterDark_stagingOnly b s).trans (reviewOwner_stagingOnly b _)

theorem recheckFaulted_stagingOnly (b : BankId) (s : State) : s.stagingOnly (recheckFaulted b s) := by
  unfold recheckFaulted
  split
  · exact darkBank_stagingOnly b s
  · exact .refl s

theorem unlockBank_stagingOnly (b : BankId) (s : State) : s.stagingOnly (unlockBank b s) := by
  unfold unlockBank
  split
  · exact darkBank_stagingOnly b s
  · exact .refl s

/-! ### Lamps -/

theorem placeLamp_eventOnly (l : LampId) (c : LampCmd) (s : State) : s.eventOnly (placeLamp l c s) := by
  unfold placeLamp
  split
  · exact .refl s
  · dsimp only
    split
    · exact ⟨_, _, _, _, _, _, _, rfl⟩
    · exact modLamp_eventOnly l _ s

theorem strikePath_eventOnly (l : LampId) (s : State) : s.eventOnly (strikePath l s) := by
  unfold strikePath
  split
  · exact (modLamp_eventOnly l _ s).trans (placeLamp_eventOnly l _ _)
  · exact .refl s

theorem putOutLit_eventOnly (l : LampId) (s : State) : s.eventOnly (putOutLit l s) :=
  (modLamp_eventOnly l _ s).trans (placeLamp_eventOnly l .quench _)

theorem actUnwanted_eventOnly (l : LampId) (s : State) : s.eventOnly (actUnwanted l s) := by
  unfold actUnwanted
  split
  · exact .refl s
  · split
    · exact (modLamp_eventOnly l _ s).trans (placeLamp_eventOnly l .quench _)
    · exact putOutLit_eventOnly l s
    · exact modLamp_eventOnly l _ s
    · exact modLamp_eventOnly l _ s
    · exact .refl s
    · exact .refl s

theorem setWanted_eventOnly (w : Bool) (l : LampId) (s : State) : s.eventOnly (setWanted w l s) := by
  unfold setWanted
  split
  · exact .refl s
  · dsimp only
    split
    · exact .refl s
    · split
      · exact modLamp_eventOnly l _ s
      · split
        · split
          · exact (modLamp_eventOnly l _ s).trans (strikePath_eventOnly l _)
          · exact modLamp_eventOnly l _ s
        · exact (modLamp_eventOnly l _ s).trans (actUnwanted_eventOnly l _)

theorem wantAll_eventOnly (w : Bool) (b : BankId) (s : State) : s.eventOnly (wantAll w b s) :=
  forEach_eventOnly (fun l _ s => setWanted_eventOnly w l s) s

theorem applyLampSet_eventOnly (b : BankId) (m : Byte) (s : State) : s.eventOnly (applyLampSet b m s) := by
  refine forEach_eventOnly (fun l _ s => ?_) s
  split
  · exact setWanted_eventOnly _ l s
  · exact .refl s

theorem enterDead_eventOnly (l : LampId) (s : State) : s.eventOnly (enterDead l s) := by
  unfold enterDead
  split
  · exact .refl s
  · exact ((modLamp_eventOnly l _ s).trans (placeLamp_eventOnly l .quench _)).trans (raise_alarmUnitOnly _ _ _).event

theorem strikeFailure_eventOnly (l : LampId) (s : State) : s.eventOnly (strikeFailure l s) := by
  unfold strikeFailure
  split
  · exact .refl s
  · dsimp only
    split
    · exact (modLamp_eventOnly l _ s).trans (placeLamp_eventOnly l .quench _)
    · split
      · exact (modLamp_eventOnly l _ s).trans (placeLamp_eventOnly l .quench _)
      · exact (modLamp_eventOnly l _ s).trans (enterDead_eventOnly l _)

theorem dropoutLamp_eventOnly (l : LampId) (s : State) : s.eventOnly (dropoutLamp l s) := by
  unfold dropoutLamp
  split
  · exact .refl s
  · dsimp only
    split
    · exact (modLamp_eventOnly l _ s).trans (enterDead_eventOnly l _)
    · exact (modLamp_eventOnly l _ s).trans (placeLamp_eventOnly l .quench _)

theorem overtempOut_eventOnly (l : LampId) (s : State) : s.eventOnly (overtempOut l s) :=
  (modLamp_eventOnly l _ s).trans (placeLamp_eventOnly l .quench _)

theorem becomeLit_eventOnly (a : Bool) (l : LampId) (s : State) : s.eventOnly (becomeLit a l s) :=
  modLamp_eventOnly l _ s

/-! ### Banks with lamps -/

theorem enterFaulted_eventOnly (b : BankId) (s : State) : s.eventOnly (enterFaulted b s) :=
  ((((setBankState_stagingOnly b .faulted s).trans (modBank_stagingOnly b _ _)).event.trans
    (wantAll_eventOnly false b _)).trans (unlist_stagingOnly b _).event).trans (modBank_stagingOnly b _ _).event

theorem enterLocked_eventOnly (b : BankId) (s : State) : s.eventOnly (enterLocked b s) :=
  (((setBankState_stagingOnly b .locked s).trans (modBank_stagingOnly b _ _)).event.trans
    (wantAll_eventOnly false b _)).trans (unlist_stagingOnly b _).event

theorem faultBank_eventOnly (b : BankId) (s : State) : s.eventOnly (faultBank b s) := by
  unfold faultBank
  dsimp only
  refine (enterFaulted_eventOnly b s).trans (.trans ?_ (reviewOwner_stagingOnly b _).event)
  split
  · exact (requestForBank_stagingOnly b _).event
  · exact .refl _

theorem lockBank_eventOnly (b : BankId) (s : State) : s.eventOnly (lockBank b s) := by
  unfold lockBank
  split
  · exact .refl s
  · dsimp only
    refine (enterLocked_eventOnly b s).trans (.trans ?_ (reviewOwner_stagingOnly b _).event)
    split
    · exact (requestForBank_stagingOnly b _).event
    · exact .refl _

theorem adoptBank_eventOnly (ch : ChanId) (b : BankId) (s : State) : s.eventOnly (adoptBank ch b s) :=
  (((enterWarming_stagingOnly b s).trans (enlist_stagingOnly ch b _)).event.trans (wantAll_eventOnly true b _)).trans
    (review_stagingOnly ch _).event

theorem faultIfShort_eventOnly (b : BankId) (s : State) : s.eventOnly (faultIfShort b s) := by
  unfold faultIfShort
  split
  · exact faultBank_eventOnly b s
  · exact .refl s

theorem judgeBurning_eventOnly (b : BankId) (s : State) : s.eventOnly (judgeBurning b s) := by
  unfold judgeBurning
  split
  · exact faultIfShort_eventOnly b s
  · split
    · exact (runBank_stagingOnly b s).event
    · exact .refl s
  all_goals exact .refl s

theorem putOutChannel_eventOnly (ch : ChanId) (s : State) : s.eventOnly (putOutChannel ch s) := by
  unfold putOutChannel
  refine .trans (forEach_eventOnly (fun l _ s => ?_) s) (forEach_eventOnly (fun b _ out => ?_) _)
  · split
    · exact putOutLit_eventOnly l s
    · exact .refl s
  · split
    · exact .refl out
    · exact judgeBurning_eventOnly b out

/-- What a change of lit count can move (07, R117): never a point, a queue or a device setting. -/
theorem judgeLit_eventOnly (b : BankId) (s : State) : s.eventOnly (judgeLit b s) := by
  unfold judgeLit
  split
  · exact .refl s
  · split
    · exact .refl s
    · split
      · split
        · exact putOutChannel_eventOnly _ s
        · exact adoptBank_eventOnly _ b s
      · exact judgeBurning_eventOnly b s

theorem adoptLamp_eventOnly (l : LampId) (b : BankId) (s : State) : s.eventOnly (adoptLamp l b s) := by
  unfold adoptLamp
  dsimp only
  refine (becomeLit_eventOnly true l s).trans ?_
  split
  · split
    · exact putOutLit_eventOnly l _
    · exact judgeLit_eventOnly b _
  · exact judgeLit_eventOnly b _

theorem lampStatus_eventOnly (l : LampId) (st : LampStatus) (s : State) : s.eventOnly (lampStatus l st s) := by
  have acts : ∀ (x : Lamp) (s : State), s.eventOnly (statusActs l x st s) := by
    intro x s
    unfold statusActs
    split
    · unfold statusLit
      split
      · split
        · exact adoptLamp_eventOnly l _ s
        · exact placeLamp_eventOnly l _ s
      · exact (becomeLit_eventOnly false l s).trans (judgeLit_eventOnly _ _)
      · exact .refl s
      · split
        · exact .refl s
        · exact placeLamp_eventOnly l _ s
      · split
        · exact .refl s
        · exact placeLamp_eventOnly l _ s
      · exact placeLamp_eventOnly l _ s
    · unfold statusLost
      split
      · exact (dropoutLamp_eventOnly l s).trans (judgeLit_eventOnly _ _)
      · exact .refl s
    · split
      · exact strikeFailure_eventOnly l s
      · exact .refl s
    · unfold statusLost
      split
      · exact (dropoutLamp_eventOnly l s).trans (judgeLit_eventOnly _ _)
      · exact .refl s
    · unfold statusHot
      split
      · exact (overtempOut_eventOnly l s).trans (judgeLit_eventOnly _ _)
      · exact overtempOut_eventOnly l s
      all_goals exact modLamp_eventOnly l _ s
  unfold lampStatus
  split
  · exact .refl s
  · dsimp only
    split
    · split
      · exact ((modLamp_eventOnly l _ s).trans (acts _ _)).trans (strikePath_eventOnly l _)
      · exact (modLamp_eventOnly l _ s).trans (acts _ _)
    · exact modLamp_eventOnly l _ s

end Sys2Proof.Machine
end

