-- ==== Sys2Proof/Tests/Slice0.lean ====
section
/-! SUPPORT. The model's own tests: ill-formed commands, the byte layouts of chapter 11, worked figures of the manual,
and for each statement of Certificates/Slice0/Obligations.lean that has premises a state and operands that meet them. -/

namespace Sys2Proof.Tests

open Sys2Proof Sys2Proof.Machine

set_option Elab.async false

/-! ### WellFormed: each check refuses an ill-formed command -/

theorem test_wf_payload :
    (Instr.sampleFrame 1 2 (List.replicate 49 0)).wf = false ∧
    (Instr.lampStatusFrame 1 2 (List.replicate 49 0)).wf = false ∧
    (Instr.lampCmdFrame 1 2 (List.replicate 49 0)).wf = false ∧
    (Instr.wiperCmdFrame 1 2 (List.replicate 49 0)).wf = false := by decide

theorem test_wf_byte_settings :
    (Instr.writeChannelSetting ⟨.north, 5, 0⟩ 0 13 256).wf = false ∧
    (Instr.writeBankRecord ⟨.north, 5, 0⟩ 0 15 256).wf = false := by decide

theorem test_wf_program :
    (Instr.writeProgram ⟨.north, 5, 0⟩ 0 0 (List.replicate 7 ⟨0, none, 1, 2, 1⟩)).wf = false ∧
    (Instr.writeProgram ⟨.north, 5, 0⟩ 0 0 (List.replicate 8 ⟨0, some [8], 1, 2, 1⟩)).wf = false ∧
    (Instr.writeProgram ⟨.north, 5, 0⟩ 0 0 (List.replicate 8 ⟨65536, none, 1, 2, 1⟩)).wf = false := by
  decide +kernel

theorem test_wf_point_targets :
    (Instr.writePointEntry ⟨.north, 5, 0⟩ 0 ⟨1, 0, 1, [1, 0], 4096, 0, 0, 0, 100⟩).wf = false ∧
    (Instr.writePointEntry ⟨.north, 5, 0⟩ 0 ⟨1, 0, 0, [0, 1], 4096, 0, 0, 0, 100⟩).wf = false := by decide

theorem test_wf_modes_and_records :
    (Instr.setMode ⟨.north, 5, 0⟩ 0 6 0 0 0).wf = false ∧ (Instr.readState ⟨.north, 5, 0⟩ 9 [1]).wf = false ∧
    (Instr.readState ⟨.north, 5, 0⟩ 10 [0]).wf = false ∧ (Instr.readState ⟨.north, 5, 0⟩ 1 []).wf = false ∧
    (Instr.readState ⟨.north, 5, 0⟩ 0x55 []).wf = false ∧
    (Instr.readState ⟨.north, 5, 0⟩ 0x55 [1, 2]).wf = false := by decide

/-! ### Byte layouts (11) -/

/-- The check of the bytes 1 to 9 in ASCII is 0x29B1 (11, R181). -/
theorem test_frameCheck :
    frameCheck [0x31, 0x32, 0x33, 0x34, 0x35, 0x36, 0x37, 0x38, 0x39] = 0x29B1 := by decide +kernel

/-- A SAMPLE payload of one item, index 3, SUSPECT, raw 0x1234 (11, Tables 11-3 and 11-4). -/
theorem test_sample_payload :
    sampleItems [0x01, 0x13, 0x12, 0x34] = some [⟨3, .suspect, 0x1234⟩] ∧
    samplePayload [⟨3, .suspect, 0x1234⟩] = [0x01, 0x13, 0x12, 0x34] := by decide +kernel

/-- A SAMPLE whose length disagrees with its head is not well formed (11, R182). -/
theorem test_sample_length : sampleItems [0x02, 0x13, 0x12, 0x34] = none ∧ sampleItems [0x00] = none := by
  decide +kernel

/-- SET MODE of C2 to MANUAL, value 600, count 2, lease 300 s (11, Table 11-8). -/
theorem test_setMode_bytes :
    requestOf 0x06 [2, 2, 0x02, 0x58, 2, 0x01, 0x2C] = .setMode 2 2 600 2 300 := by decide +kernel

/-- WRITE ENTRY of the bank record B5, setting 20, wiper station 33 (11, R183, Table 11-8). -/
theorem test_write_bytes :
    requestOf 0x03 [4, 5, 20, 33] = .writeBankRecord 5 20 33 ∧
    requestOf 0x03 [1, 0, 1, 0x01, 0x90] = .writeChannelSetting 0 1 400 := by decide +kernel

/-- A request of known kind and wrong length is UNKNOWN_REQUEST (11, R183). -/
theorem test_request_length : requestOf 0x05 [] = .unknown ∧ requestOf 0x0F [] = .unknown := by decide +kernel

/-- READ STATE of a record kind that does not exist takes one index byte like any other (11, R183, Table 11-8). -/
theorem test_state_length : requestOf 0x09 [0x55, 1] = .readState 0x55 [1] ∧
    requestOf 0x09 [0x55, 1, 2] = .unknown ∧ requestOf 0x09 [9, 1] = .unknown ∧ requestOf 0x09 [10, 0] = .unknown := by
  decide +kernel

/-- RESTART from station 5, tag 9, to station 1, as bytes on the line. -/
theorem test_request_frame :
    (requestFrame 1 ⟨.north, 5, 9⟩ .restart).body = [0x01, 0x05, 0x10, 0x02, 0x09, 0x0E] := by decide +kernel

/-! ### Small states -/

/-- After a full reset under address 1, the RESTARTED alert sent. -/
def nrm : State := { State.reset with north := PortState.reset }

/-- A requester: station 5 on the north port, tag 7. -/
def st5 : Sender := ⟨.north, 5, 7⟩

theorem nrm_atRest : nrm.atRest := ⟨rfl, rfl⟩

theorem nrm_normal : nrm.normal := by unfold State.normal; decide

theorem nrm_ready : nrm.ready := ⟨nrm_normal, rfl, rfl, nrm_atRest⟩

theorem nrm_lamp (l : LampId) : nrm.lamp l = none := by
  simp [nrm, State.lamp, State.reset, State.afterReset, get_eq_getElem]

theorem nrm_point (p : PointId) : nrm.point p = none := by
  simp [nrm, State.point, State.reset, State.afterReset, get_eq_getElem]

/-- READ STATE of an empty point entry: not in place, no value, STALE, no quality, no acceptance, no consumer (02, R25,
R41). -/
theorem test_empty_point_record : nrm.pointRecord 0 = [0, 0, 0, 0, 1, 0, 0, 0, 0, 0, 0] := by decide +kernel

/-- An emptying point write with RawMin above RawMax, or with Timeout below 100 ms, is marked CLAMPED (02, R26). -/
theorem test_emptying_write_clamps :
    pointClamped ⟨0, 0, 0, [0], 4096, 0, 2, 1, 100⟩ = true ∧ pointClamped ⟨0, 0, 0, [0], 4096, 0, 0, 1, 99⟩ = true ∧
    pointClamped ⟨0, 0, 0, [0], 4096, 0, 0, 1, 100⟩ = false := by decide

/-- The only lamp entry of a state is the one put into it. -/
theorem only_lamp {s : State} (hs : ∀ m, s.lamp m = none) {l : LampId} {x : Lamp} :
    ∀ m y, (s.setLamp l (some x)).lamp m = some y → m = l ∧ y = x := by
  intro m y h
  rw [State.setLamp_lamp] at h
  split at h
  · simp_all
  · simp [hs] at h

/-- The only point entry of a state is the one put into it. -/
theorem only_point {s : State} (hs : ∀ p, s.point p = none) {p : PointId} {x : Point} :
    ∀ q y, (s.setPoint p (some x)).point q = some y → q = p ∧ y = x := by
  intro q y h
  rw [State.setPoint_point] at h
  split at h
  · simp_all
  · simp [hs] at h

/-- Channel 0 in a mode, bank 0 its own and in a state. -/
def govern (m : Mode) (st : BankState) : State :=
  (nrm.modChan 0 fun c => { c with mode := m }).modBank 0 fun x => { x with owner := some 0, state := st }

theorem govern_ready (m : Mode) (st : BankState) : (govern m st).ready := nrm_ready

theorem govern_lamp (m : Mode) (st : BankState) (l : LampId) : (govern m st).lamp l = none := nrm_lamp l

theorem govern_point (m : Mode) (st : BankState) (p : PointId) : (govern m st).point p = none := nrm_point p

/-- The lamp of station 50 in bank 0, slot 0, in a state. -/
def lamp50 (st : LampState) : Lamp := { Lamp.fresh 50 0 0 (some 100) with state := st, wanted := true }

/-- A point of station 20, index 3, gain 4096, raw 10 to 1000. -/
def point20 (t : Targets) : Point :=
  { Point.blank ⟨20, 3, t, 4096, 0, 10, 1000, 2500⟩ with value := some (.num 400), fresh := true, timer := some 0 }

/-- The state of a command's outcome, `s` itself where there is none. -/
def after (i : Instr) (s : State) : State :=
  match exec i s with
  | .next t => t
  | .fault _ => s
  | .refused _ => s

/-- A frame that a queue may hold. -/
def anyFrame : QFrame := ⟨⟨99, 1, 0x30, []⟩, false, false⟩

/-! ### Worked figures of the manual -/

/-- C0 of the worked case 01, section 1.12, before its event 1: two RUN banks of Sf 20000 and Kvol 800, UVT held at 550
on a segment of factor 800, the settings of the case and the power stage of 04, section 4.6. -/
def wet : State :=
  let chan := fun c : Channel => { c with
    mode := .auto, startList := [0, 1], uvtUse := .held 550
    settings := put (put (put (put c.settings 2 3000) 3 3000) 5 2) 7 100
    uvtCurve := tableOf [⟨500, 700⟩, ⟨600, 900⟩, ⟨650, 1000⟩, ⟨660, 1001⟩, ⟨670, 1002⟩, ⟨680, 1003⟩, ⟨690, 1004⟩,
      ⟨700, 1005⟩] ⟨0, 0⟩
    acct := { c.acct with
      totalL := 52340, totalMl := 650, offL := 1210, offMl := 900, pulseRem := 95, lastPass := some 1000000 }
    power := { c.power with ePrev := -300 } }
  let bank := fun (p : Nat) (x : Bank) => { x with
    owner := some 0, state := .run, settings := put (put x.settings 0 800) 14 p
    tracker := { x.tracker with sf := some 20000, sn := some 20000, sref := some 20000 } }
  let point := fun (st i : Nat) (t : Targets) =>
    some { Point.blank ⟨st, i, t, 4096, 0, 0, 65535, 60000⟩ with fresh := true, value := some (.num 20000) }
  let s := { nrm with now := 1000200 }
  let s := ((s.modChan 0 chan).modBank 0 (bank 0)).modBank 1 (bank 1)
  ((s.setPoint 0 (point 20 0 (.flow 0))).setPoint 1 (point 22 0 (.intensity 0))).setPoint 2 (point 22 1 (.intensity 1))

/-- A flow sample of station 20, index 0, in L/s. -/
def flow (raw : Nat) : Instr := .sampleFrame 1 20 (samplePayload [⟨0, .good, raw⟩])

/-- 01, section 1.12, event 1, and 04, section 4.6: 400 L/s on-spec with dose 624, demand 980 and code 250. -/
theorem test_wet_on_spec :
    let c := (after (flow 400) wet).chan 0
    c.acct.lastDose = 624 ∧ c.acct.offSpec = false ∧ c.acct.totalL = 52420 ∧ c.acct.offL = 1210 ∧
      c.power.pd = 980 ∧ c.power.code = 250 ∧ c.power.ePrev = -324 := by decide +kernel

/-- 01, section 1.12, event 2's flow from the start of the case: 1237 L/s gives dose 202, off-spec. -/
theorem test_wet_off_spec :
    let c := (after (flow 1237) { wet with now := 1000173 }).chan 0
    c.acct.lastDose = 202 ∧ c.acct.offSpec = true ∧ c.acct.totalL = 52554 ∧ c.acct.totalMl = 651 ∧
      c.acct.offL = 1424 ∧ c.acct.offMl = 901 ∧ c.acct.pulseRem = 9 ∧ c.acct.backlog = 2 ∧ c.pulsePhase = .high := by
  decide +kernel

/-- Table 3-7, samples 2 and 4: the third passing sample makes the sag ACTIVE at reference 19997. -/
theorem test_sag_steps :
    sagStep .clear (enterTest 19997 17000 32) false 3 2 = .entering 1 ∧
    sagStep (.entering 2) (enterTest 19997 16900 32) false 3 2 = .active ∧
    sagStep .active false (exitTest 19997 18500 (exitPct 32 64)) 3 2 = .leaving 1 ∧
    sagStep (.leaving 1) false (exitTest 19997 18000 (exitPct 32 64)) 3 2 = .active := by decide +kernel

/-- Table 7-6: cooling steps at the defaults and LIT. -/
theorem test_cooling :
    coolStep false 1000 40 400 200 4 = 998 ∧ coolStep false 920 40 400 200 4 = 919 ∧
    coolStep false 1000 20 512 10 4 = 948 ∧ coolStep true 62 40 400 200 4 = 120 ∧
    coolStep true 990 40 400 200 4 = 991 := by decide +kernel

/-! ### Witnesses: states and operands that meet the premises of the statements -/

theorem witness_IdleStepIsOneMillisecond :
    nrm.pending = [] ∧ (nrm.modChan 1 fun c => { c with uvtHold := some 1 }).pending = [] := ⟨rfl, rfl⟩

theorem witness_ExpiryNeedsItsTimer :
    (Instr.fallbackTimerExpiry 0).isExpiry = true ∧ nrm.atRest ∧ ¬ nrm.expired (.fallbackTimerExpiry 0) ∧
    ¬ (nrm.modChan 0 fun c => { c with uvtHold := some 1 }).expired (.uvtHoldTimerExpiry 0) := by
  refine ⟨rfl, nrm_atRest, ?_, ?_⟩
  · rintro ⟨d, h, _⟩
    exact absurd h (by show ¬ (nrm.chan 0).acct.fallback = some d; rw [show (nrm.chan 0).acct.fallback = none by
      decide +kernel]; simp)
  · rintro ⟨d, h, hd⟩
    have h1 : some 1 = some d := by simpa [State.timerOf] using h
    have h2 : d ≤ 0 := hd
    simp at h1
    omega

theorem witness_RestartIsAnsweredThenTaken :
    nrm.ready ∧ (let s := { nrm.modPort .north (fun ps => { ps with queue := [⟨anyFrame.frame, true, true⟩] }) with
      restartPending := true };
      (s.port .north).queue = [⟨anyFrame.frame, true, true⟩] ∧ s.restartPending = true) :=
  ⟨nrm_ready, rfl, rfl⟩

theorem witness_WarmRestartRestartsEveryBlock :
    nrm.restartPending = false ∧
    (∀ p h, (({ nrm with restartPending := true } : State).port p).queue.head? = some h → h.restart = false) ∧
    (let h : QFrame := ⟨anyFrame.frame, true, true⟩;
      let s := { (govern .manual .run).modPort .south (fun ps => { ps with queue := [h] }) with restartPending := true };
      s.restartPending = true ∧ (s.port .south).queue.head? = some h ∧ h.restart = true ∧ (s.chan 0).mode = .manual ∧
        (s.chan 1).mode = .unarmed ∧ (s.bank 0).state = .run) := by
  refine ⟨by decide, ?_, by decide +kernel⟩
  intro p h hh
  cases p <;> cases hh

theorem witness_FrameBytesAreReadBackAndGuarded :
    (Frame.mk 1 2 3 (List.replicate 48 0)).payload.length ≤ 48 ∧
    (let f := Frame.mk 1 2 0x01 []; f.toBytes[5]? = some 0xD7 ∨ f.toBytes[5]?.isSome = true) ∧ 7 < 8 := by
  decide +kernel

theorem witness_RequestFrameRunsItsCommand :
    (Instr.setMode st5 0 2 600 2 300).request = some (st5, .setMode 0 2 600 2 300) ∧
    (Instr.setMode st5 0 2 600 2 300).wf = true ∧
    (∀ b p l, Request.setMode 0 2 600 2 300 ≠ .writeProgram b p l) ∧ nrm.address < 128 :=
  ⟨rfl, rfl, by intros; simp, by decide⟩

theorem witness_FaultyFrameIsCounted :
    nrm.atRest ∧ Frame.ofBytes [] = none ∧ Frame.ofBytes [1, 2, 3, 49] = none ∧
    (let s := fun n => nrm.modPort .south fun p => { p with errors := n };
      65535 ≤ ((s 65535).port .south).errors ∧
      (((s 65533).port .south).errors < 65535 ∧
        (((s 65533).port .south).errors + 1) % ((s 65533).port .south).errorLimit ≠ 0) ∧
      (((s 65519).port .south).errors < 65535 ∧
        (((s 65519).port .south).errors + 1) % ((s 65519).port .south).errorLimit = 0)) :=
  ⟨nrm_atRest, by decide, by decide, by decide⟩

theorem witness_OtherFramesPassOrAreLost :
    nrm.atRest ∧ nrm.normal ∧
    (let f := fun dst => Frame.mk dst 2 0x30 (List.replicate 48 0);
      let s := fun n => nrm.modPort .south fun p => { p with queue := List.replicate n anyFrame };
      (f 1).payload.length ≤ 48 ∧ ¬ (Port.north = .north ∧ ((f 1).kind = 0x03 ∨ (f 1).kind = 0x04)) ∧
      ¬ (Port.north = .south ∧ ((f 1).kind = 0x01 ∨ (f 1).kind = 0x02)) ∧
      (stationOf (f 0x81).dst = nrm.address ∧ (f 0x81).kind ≠ 0x10) ∧
      (stationOf (f 2).dst ≠ nrm.address ∧ ((s 15).port .south).queue.length < 16) ∧
      16 ≤ ((s 16).port .south).queue.length) :=
  ⟨nrm_atRest, nrm_normal, by decide⟩

theorem witness_RepeaterForwardsUnread :
    (let s := { nrm with address := 127 };
      s.atRest ∧ s.repeater = true ∧ (Frame.mk 127 1 0x10 [1, 1]).payload.length ≤ 48 ∧
      (s.port .south).queue.length < 16 ∧ (Instr.identify st5).request = some (st5, .identify) ∧ st5.port = .north ∧
      16 ≤ ((s.modPort .south fun ps => { ps with queue := List.replicate 16 anyFrame }).port .south).queue.length) ∧
    ({ nrm with address := 0 } : State).repeater = true :=
  ⟨⟨⟨rfl, rfl⟩, by decide, by decide, by decide, rfl, rfl, by decide⟩, by decide⟩

theorem witness_ForeignCommandsAreAbsorbed :
    nrm.atRest ∧ nrm.normal ∧ (List.replicate 48 (0 : Byte)).length ≤ 48 ∧ stationOf 50 ≠ nrm.address ∧
    (let s := (govern .auto .run).setLamp 0 (some (lamp50 .lit));
      s.lamp 0 = some (lamp50 .lit) ∧ (lamp50 .lit).station = stationOf 50 ∧
      (∀ m y, s.lamp m = some y → y.station = stationOf 50 → m = 0) ∧
      (s.bank (lamp50 .lit).bank).owner = some 0 ∧ (s.chan 0).dormant = false) ∧
    (∀ l x ch, nrm.lamp l = some x → x.station = stationOf 50 → (nrm.bank x.bank).owner = some ch →
      (nrm.chan ch).dormant = true) ∧ nrm.south.queue.length < 16 ∧
    (let s := (govern .auto .run).modBank 0 fun x => { x with wiperStation := some 60 };
      (s.bank 0).wiperStation = some (stationOf 60) ∧ (s.bank 0).owner = some 0 ∧ (s.chan 0).dormant = false) ∧
    (∀ b ch, (nrm.bank b).wiperStation = some (stationOf 60) → (nrm.bank b).owner = some ch →
      (nrm.chan ch).dormant = true) := by
  refine ⟨nrm_atRest, nrm_normal, by decide, by decide, ⟨by decide +kernel, by decide, ?_, by decide +kernel,
    by decide +kernel⟩, ?_, by decide, by decide +kernel, by decide +kernel⟩
  · intro m y h _
    exact (only_lamp (govern_lamp _ _) m y h).1
  · intro l x ch h
    simp [nrm_lamp] at h

theorem witness_FreedPlaceIsOffered :
    (nrm.port .north).queue = [] ∧
    (let s := nrm.modPort .north fun p => { p with queue := [anyFrame] };
      (s.port .north).queue = anyFrame :: [] ∧ anyFrame.restart = false ∧ s.repeater = false ∧
      (16 ≤ (List.replicate 16 anyFrame).length) ∧ ([] : List QFrame).length < 16 ∧
      ([] : List QFrame).countP (fun f => f.own) < 8 ∧
      ({ s with replySlot := some ⟨.north, anyFrame.frame, false⟩ } : State).replySlot =
        some ⟨.north, anyFrame.frame, false⟩ ∧
      ({ s with alertSlot := some anyFrame.frame } : State).alertSlot = some anyFrame.frame ∧ s.alertSlot = none ∧
      (∀ w, s.replySlot = some w → w.port ≠ .north)) ∧
    (∀ k, nrm.slotFrame k = none) := by
  refine ⟨rfl, ⟨rfl, rfl, by decide, by decide, by decide, by decide, rfl, rfl, rfl, ?_⟩, by decide +kernel⟩
  intro w h
  simp [nrm, State.reset, State.afterReset] at h

theorem witness_CommandSlotsAreServedRoundRobin :
    let s := (nrm.modPort .south fun p => { p with queue := [anyFrame] }).setLamp 0
        (some { lamp50 .off with cmd := some .quench });
    s.south.queue = anyFrame :: [] ∧ anyFrame.restart = false ∧ s.repeater = false ∧ ([] : List QFrame).length < 16 ∧
      ([] : List QFrame).countP (fun x => x.own) < 8 ∧ (∀ w, s.replySlot = some w → w.port ≠ .south) ∧ 0 < 76 ∧
      (0 : SlotId).1 = (s.pointer.1 + 1 + 0) % 76 ∧ s.slotFrame 0 = some ⟨50, 1, 0x03, [3, 0]⟩ ∧
      (∀ j (m : SlotId), j < 0 → m.1 = (s.pointer.1 + 1 + j) % 76 → s.slotFrame m = none) := by
  refine ⟨rfl, rfl, by decide, by decide, by decide, ?_, by decide, by decide, by decide +kernel, ?_⟩
  · intro w h
    simp [nrm, State.reset, State.afterReset] at h
  · intro j m h
    omega

theorem witness_SampleItemReachesItsPoint :
    let s := fun t => nrm.setPoint 0 (some (point20 t));
    nrm.atRest ∧ nrm.normal ∧ (15 : Nat) < 16 ∧ (65535 : Nat) < 65536 ∧
      (∀ t, (s t).point 0 = some (point20 t) ∧ (point20 t).cfg.station = stationOf 20 ∧
        (point20 t).cfg.index = (⟨3, .good, 10⟩ : SampleItem).index ∧
        (∀ q y, (s t).point q = some y → y.cfg.station = (point20 t).cfg.station →
          y.cfg.index = (point20 t).cfg.index → q = 0)) ∧
      ((point20 (.uvt [0])).cfg.rawMin ≤ 10 ∧ 1000 ≤ (point20 (.uvt [0])).cfg.rawMax ∧
        (∀ b, (point20 (.uvt [0])).cfg.targets = .wiper b → 10 ≤ 2)) ∧
      ¬ (∀ b, (point20 (.wiper 0)).cfg.targets = .wiper b → 10 ≤ 2) ∧
      stationOf 1 = nrm.address ∧ stationOf 2 ≠ nrm.address ∧ nrm.north.queue.length < 15 ∧
      (s (.uvt [0])).uvtPoint 0 = some 0 ∧
      (let x := { point20 (.wiper 0) with cfg := { (point20 (.wiper 0)).cfg with rawMin := 0 } };
        let w := (nrm.modBank 0 fun y => { y with supervision := .moving }).setPoint 0 (some x);
        w.wiperPoint 0 = some 0 ∧ (w.bank 0).supervision ≠ .idle ∧ x.cfg.rawMin ≤ 0 ∧ 2 ≤ x.cfg.rawMax) ∧
      (([] : List Byte).length ≤ 48 ∧ (samplePayload [⟨3, .good, 10⟩]).length ≤ 48 ∧
        (∀ n c q y, n < 1 → (samplePayload [⟨3, .good, 10⟩]).tail[3 * n]? = some c → nrm.point q = some y →
          ¬ (y.cfg.station = stationOf 20 ∧ y.cfg.index = c.toNat % 16)) ∧
        (let w := { nrm with north := { nrm.north with queue := List.replicate 16 anyFrame } };
          w.atRest ∧ w.normal ∧ 16 ≤ w.north.queue.length)) := by
  refine ⟨nrm_atRest, nrm_normal, by decide, by decide, fun t => ⟨by simp, rfl, rfl, ?_⟩, ⟨by decide, by decide, ?_⟩,
    ?_, by decide, by decide, by decide, by decide +kernel, by decide +kernel, by decide, by decide, ?_, ⟨rfl, rfl⟩,
    nrm_normal, by decide⟩
  rotate_right
  · intro n c q y _ _ h
    simp [nrm_point] at h
  · intro q y h _ _
    exact (only_point nrm_point q y h).1
  · intro b h
    simp [point20, Point.blank] at h
  · intro h
    exact absurd (h 0 rfl) (by decide)

/-- Bank 0 in a state with a tracker, watched by point 0, its first lamp LIT and one lamp enough. -/
def watch (st : BankState) (k : Tracker) : State :=
  (((govern .auto st).setPoint 0 (some (point20 (.intensity 0)))).setLamp 0 (some (lamp50 .lit))).modBank 0
    fun x => { x with tracker := k, settings := put x.settings 15 1 }

/-- A reference of 20000 and two passing sag samples. -/
def sagging : Tracker := { Bank.reset.tracker with sref := some 20000, sag := .entering 2 }

theorem witness_IntensitySampleReachesItsTracker :
    let x := point20 (.intensity 0);
    let w := watch .run sagging;
    let a := w.modBank 1 fun y => { y with owner := some 0 };
    (w.atRest ∧ w.normal ∧ w.point 0 = some x ∧ x.cfg.station = stationOf 20 ∧ x.cfg.index = 3 ∧
      (∀ q y, w.point q = some y → y.cfg.station = x.cfg.station → y.cfg.index = x.cfg.index → q = 0) ∧
      x.cfg.rawMin ≤ 10 ∧ 1000 ≤ x.cfg.rawMax ∧ x.cfg.targets = .intensity 0 ∧ w.intensityPoint 0 = some 0 ∧
      (w.bank 0).tracker = sagging ∧ (w.bank 0).owner = some 0) ∧
    ((watch .run { sagging with blank := true }).bank 0).tracker.blank = true ∧
    ((watch .dark sagging).bank 0).state = .dark ∧
    (let k := { sagging with warm := false };
      ((watch .warming k).bank 0).state = .warming ∧ k.warm = false ∧ ((watch .warming k).chan 0).dormant = false ∧
        ((watch .warming k).bank 0).get .minLampsLit ≤ (watch .warming k).litCount 0 ∧
        20000 * 179 ≤ 13985 * 256) ∧
    ((w.bank 0).state = .run ∧ sagging.blank = false ∧ sagging.sref = some 20000 ∧ sagging.reseed = false ∧
      (20000 : Int) * (w.bank 0).get .sagPct ≤ (20000 - 17500) * 256 ∧ (w.bank 0).get .sagEnter ≤ 2 + 1) ∧
    ({ sagging with sref := none } : Tracker).settleTimer = none ∧
    ((a.bank 0).get .sagStage = 0 ∧ (a.chan 0).mode = .auto ∧ (a.chan 0).adoption = none ∧ (a.chan 0).pendingUp = 0 ∧
      a.selected 0 1) := by
  refine ⟨⟨nrm_atRest, nrm_normal, by simp [watch], rfl, rfl, ?_, by decide, by decide, rfl, by decide +kernel,
    by decide +kernel, by decide +kernel⟩, by decide +kernel, by decide +kernel, by decide +kernel, by decide +kernel,
    rfl, by decide +kernel, by decide +kernel, by decide +kernel, by decide +kernel, ?_, .inl ⟨?_, ?_⟩⟩
  · intro q y h _ _
    exact (only_point (s := govern .auto .run) (govern_point _ _) q y h).1
  · unfold State.darkOf
    decide +kernel
  · intro l x h hb
    have hx := (only_lamp (s := govern .auto .run) (govern_lamp _ _) l x h).2
    subst hx
    exact absurd hb (by decide)
  · intro c hc hcool hne
    clear hcool
    exfalso
    revert hc hne
    unfold State.darkOf
    revert c
    decide +kernel

theorem witness_FlowSampleTakesAFullPass :
    let s := (govern .auto .run).setPoint 0 (some (point20 (.flow 0)));
    let two : List SampleItem := [⟨3, .good, 10⟩, ⟨3, .bad, 9⟩];
    s.atRest ∧ s.normal ∧ s.point 0 = some (point20 (.flow 0)) ∧ (point20 (.flow 0)).cfg.station = stationOf 20 ∧
      (point20 (.flow 0)).cfg.index = 3 ∧
      (∀ q y, s.point q = some y → y.cfg.station = (point20 (.flow 0)).cfg.station →
        y.cfg.index = (point20 (.flow 0)).cfg.index → q = 0) ∧
      (point20 (.flow 0)).cfg.rawMin ≤ 10 ∧ 1000 ≤ (point20 (.flow 0)).cfg.rawMax ∧
      (point20 (.flow 0)).cfg.targets = .flow 0 ∧ s.flowPoint 0 = some 0 ∧ (s.chan 0).mode.armed = true ∧
      stationOf 2 ≠ s.address ∧ stationOf 1 = s.address ∧
      (s.entriesUnique ∧ 1 ≤ two.length ∧ two.length ≤ 8 ∧ (∀ i ∈ two, i.index < 16 ∧ i.raw < 65536) ∧
        (List.replicate 36 (0 : Byte)).length = 6 * 6 ∧ 1 + 3 * two.length + 6 * 6 ≤ 48 ∧
        (endEvent (two.foldl (fun u i => intakeItem (stationOf 20) i u) s)).north.queue.length < 16) ∧
      (∀ k : Fin 7, ((s.chan 0).ballastCurve.get k.castSucc).x < ((s.chan 0).ballastCurve.get k.succ).x) ∧
      ((s.chan 0).mode = .auto ∧ (s.chan 0).adoption = none ∧
        (s.modChan 0 fun c => { c with startList := [0] }).listsSound) := by
  refine ⟨nrm_atRest, nrm_normal, by simp, rfl, rfl, ?_, by decide, by decide, rfl, by decide +kernel,
    by decide +kernel, by decide, by decide, ⟨⟨?_, ?_, ?_, ?_⟩, by decide, by decide, by decide, by decide, by decide, ?_⟩,
    by decide +kernel, by decide +kernel, by decide +kernel, ?_⟩
  · intro q y h _ _
    exact (only_point (govern_point _ _) q y h).1
  · intro p q x y hp hq _ _
    exact (only_point (govern_point _ _) p x hp).1.trans (only_point (govern_point _ _) q y hq).1.symm
  · intro l m x y h
    simp [govern_lamp] at h
  · intro l m x y h
    simp [govern_lamp] at h
  · decide +kernel
  · decide +kernel
  · unfold State.listsSound
    decide +kernel

theorem witness_FullPassJudgesTheDose :
    (let s := (govern .auto .run).setPoint 0 (some (point20 (.flow 0)));
      s.flowPoint 0 = some 0 ∧ s.point 0 = some (point20 (.flow 0)) ∧ (point20 (.flow 0)).fresh = true ∧
      (point20 (.flow 0)).value = some (.num 400) ∧ s.uvtNow 0 < ((s.chan 0).uvtCurve.get 0).x) ∧
    (govern .auto .run).flowPoint 0 = none ∧
    (let s := fun u => (govern .auto .run).modChan 0 fun c => { c with uvtUse := .held u };
      (((s 0).chan 0).uvtCurve.get 0).x ≤ (s 750).uvtNow 0 ∧ (((s 0).chan 0).uvtCurve.get 7).x ≤ (s 750).uvtNow 0 ∧
      (∀ k : Fin 7, (((s 0).chan 0).uvtCurve.get k.castSucc).x < (((s 0).chan 0).uvtCurve.get k.succ).x) ∧
      (((s 0).chan 0).uvtCurve.get (0 : Fin 7).castSucc).x ≤ (s 400).uvtNow 0 ∧
      (s 449).uvtNow 0 < (((s 0).chan 0).uvtCurve.get (0 : Fin 7).succ).x ∧
      (((s 0).bank 0).owner = some 0 ∧ ((s 0).bank 0).get .position = 0 ∧
        ∀ b, ((s 0).bank b).owner = some 0 → ((s 0).bank b).get .position = 0 → b = 0)) := by
  decide +kernel

theorem witness_DemandMovesWithinItsRateLimits :
    let c := fun m => { Channel.reset with mode := m, power := { Power.reset with pd := 650, ePrev := -40 } };
    (c .full).mode = .full ∧ (c .standdown).mode = .standdown ∧
      ((c .manual).mode = .manual ∧ (300 : Int) = clampInt (c .manual).manualValue ((c .manual).get .pmin) 1000) ∧
      ((c .auto).mode = .auto ∧ (660 : Int) = clampInt ((c .auto).power.pd +
        ((((c .auto).get .kp : Int) * (0 - (c .auto).power.ePrev) + ((c .auto).get .ki : Int) * 0).tdiv 256))
        ((c .auto).get .pmin) 1000) ∧
      (c .auto).get .pmin ≤ (c .auto).power.pd ∧ (c .auto).power.pd ≤ 1000 := by
  decide +kernel

theorem witness_FallbackTakesAPass :
    let s := fun m => (govern m .run).modChan 0 fun c => { c with acct := { c.acct with fallback := some 0 } };
    (s .auto).atRest ∧ ((s .auto).chan 0).acct.fallback = some 0 ∧ 0 ≤ (s .auto).now ∧
      ((s .standdown).chan 0).mode.armed = true ∧ ((s .edit).chan 0).mode = .edit ∧
      ((s .edit).chan 0).acct.fallback = some 0 :=
  ⟨nrm_atRest, by decide +kernel, by decide, by decide +kernel, by decide +kernel, by decide +kernel⟩

/-- A standing-down channel in its window: the DARK bank 0 with one lamp in OFF, one enough, and bank 1 in a state
with an adopted lamp and a struck one LIT, `n` enough. -/
def leaving (st : BankState) (n : Nat) : State :=
  (((((govern .standdown .dark).setLamp 0 (some (lamp50 .off))).setLamp 1
      (some { lamp50 .lit with station := 51, bank := 1, adopted := true })).setLamp 2
      (some { lamp50 .lit with station := 52, bank := 1, slot := 1 })).modChan 0 fun c => { c with adoption := some 9 })
    |>.modBank 0 (fun y => { y with settings := put y.settings 15 1 })
    |>.modBank 1 fun y =>
      { y with owner := some 0, state := st, settings := put y.settings 15 n, tracker := { y.tracker with warm := true } }

theorem leaving_lamps (st : BankState) (n : Nat) : (leaving st n).lamp 0 = some (lamp50 .off) ∧
    ∀ l y, (leaving st n).lamp l = some y → y.station = (lamp50 .off).station → l = 0 := by
  have table : ∀ l, (leaving st n).lamp l = if l = 2 then some { lamp50 .lit with station := 52, bank := 1, slot := 1 }
      else if l = 1 then some { lamp50 .lit with station := 51, bank := 1, adopted := true }
      else if l = 0 then some (lamp50 .off) else none := by
    intro l
    simp [leaving, State.setLamp_lamp, govern_lamp]
  refine ⟨by rw [table]; decide, fun l y h hs => ?_⟩
  rw [table] at h
  split at h
  · cases h; exact absurd hs (by decide)
  · split at h
    · cases h; exact absurd hs (by decide)
    · split at h
      · assumption
      · cases h

theorem witness_LampStatusReachesItsLamp :
    let s := fun m b x => ((govern m b).setLamp 0 (some x)).modBank 0 fun y =>
      { y with settings := put y.settings 15 1, tracker := { y.tracker with warm := true } };
    let w := fun m => (s m .dark (lamp50 .off)).modChan 0 fun c => { c with adoption := some 9 };
    (nrm.atRest ∧ nrm.normal ∧ stationOf 2 ≠ nrm.address ∧ nrm.north.queue.length < 15 ∧ 1 ≤ (1 : Byte).toNat ∧
      (5 : Byte).toNat ≤ 5 ∧ (∀ m y, nrm.lamp m = some y → y.station ≠ stationOf 50)) ∧
    (∀ m b st, (s m b (lamp50 st)).lamp 0 = some (lamp50 st) ∧ (lamp50 st).station = stationOf 50 ∧
      (lamp50 st).state = st ∧ (lamp50 st).unconfirmed = false ∧ (lamp50 st).wanted = true ∧
      (∀ l y, (s m b (lamp50 st)).lamp l = some y → y.station = (lamp50 st).station → l = 0)) ∧
    (((s .auto .striking (lamp50 .lit)).bank 0).owner = some 0 ∧
      ((s .auto .striking (lamp50 .lit)).chan 0).dormant = false ∧
      (s .auto .striking (lamp50 .striking)).countQuiet 0 0 1) ∧
    (((s .auto .warming (lamp50 .striking)).bank 0).state = .warming ∧
      ((s .auto .warming (lamp50 .striking)).bank 0).get .minLampsLit ≤
        (s .auto .warming (lamp50 .striking)).litCount 0 + 1) ∧
    (((w .auto).chan 0).adoption ≠ none ∧ ((w .auto).chan 0).effMode = .auto ∧ ((w .auto).bank 0).state = .dark ∧
      ((w .auto).bank 0).get .minLampsLit ≤ (w .auto).litCount 0 + 1) ∧
    ((∀ st n, (leaving st n).lamp 0 = some (lamp50 .off) ∧
        ∀ l y, (leaving st n).lamp l = some y → y.station = (lamp50 .off).station → l = 0) ∧
      ((leaving .run 2).chan 0).effMode = .standdown ∧ ((leaving .run 2).chan 0).adoption ≠ none ∧
      ((leaving .run 2).bank 0).owner = some 0 ∧ ((leaving .run 2).bank 0).state = .dark ∧
      ((leaving .run 2).bank 0).get .minLampsLit ≤ (leaving .run 2).litCount 0 + 1 ∧
      (leaving .run 2).leftShort 0 1 ∧ (leaving .warming 1).leftWarm 0 1 ∧ ¬ (leaving .run 1).leftShort 0 1) ∧
    (((s .auto .run (lamp50 .lit)).chan 0).get .dropoutMode = 1 ∧ min 255 ((lamp50 .lit).dropouts + 1) < 3 ∧
      ((s .auto .run (lamp50 .lit)).bank 0).state = .run ∧ (s .auto .run (lamp50 .lit)).litCount 0 - 1 <
        ((s .auto .run (lamp50 .lit)).bank 0).get .minLampsLit) ∧
    ((govern .unarmed .dark).chan 0).dormant = true ∧ (nrm.bank 0).owner = none := by
  refine ⟨⟨nrm_atRest, nrm_normal, by decide, by decide, by decide, by decide, ?_⟩,
    fun m b st => ⟨by simp, rfl, rfl, rfl, rfl, ?_⟩, ⟨by decide +kernel, by decide +kernel, ?_⟩, by decide +kernel,
    by decide +kernel, ⟨leaving_lamps, by decide +kernel, by decide +kernel, by decide +kernel, by decide +kernel,
      by decide +kernel, ⟨⟨by decide +kernel, 1, _, rfl, rfl, rfl, rfl⟩, by decide +kernel⟩,
      ⟨⟨by decide +kernel, 1, _, rfl, rfl, rfl, rfl⟩, by decide +kernel⟩, fun h => absurd h.2.2 (by decide +kernel)⟩,
    by decide +kernel, by decide +kernel, by decide +kernel⟩
  · intro m y h
    simp [nrm_lamp] at h
  · intro l y h _
    exact (only_lamp (s := govern m b) (govern_lamp m b) l y h).1
  · unfold State.countQuiet
    decide +kernel

theorem witness_StrikeWindowEndsInFailure :
    let x := fun a k => { lamp50 .striking with strikeTimer := some 0, attempts := a, sets := k };
    let s := fun a k => (govern .auto .striking).setLamp 0 (some (x a k));
    nrm.atRest ∧ (∀ a k, (s a k).lamp 0 = some (x a k)) ∧ (x 0 0).state = .striking ∧
      (x 0 0).strikeTimer = some 0 ∧ 0 ≤ nrm.now ∧ ((s 0 0).bank (x 0 0).bank).owner = some 0 ∧
      (1 + 1 < ((s 0 0).chan 0).get .firstSetRetries) ∧
      (((s 0 0).chan 0).get .firstSetRetries ≤ 2 + 1 ∧ 0 + 1 < ((s 0 0).chan 0).get .maxSets) ∧
      (((s 0 0).chan 0).get .runSetRetries ≤ 1 + 1 ∧ ((s 0 0).chan 0).get .maxSets ≤ 3 + 1) :=
  ⟨nrm_atRest, fun _ _ => by simp, rfl, rfl, by decide, by decide +kernel, by decide +kernel, by decide +kernel,
    by decide +kernel⟩

theorem witness_WaitSettleAndDropoutTimersEnd :
    (let x := { lamp50 .retryWait with waitTimer := some 0, clearTimer := some 0 };
      let s := (govern .auto .striking).setLamp 0 (some x);
      s.atRest ∧ s.lamp 0 = some x ∧ x.waitTimer = some 0 ∧ x.clearTimer = some 0 ∧ 0 ≤ s.now) ∧
    (let s := nrm.modBank 0 fun x => { x with tracker := { x.tracker with settleTimer := some 0 } };
      s.atRest ∧ (s.bank 0).tracker.settleTimer = some 0 ∧ 0 ≤ s.now) :=
  ⟨⟨nrm_atRest, by simp, rfl, rfl, by decide⟩, nrm_atRest, by decide +kernel, by decide⟩

theorem witness_CoolingStepMovesTheIndex :
    let x := { lamp50 .off with coolTimer := some 0 };
    (let s := (govern .auto .dark).setLamp 0 (some x);
      s.atRest ∧ s.lamp 0 = some x ∧ x.coolTimer = some 0 ∧ 0 ≤ s.now ∧ (s.bank x.bank).owner = some 0 ∧
      (s.chan 0).get .friction = 40 ∧ (s.chan 0).get .damping = 400 ∧ (s.chan 0).get .inertia = 200 ∧
      (s.chan 0).get .warmShift = 4) ∧
    ((nrm.setLamp 0 (some x)).lamp 0 = some x ∧ ((nrm.setLamp 0 (some x)).bank x.bank).owner = none) :=
  ⟨⟨nrm_atRest, by simp, rfl, by decide, by decide +kernel, by decide +kernel, by decide +kernel, by decide +kernel,
    by decide +kernel⟩, by simp, by decide +kernel⟩

theorem witness_LampClearReturnsADeadLamp :
    let s := fun st => (govern .auto .run).setLamp 63 (some (lamp50 st));
    (s .dead).ready ∧ (s .lit).lamp 63 = some (lamp50 .lit) ∧ (lamp50 .lit).state ≠ .dead ∧
      (s .dead).lamp 63 = some (lamp50 .dead) ∧ (lamp50 .dead).state = .dead ∧
      ((s .dead).bank (lamp50 .dead).bank).state ≠ .faulted ∧
      (∀ l : LampId, l.1 = (64 : Byte).toNat → nrm.lamp l = none) :=
  ⟨nrm_ready, by simp, by decide, by simp, rfl, by decide +kernel, fun l _ => nrm_lamp l⟩


/-- Channel 0 in EDIT from a mode, its lock held by station 5 under a lease that ends at 0, owning the DARK bank 0. -/
def held (prev : Mode) : State :=
  (govern .edit .dark).modChan 0 fun c => { c with prevMode := prev, holder := some 5, editLease := some 0 }

theorem held_ready (prev : Mode) : (held prev).ready := nrm_ready

theorem held_holder (prev : Mode) : ((held prev).chan 0).holder = some st5.station := by
  cases prev <;> decide +kernel

theorem held_point (prev : Mode) (p : PointId) : (held prev).point p = none := nrm_point p

theorem held_lamp (prev : Mode) (l : LampId) : (held prev).lamp l = none := nrm_lamp l

/-- `held` with a profile that passes every check: a flow, a UVT and an intensity point, one lamp in slot 0, a STRIKE
that lights it, and no wiper. -/
def profile (prev : Mode) : State :=
  ((((held prev).setPoint 0 (some (point20 (.flow 0)))).setPoint 1
    (some (Point.blank ⟨21, 0, .uvt [0], 4096, 0, 0, 1000, 2500⟩))).setPoint 2
    (some (Point.blank ⟨21, 1, .intensity 0, 4096, 0, 0, 1000, 2500⟩))).setLamp 0 (some (lamp50 .off)) |>.modBank 0
    fun x => { x with
      settings := put x.settings 15 1
      strike := tableOf [⟨0, some 1, false, .keep, true⟩] idleStep
      wipe := tableOf [⟨0, none, false, .keep, true⟩] idleStep }

theorem witness_QueuesStayBounded : nrm.queuesBounded ∧ nrm.atRest ∧ step nrm = .next (tick nrm) := by
  refine ⟨?_, nrm_atRest, rfl⟩
  intro p
  cases p <;> decide

theorem witness_AccountsStaySound : nrm.totalsSound ∧ nrm.pulsesSound ∧ step nrm = .next (tick nrm) := by
  refine ⟨?_, ?_, rfl⟩
  · unfold State.totalsSound Accounting.sound
    decide +kernel
  · unfold State.pulsesSound Channel.pulseSound
    decide +kernel

theorem witness_LocksAreHeldExactlyInEdit : (held .auto).locksSound ∧ step (held .auto) = .next (tick (held .auto)) := by
  refine ⟨?_, rfl⟩
  unfold State.locksSound Channel.lockSound
  decide +kernel

theorem witness_StartListsMirrorBankStates :
    let s := (govern .auto .striking).modChan 0 fun c => { c with startList := [0] };
    let t := s.modBank 0 fun x => { x with running := some .strike };
    t.listsSound ∧ t.programsSound ∧ step t = .next (tick t) := by
  refine ⟨?_, ?_, rfl⟩
  · unfold State.listsSound
    decide +kernel
  · unfold State.programsSound
    decide +kernel

theorem witness_EntriesStayUnique :
    let s := ((govern .auto .dark).setLamp 0 (some (lamp50 .off))).setPoint 0 (some (point20 (.flow 0)));
    s.entriesUnique ∧ step s = .next (tick s) := by
  refine ⟨⟨?_, ?_, ?_, ?_⟩, rfl⟩
  · intro p q x y hp hq _ _
    exact (only_point (s := (govern .auto .dark).setLamp 0 _) (govern_point _ _) p x hp).1.trans
      (only_point (s := (govern .auto .dark).setLamp 0 _) (govern_point _ _) q y hq).1.symm
  · intro l m x y hl hm _
    exact (only_lamp (govern_lamp .auto .dark) l x hl).1.trans (only_lamp (govern_lamp .auto .dark) m y hm).1.symm
  · intro l m x y hl hm _ _
    exact (only_lamp (govern_lamp .auto .dark) l x hl).1.trans (only_lamp (govern_lamp .auto .dark) m y hm).1.symm
  · decide +kernel

theorem witness_TablesChangeOnlyByWrites :
    (Instr.coolingStep 0).mayWrite = false ∧ (∃ t, exec (.coolingStep 0) nrm = .next t) ∧ nrm.pending = [] ∧
    step nrm = .next (tick nrm) := ⟨rfl, ⟨_, rfl⟩, rfl, rfl⟩

theorem witness_ReadsAnswerAndChangeNothing :
    nrm.ready ∧ chanSettingOfCode (33 : Byte).toNat = some .pulseGap ∧
    bankFieldOfCode (22 : Byte).toNat = some (.setting .wipeLimit) ∧ 10 ≤ (10 : Byte).toNat ∧
    11 < AlarmKind.scope .lampDead ∧ 11 ≤ (11 : Byte).toNat ∧ 4 ≤ (4 : Byte).toNat ∧
    ([0] : List Byte).length ≠ (if (9 : Byte) = 9 then 2 else if (9 : Byte) = 10 then 0 else 1) ∧
    ([1, 2] : List Byte).length ≠ (if (0x55 : Byte) = 9 then 2 else if (0x55 : Byte) = 10 then 0 else 1) ∧
    11 ≤ (0x55 : Byte).toNat ∧ 96 ≤ (96 : Byte).toNat ∧ 34 ≤ (34 : Byte).toNat ∧ 23 ≤ (23 : Byte).toNat ∧
    5 ≤ (5 : Byte).toNat ∧
    (∀ m : AlarmKind, m.number = (19 : Byte).toNat → m.scope ≤ (0 : Byte).toNat) ∧
    (∀ m : AlarmKind, m.number = (1 : Byte).toNat → m.scope ≤ (12 : Byte).toNat) :=
  ⟨nrm_ready, by decide, by decide, by decide, by decide, by decide, by decide, by decide, by decide, by decide,
    by decide, by decide, by decide, by decide, by intro m; cases m <;> decide, by intro m; cases m <;> decide⟩

theorem witness_ClearTotalsZeroesTheVolumes : wet.ready ∧ 4 ≤ (4 : Byte).toNat := ⟨nrm_ready, by decide⟩

theorem witness_ChannelSettingIsWritten :
    (held .auto).ready ∧ ((held .auto).chan 0).holder = some st5.station ∧
    (chanSettingOfCode (1 : Byte).toNat = some .dtarget ∧ 2000 = clampNat (2001 : Half).toNat 10 2000) ∧
    (chanSettingOfCode (33 : Byte).toNat = some .pulseGap ∧ 20 = clampNat (0 : Half).toNat 20 1000) ∧
    (chanSettingOfCode (13 : Byte).toNat = some .decelHalf ∧ (1 : Half).toNat ≤ 1 ∧ 2 ≤ (2 : Half).toNat) ∧
    (chanSettingOfCode (14 : Byte).toNat = some .pmin ∧ 100 = clampNat (99 : Half).toNat 100 1000) ∧
    (chanSettingOfCode (24 : Byte).toNat = some .maxSets ∧ 15 = clampNat (16 : Half).toNat 1 15) :=
  ⟨held_ready _, held_holder _, by decide, by decide, by decide, by decide, by decide⟩

theorem witness_PulseVolumeWriteAccrues :
    let s := (held .auto).modChan 0 fun c => { c with acct := { c.acct with pulseRem := 99 } };
    s.ready ∧ (s.chan 0).holder = some st5.station ∧ 1 = clampNat (0 : Half).toNat 1 65535 ∧
      (s.chan 0).acct.pulseRem = 99 ∧ 99 = min 255 ((s.chan 0).acct.backlog + (s.chan 0).acct.pulseRem / 1) :=
  ⟨nrm_ready, by decide +kernel⟩

theorem witness_CurvePointIsWritten : (held .auto).ready ∧ ((held .auto).chan 0).holder = some st5.station :=
  ⟨held_ready _, held_holder _⟩

theorem witness_BankRecordIsWritten :
    (held .auto).ready ∧ (held .auto).holdsLocks st5.station ((held .auto).bank 0).owner.toList ∧
    nrm.holdsLocks st5.station (nrm.bank 1).owner.toList ∧
    (bankFieldOfCode (1 : Byte).toNat = some (.setting .kvol) ∧ 4000 = clampNat (4001 : Half).toNat 1 4000) ∧
    (bankFieldOfCode (22 : Byte).toNat = some (.setting .wipeLimit) ∧ 10 = clampNat (9 : Half).toNat 10 600) ∧
    (bankFieldOfCode (17 : Byte).toNat = some (.setting .minLampsLit) ∧ 8 = clampNat (9 : Half).toNat 1 8 ∧
      ((held .auto).bank 0).state ≠ .faulted) ∧
    (bankFieldOfCode (13 : Byte).toNat = some (.setting .lowPct) ∧ 1 = clampNat (0 : Half).toNat 1 255) ∧
    (bankFieldOfCode (21 : Byte).toNat = some (.setting .wipeInterval) ∧ 1440 = clampNat (1441 : Half).toNat 0 1440) ∧
    (1 : Half).toNat ≤ 1 ∧ ((0 : Half).toNat ≤ 126 ∧ ((held .auto).bank 0).wiperStation = none) ∧
    ((126 : Half).toNat ≤ 126 ∧ ((held .auto).bank 0).wiperStation ≠ some 126) ∧ 127 ≤ (127 : Half).toNat ∧
    (let f := fun d => ((held .auto).modBank 0 fun x => { x with state := .faulted, faultTimer := d }).setLamp 0
        (some (lamp50 .off));
      (f none).ready ∧ (f none).holdsLocks st5.station ((f none).bank 0).owner.toList ∧ (f none).listsSound ∧
      (((f none).bank 0).state = .faulted ∧ ((f none).bank 0).faultTimer = none ∧
        clampNat (1 : Half).toNat 1 8 ≤ (f none).nonDead 0 ∧ (f none).nonDead 0 < clampNat (2 : Half).toNat 1 8 ∧
        ((f (some 9)).bank 0).faultTimer ≠ none)) := by
  refine ⟨held_ready _, ?_, ?_, by decide, by decide, by decide +kernel, by decide, by decide, by decide,
    by decide +kernel, by decide +kernel, by decide, nrm_ready, ?_, ?_, by decide +kernel⟩ <;>
    first | unfold State.holdsLocks | unfold State.listsSound
  all_goals decide +kernel

theorem witness_OwnerIsWritten :
    let locks := fun (s : State) (new : Option ChanId) =>
      s.holdsLocks st5.station ((s.bank 0).owner.toList ++ new.toList);
    let free := (held .auto).modBank 0 fun x => { x with owner := none };
    let full := { free with banks := build fun b =>
      if 1 ≤ b.1 ∧ b.1 ≤ 4 then { free.bank b with owner := some 0 } else free.bank b };
    (free.ready ∧ locks free (some 0) ∧ (1 : Half).toNat = (0 : ChanId).1 + 1 ∧ (free.bank 0).owner ≠ some 0 ∧
      (free.bank 0).state = .dark ∧
      ((List.finRange 12).filter fun c => c ≠ 0 ∧ (free.bank c).owner = some 0).length < 4) ∧
    (full.ready ∧ locks full (some 0) ∧
      4 ≤ ((List.finRange 12).filter fun c => c ≠ 0 ∧ (full.bank c).owner = some 0).length) ∧
    (locks (held .auto) (some 0) ∧ ((held .auto).bank 0).owner = some 0) ∧
    (locks (held .auto) none ∧ (0 : Half) = 0 ∧
      ((held .auto).setLamp 0 (some (lamp50 .lit))).lampGoverned 0 = true) ∧
    (let m := fun (st : LampState) (w : Bool) => free.setLamp 0 (some { lamp50 st with wanted := w });
      (∀ st w, (m st w).ready ∧ (m st w).lamp 0 = some { lamp50 st with wanted := w }) ∧
      (locks (m .lit false) (some 0) ∧ (m .lit false).lampGoverned 0 = false) ∧
      (locks (m .off true) (some 0) ∧ (m .off true).lampGoverned 0 = false)) ∧
    (free.chan 0).dormant = false := by
  refine ⟨⟨nrm_ready, ?_, by decide +kernel, by decide +kernel, by decide +kernel, by decide +kernel⟩,
    ⟨nrm_ready, ?_, by decide +kernel⟩, ⟨?_, by decide +kernel⟩, ⟨?_, rfl, by decide +kernel⟩,
    ⟨fun _ _ => ⟨nrm_ready, by simp⟩, ⟨?_, by decide +kernel⟩, ?_, by decide +kernel⟩, by decide +kernel⟩ <;>
    unfold State.holdsLocks <;> decide +kernel

theorem witness_ProgramIsWritten :
    let run := (held .auto).modBank 0 fun x => { x with running := some .strike };
    (held .auto).ready ∧ (held .auto).holdsLocks st5.station ((held .auto).bank 0).owner.toList ∧
    run.holdsLocks st5.station (run.bank 0).owner.toList ∧
    progOfCode (0 : Byte).toNat = some .strike ∧ progOfCode (2 : Byte).toNat = some .wipe ∧
    (run.bank 0).running = some .strike ∧ ((held .auto).bank 0).running ≠ some .strike := by
  refine ⟨held_ready _, ?_, ?_, by decide, by decide, by decide +kernel, by decide +kernel⟩ <;>
    unfold State.holdsLocks <;> decide +kernel

theorem witness_LampEntryIsWritten :
    let s := fun st => (held .auto).setLamp 63 (some (lamp50 st));
    let locks := fun (t : State) l =>
      t.holdsLocks st5.station ((t.lampOwner l).toList ++ (t.bank 0).owner.toList);
    (held .auto).ready ∧ (126 : Byte).toNat ≤ 126 ∧ (7 : Half).toNat ≤ 7 ∧ locks (held .auto) 0 ∧
    locks (s .off) 63 ∧ locks (s .lit) 63 ∧ (held .auto).lamp 0 = none ∧ ((held .auto).bank 0).state ≠ .faulted ∧
    (∃ m y, m ≠ 0 ∧ (s .off).lamp m = some y ∧ y.station = (50 : Byte).toNat) ∧
    (∀ m y, m ≠ 0 → (held .auto).lamp m = some y →
      y.station ≠ (126 : Byte).toNat ∧ ¬ (y.bank = 0 ∧ y.slot = (7 : Half).toNat)) ∧
    (∀ m y, m ≠ 63 → (s .off).lamp m = some y →
      y.station ≠ (50 : Byte).toNat ∧ ¬ (y.bank = 0 ∧ y.slot = (7 : Half).toNat)) ∧
    (s .lit).lamp 63 = some (lamp50 .lit) ∧ (s .off).lamp 63 = some (lamp50 .off) ∧
    (50 : Byte).toNat = (lamp50 .off).station ∧ (lamp50 .off).slot ≠ (7 : Half).toNat ∧
    (let f := (held .auto).modBank 0 fun x => { x with state := .faulted, settings := put x.settings 15 1 };
      f.listsSound ∧ (f.bank 0).state = .faulted ∧ (f.bank 0).faultTimer = none ∧
        (f.bank 0).get .minLampsLit ≤ f.nonDead 0 + 1) ∧
    ((held .unarmed).bankGoverned 0 = false ∧ (held .auto).bankGoverned 0 = true) := by
  refine ⟨held_ready _, by decide, by decide, ?_, ?_, ?_, held_lamp _ _, by decide +kernel,
    ⟨63, lamp50 .off, by decide, by simp, rfl⟩, ?_, ?_, by simp, by simp, rfl, by decide,
    ⟨?_, by decide +kernel⟩, by decide +kernel⟩
  · unfold State.holdsLocks
    decide +kernel
  · unfold State.holdsLocks
    decide +kernel
  · unfold State.holdsLocks
    decide +kernel
  · intro m y _ h
    simp [held_lamp] at h
  · intro m y hm h
    exact absurd (only_lamp (held_lamp _) m y h).1 hm
  · unfold State.listsSound
    decide +kernel

theorem witness_PointEntryIsWritten :
    let new : PointCfg := ⟨20, 3, .flow 0, 4096, -32768, 10, 65535, 65535⟩;
    let s := (held .auto).setPoint 63 (some (point20 (.flow 0)));
    (held .auto).ready ∧ 1 ≤ new.station ∧ new.station ≤ 126 ∧ new.index ≤ 15 ∧ new.gain < 65536 ∧
    -32768 ≤ new.offset ∧ new.offset ≤ 32767 ∧ new.rawMin < 65536 ∧ new.rawMax < 65536 ∧ new.timeout < 65536 ∧
    (∀ l, new.targets = .uvt l → l ≠ [] ∧ l.Pairwise (· < ·)) ∧
    (∀ l, PointCfg.targets ⟨126, 15, .uvt [0, 3], 0, 32767, 0, 0, 0⟩ = .uvt l → l ≠ [] ∧ l.Pairwise (· < ·)) ∧
    s.holdsLocks st5.station (s.targetChans (point20 (.flow 0)).cfg.targets ++ s.targetChans new.targets) ∧
    (∃ q y, q ≠ 0 ∧ s.point q = some y ∧ y.cfg.station = new.station ∧ y.cfg.index = new.index) ∧
    (∀ q y, q ≠ 63 → s.point q = some y → ¬ (y.cfg.station = new.station ∧ y.cfg.index = new.index)) ∧
    s.point 63 = some (point20 (.flow 0)) ∧ (held .auto).point 63 = none ∧
    (let c : PointContent := ⟨0, 15, 1, [0, 3], 0, 0, 0, 0, 0⟩;
      c.station = 0 ∧ c.index.toNat ≤ 15 ∧ c.role = 1 ∧ c.targets ≠ [] ∧ c.targets.length ≤ 4 ∧
        ∀ n ∈ c.targets, n < 4) := by
  refine ⟨held_ready _, by decide, by decide, by decide, by decide, by decide, by decide, by decide, by decide,
    by decide, ?_, ?_, ?_, ⟨63, point20 (.flow 0), by decide, by simp, rfl, rfl⟩, ?_, by simp, held_point _ _,
    by decide⟩
  · intro l h
    simp at h
  · intro l h
    simp only [Targets.uvt.injEq] at h
    subst h
    decide
  · unfold State.holdsLocks
    decide +kernel
  · intro q y hq h
    exact absurd (only_point (held_point _) q y h).1 hq

theorem witness_PrioritiesAndDeviceSettingsAreWritten :
    nrm.ready ∧ 7 = clampNat (8 : Half).toNat 0 7 ∧ 7 ≠ nrm.priority .restarted ∧
    3 = clampNat (3 : Half).toNat 0 7 ∧ 3 = nrm.priority .restarted ∧ 5 ≤ (5 : Byte).toNat :=
  ⟨nrm_ready, by decide, by decide +kernel, by decide, by decide +kernel, by decide⟩

theorem witness_RefusedAndDroppedRequests :
    nrm.ready ∧ (held .auto).ready ∧ chanSettingOfCode (33 : Byte).toNat = some .pulseGap ∧
    (nrm.chan 0).holder = none ∧ ((held .auto).chan 0).holder = some 5 ∧ 5 ≠ Sender.station ⟨.south, 126, 0⟩ ∧
    Sender.station ⟨.north, 127, 0⟩ = 127 ∧ 4 ≤ (4 : Byte).toNat ∧ 34 ≤ (34 : Byte).toNat ∧ 7 ≤ (7 : Byte).toNat ∧
    1 ≤ (4 : Byte).toNat ∧ (4 : Byte).toNat ≤ 4 ∧ (nrm.chan 0).mode = .unarmed ∧
    ((held .auto).chan 0).mode = .edit ∧ 12 ≤ (12 : Byte).toNat ∧
    (Instr.restart st5).request = some (st5, .restart) ∧ nrm.normal ∧ nrm.atRest ∧
    ({ nrm with restartPending := true } : State).restartPending = true ∧
    ({ nrm with replySlot := some ⟨.north, anyFrame.frame, false⟩ } : State).replySlot ≠ none :=
  ⟨nrm_ready, held_ready _, by decide, by decide +kernel, by decide +kernel, by decide, by decide, by decide, by decide,
    by decide, by decide, by decide, by decide +kernel, by decide +kernel, by decide, rfl, nrm_normal, nrm_atRest, rfl,
    by simp⟩

theorem witness_TakeEditTakesTheLock :
    nrm.ready ∧ 1 ≤ Sender.station ⟨.north, 126, 0⟩ ∧ Sender.station ⟨.north, 126, 0⟩ ≤ 126 ∧
    600 = clampNat (601 : Half).toNat 1 600 ∧ (nrm.chan 3).holder = none ∧ (nrm.chan 3).mode = .unarmed ∧
    (held .auto).ready ∧ ((held .auto).chan 0).holder = some st5.station :=
  ⟨nrm_ready, by decide, by decide, by decide, by decide +kernel, by decide +kernel, held_ready _, held_holder _⟩

/-- None of the ten checks fails for `profile`. -/
theorem profile_valid (prev : Mode) (k n : Nat) : ¬ (profile prev).checkFails 0 k n := by
  have own : ∀ b, ((profile prev).bank b).owner = some 0 → b = 0 := by cases prev <;> decide +kernel
  have ends : endsWithSet ((profile prev).bank 0).strike 1 := by
    unfold endsWithSet runsStep
    cases prev <;> decide +kernel
  have quench : endsWithSet ((profile prev).bank 0).quench 0 := by
    unfold endsWithSet runsStep
    cases prev <;> decide +kernel
  have wipe : (∀ i, runsStep ((profile prev).bank 0).wipe i → (((profile prev).bank 0).wipe.get i).set = none) ∧
      (((profile prev).bank 0).wiperStation ≠ none ↔
        ∃ i, runsStep ((profile prev).bank 0).wipe i ∧ (((profile prev).bank 0).wipe.get i).wiper = true) := by
    unfold runsStep
    cases prev <;> decide +kernel
  have lamp : ∀ l x, (profile prev).lamp l = some x → x = lamp50 .off := fun l x h =>
    (only_lamp (held_lamp prev) l x h).2
  have shape : (profile prev).shapeGood 0 := by
    refine ⟨⟨1, ends, fun n hn => ?_⟩, quench, wipe⟩
    constructor
    · intro h
      have h0 : n = 0 := by
        revert h
        revert n
        decide
      subst h0
      exact ⟨0, lamp50 .off, by cases prev <;> decide +kernel, rfl, rfl⟩
    · rintro ⟨l, x, h, -, rfl⟩
      rw [lamp l x h]
      decide
  rintro (⟨-, -, h⟩ | ⟨-, -, h⟩ | ⟨-, -, h⟩ | ⟨-, b, -, h⟩ | ⟨-, b, -, h⟩ | ⟨-, b, -, h⟩ | ⟨-, -, h⟩ | ⟨-, -, h⟩ |
    ⟨-, b, -, h⟩ | ⟨-, -, h⟩)
  · revert h
    cases prev <;> decide +kernel
  · revert h
    cases prev <;> decide +kernel
  · exact h 0 (by cases prev <;> decide +kernel)
  · obtain ⟨hb, ⟨a, ha, -⟩, -⟩ := h
    rw [own b hb] at ha
    exact absurd ha (by simp)
  · obtain ⟨hb, h, -⟩ := h
    rw [own b hb] at h
    revert h
    unfold State.lacking
    cases prev <;> decide +kernel
  · obtain ⟨hb, h, -⟩ := h
    rw [own b hb] at h
    revert h
    cases prev <;> decide +kernel
  · revert h
    unfold curveRises
    cases prev <;> decide +kernel
  · revert h
    cases prev <;> decide +kernel
  · obtain ⟨hb, h, -⟩ := h
    rw [own b hb] at h
    exact h shape
  · revert h
    cases prev <;> decide +kernel

theorem witness_GiveEditReturnsTheChannel :
    let bare := { (profile .auto) with banks := (profile .auto).banks.set 0 Bank.reset };
    let flat := (profile .auto).modChan 0 fun c => { c with uvtCurve := put c.uvtCurve 1 ⟨400, 300⟩ };
    (held .auto).ready ∧ ((held .auto).chan 0).holder = some st5.station ∧
    ((held .auto).checkFails 0 1 255 ∧ ∀ j m, j < 1 → ¬ (held .auto).checkFails 0 j m) ∧
    (bare.ready ∧ (bare.chan 0).holder = some st5.station ∧ bare.checkFails 0 3 255) ∧
    (flat.ready ∧ (flat.chan 0).holder = some st5.station ∧ flat.checkFails 0 7 255) ∧
    ((profile .standdown).ready ∧ ((profile .standdown).chan 0).holder = some st5.station ∧
      (∀ k n, ¬ (profile .standdown).checkFails 0 k n) ∧ ((profile .standdown).chan 0).prevMode.armed = true) := by
  refine ⟨held_ready _, held_holder _, ⟨.inl ⟨rfl, rfl, by decide +kernel⟩, ?_⟩,
    ⟨nrm_ready, by decide +kernel, .inr (.inr (.inl ⟨rfl, rfl, by decide +kernel⟩))⟩,
    ⟨nrm_ready, by decide +kernel, ?_⟩,
    ⟨nrm_ready, by decide +kernel, profile_valid _, by decide +kernel⟩⟩
  · intro j m hj
    have h0 : j = 0 := by omega
    subst h0
    simp [State.checkFails]
  · refine .inr (.inr (.inr (.inr (.inr (.inr (.inl ⟨rfl, rfl, ?_⟩))))))
    unfold curveRises
    decide +kernel

theorem witness_GiveEditArmsTheChannel :
    (profile .unarmed).ready ∧ ((profile .unarmed).chan 0).holder = some st5.station ∧
    (∀ k n, ¬ (profile .unarmed).checkFails 0 k n) ∧ ((profile .unarmed).chan 0).prevMode = .unarmed :=
  ⟨nrm_ready, by decide +kernel, profile_valid _, by decide +kernel⟩

/-- `govern` with bank 0 listed where its state asks for it. -/
def listed (m : Mode) (st : BankState) : State :=
  (govern m st).modChan 0 fun c =>
    { c with startList := if st = .striking ∨ st = .warming ∨ st = .run then [0] else [] }

theorem listed_sound (m : Mode) (st : BankState) : (listed m st).listsSound := by
  unfold State.listsSound
  cases m <;> cases st <;> decide +kernel

theorem listed_selected (m : Mode) : (listed m .dark).selected 0 0 := by
  refine ⟨?_, .inl ⟨?_, ?_⟩⟩
  · unfold State.darkOf
    cases m <;> decide +kernel
  · intro l x h
    simp [show (listed m .dark).lamp l = none from nrm_lamp l] at h
  · intro c hc hcool hne
    clear hcool
    exfalso
    revert hc hne
    unfold State.darkOf
    revert c
    cases m <;> decide +kernel

theorem witness_SetModeTakesTheMode :
    let up := (listed .auto .dark).modChan 0 fun c => { c with pendingUp := 1 };
    let down := (listed .auto .run).modChan 0 fun c => { c with downCount := 30, settings := put c.settings 17 0 };
    ((govern .manual .run).ready ∧ ((govern .manual .run).chan 0).mode.armed = true ∧ (2 : Byte) = 2 ∧
      ((govern .standdown .run).chan 0).mode.armed = true) ∧
    (∀ m st, (listed m st).ready ∧ (listed m st).listsSound) ∧ (∀ m, (listed m .dark).selected 0 0) ∧
    (((listed .auto .dark).chan 0).mode = .auto ∧ ((listed .auto .dark).chan 0).adoption = none ∧
      ((listed .auto .dark).chan 0).startList.length < ((listed .auto .dark).chan 0).get .minBanks) ∧
    (0 < (up.chan 0).pendingUp ∧ up.darkCount 0 ≠ 0) ∧
    ((down.chan 0).pendingUp = 0 ∧ (down.chan 0).get .stageDownPasses ≤ (down.chan 0).downCount ∧
      (down.chan 0).get .minBanks < (down.chan 0).startList.length ∧
      (down.chan 0).upCount < (down.chan 0).get .stageUpPasses ∧ (down.chan 0).startList.getLast? = some 0) ∧
    (((listed .auto .run).chan 0).pendingUp = 0 ∧
      ¬ ((listed .auto .run).chan 0).startList.length < ((listed .auto .run).chan 0).get .minBanks) ∧
    (((listed .manual .run).chan 0).startList.getLast? = some 0 ∧ clampNat (0 : Byte).toNat 0 4 = 0 ∧
      ∀ b, ((listed .manual .run).bank b).owner = some 0 → ((listed .manual .run).bank b).state ≠ .quenching) ∧
    (0 : BankId) ∈ ((listed .standdown .run).chan 0).startList :=
  ⟨⟨govern_ready _ _, by decide +kernel, rfl, by decide +kernel⟩, fun m st => ⟨nrm_ready, listed_sound m st⟩,
    listed_selected, by decide +kernel, by decide +kernel, by decide +kernel, by decide +kernel, by decide +kernel,
    by decide +kernel⟩

theorem witness_UnarmLeavesTheLampsAlone :
    (govern .auto .run).ready ∧ ((govern .auto .run).chan 0).mode.armed = true :=
  ⟨govern_ready _ _, by decide +kernel⟩

theorem witness_BankLeavesServiceAndReturns :
    let one := fun (s : State) l => (s.modBank 0 fun x => { x with settings := put x.settings 15 1 }).setLamp 0 (some l);
    let w := (listed .auto .warming).modBank 0 fun x => { x with warmTimer := some 0 };
    let z := (listed .unarmed .warming).modBank 0 fun x => { x with warmTimer := some 0 };
    let f := (listed .auto .faulted).modBank 0 fun x => { x with faultTimer := some 0 };
    ((listed .auto .run).ready ∧ ((listed .auto .run).bank 0).state ≠ .locked ∧ (listed .auto .locked).ready ∧
      (listed .auto .locked).listsSound ∧ ((listed .auto .locked).bank 0).state = .locked ∧
      (((listed .unarmed .locked).bank 0).owner = some 0 ∧ ((listed .unarmed .locked).chan 0).mode = .unarmed)) ∧
    (w.atRest ∧ w.listsSound ∧ 0 ≤ w.now ∧ (w.bank 0).warmTimer = some 0 ∧ (w.bank 0).state = .warming ∧
      (∀ ch, (w.bank 0).owner = some ch → (w.chan ch).dormant = false) ∧
      w.litCount 0 < (w.bank 0).get .minLampsLit ∧
      ((one w (lamp50 .lit)).bank 0).get .minLampsLit ≤ (one w (lamp50 .lit)).litCount 0) ∧
    (z.atRest ∧ z.listsSound ∧ 0 ≤ z.now ∧ (z.bank 0).warmTimer = some 0 ∧ (z.bank 0).state = .warming ∧
      (z.bank 0).owner = some 0 ∧ (z.chan 0).dormant = true) ∧
    (f.atRest ∧ f.listsSound ∧ (f.bank 0).faultTimer = some 0 ∧ (f.bank 0).state = .faulted ∧
      f.nonDead 0 < (f.bank 0).get .minLampsLit ∧
      ((one f (lamp50 .off)).bank 0).get .minLampsLit ≤ (one f (lamp50 .off)).nonDead 0) := by
  refine ⟨⟨nrm_ready, by decide +kernel, nrm_ready, listed_sound _ _, by decide +kernel⟩,
    ⟨nrm_atRest, ?_, by decide +kernel⟩, ⟨nrm_atRest, ?_, by decide +kernel⟩, ⟨nrm_atRest, ?_, by decide +kernel⟩⟩ <;>
    unfold State.listsSound <;> decide +kernel

theorem witness_WipeNowStartsAWipe :
    (govern .auto .run).ready ∧ ((govern .auto .quenching).bank 0).state = .quenching ∧
    (((govern .auto .faulted).bank 0).state = .faulted ∧ ((govern .auto .faulted).bank 0).running = none) ∧
    (((govern .auto .run).bank 0).state = .run ∧ ((govern .auto .run).bank 0).running = none ∧
      ((govern .auto .run).bank 0).owner = some 0 ∧ ((govern .auto .run).chan 0).dormant = false) :=
  ⟨govern_ready _ _, by decide +kernel, by decide +kernel, by decide +kernel⟩

/-- The first instances of a kind in a state, none other pending. -/
def only (k : AlarmKind) (st : AlarmState) (cause : Bool) : State :=
  { nrm with alarms := (Vector.replicate 118 ⟨.idle, false⟩).set (alarmSlot k 0).1 ⟨st, cause⟩ }

theorem witness_ClaimTakesTheMostUrgent :
    (only .doseLow .inService true).ready ∧
    (∀ (k : AlarmKind) (i : Nat), i < k.scope → ((only .doseLow .inService true).alarm k i).state ≠ .pending) ∧
    (only .doseLow .pending true).ready ∧ 0 < AlarmKind.doseLow.scope ∧
    ((only .doseLow .pending true).alarm .doseLow 0).state = .pending ∧
    (∀ (m : AlarmKind) (j : Nat), j < m.scope → ((only .doseLow .pending true).alarm m j).state = .pending →
      m = .doseLow ∧ 0 ≤ j) := by
  have bound : ∀ m : AlarmKind, m.scope ≤ 12 := by intro m; cases m <;> decide
  refine ⟨nrm_ready, ?_, nrm_ready, by decide, by decide +kernel, ?_⟩
  · intro k i h
    have h12 : i < 12 := Nat.lt_of_lt_of_le h (bound k)
    have all : ∀ i : Fin 12, i.1 < k.scope → ((only .doseLow .inService true).alarm k i.1).state ≠ .pending := by
      cases k <;> decide +kernel
    exact all ⟨i, h12⟩ h
  · intro m j h hp
    have h12 : j < 12 := Nat.lt_of_lt_of_le h (bound m)
    have all : ∀ i : Fin 12, i.1 < m.scope → ((only .doseLow .pending true).alarm m i.1).state = .pending →
        m = .doseLow := by
      cases m <;> decide +kernel
    exact ⟨all ⟨j, h12⟩ h hp, Nat.zero_le j⟩

theorem witness_CompletionEndsOrReturnsAnInstance :
    let s := only .doseLow .inService true;
    let e := only .restarted .inServiceRecurred false;
    nrm.ready ∧ (nrm.alarm .lampDead 11).state = .idle ∧ 11 < AlarmKind.lampDead.scope ∧
    (s.ready ∧ 0 < AlarmKind.doseLow.scope ∧ (s.alarm .doseLow 0).state = .inService ∧ s.priority .doseLow ≠ 0 ∧
      AlarmKind.doseLow.latched = false ∧ (s.alarm .doseLow 0).cause = true ∧ s.threshold < s.priority .doseLow ∧
      s.alertSlot = none ∧ s.north.queue.length < 16 ∧ s.north.ownCount < 8) ∧
    (e.ready ∧ (e.alarm .restarted 0).state = .inServiceRecurred ∧ AlarmKind.restarted.latched = true) ∧
    ((only .doseLow .inService false).alarm .doseLow 0).cause = false ∧ 19 ≤ (19 : Byte).toNat ∧
    AlarmKind.doseLow.scope ≤ (4 : Byte).toNat :=
  ⟨nrm_ready, by decide +kernel, by decide, ⟨nrm_ready, by decide +kernel⟩, ⟨nrm_ready, by decide +kernel⟩,
    by decide +kernel, by decide, by decide⟩

theorem witness_FreshnessAndHoldTimersEnd :
    (∀ t, let s := (govern .auto .run).setPoint 0 (some (point20 t));
      s.atRest ∧ s.point 0 = some (point20 t) ∧ (point20 t).timer = some 0 ∧ 0 ≤ s.now) ∧
    ((govern .auto .run).setPoint 0 (some (point20 (.flow 0)))).flowPoint 0 = some 0 ∧
    ((govern .auto .run).chan 0).mode ≠ .unarmed ∧
    ((govern .unarmed .dark).setPoint 0 (some (point20 (.flow 0)))).flowPoint 0 = some 0 ∧
    ((govern .unarmed .dark).chan 0).mode = .unarmed ∧
    ((govern .auto .run).setPoint 0 (some (point20 (.intensity 0)))).intensityPoint 0 = some 0 ∧
    (let s := (listed .auto .run).setPoint 0 (some (point20 (.intensity 0)));
      s.atRest ∧ s.listsSound ∧ (s.bank 0).state = .run ∧ (s.bank 0).owner = some 0 ∧ (s.chan 0).mode = .auto ∧
      (s.chan 0).adoption = none ∧ (s.chan 0).pendingUp = 0) ∧
    (let s := ((govern .auto .run).setPoint 0 (some (point20 (.uvt [0])))).modChan 0 fun c => { c with uvtUse := .fresh };
      s.uvtPoint 0 = some 0 ∧ (s.chan 0).uvtUse = .fresh ∧ (s.chan 0).mode ≠ .unarmed) ∧
    (let s := nrm.modChan 0 fun c => { c with uvtHold := some 0 };
      s.atRest ∧ (s.chan 0).uvtHold = some 0 ∧ 0 ≤ s.now) :=
  ⟨fun t => ⟨nrm_atRest, by simp, rfl, Nat.le_refl 0⟩, by decide +kernel, by decide +kernel, by decide +kernel,
    by decide +kernel, by decide +kernel, ⟨nrm_atRest, listed_sound .auto .run, by decide +kernel⟩, by decide +kernel,
    nrm_atRest, by decide +kernel, by decide⟩

theorem witness_SagTimerAcceptsTheLevel :
    let s := fun n => (govern .auto .run).modBank 0 fun x =>
      { x with tracker := { x.tracker with sn := some n, sagTimer := some 0 } };
    (∀ n, (s n).atRest ∧ 0 ≤ (s n).now) ∧ ((s 1).bank 0).tracker.sagTimer = some 0 ∧ ((s 1).bank 0).state = .run ∧
      1 * 256 < ((s 1).bank 0).get .expected * ((s 1).bank 0).get .lowPct ∧
      ((s 1).alarm .outputLow 0).cause = false ∧ ((s 1).bank 0).running = none ∧ ((s 1).bank 0).owner = some 0 ∧
      ((s 1).chan 0).dormant = false ∧
      ¬ 65535 * 256 < ((s 65535).bank 0).get .expected * ((s 65535).bank 0).get .lowPct :=
  ⟨fun _ => ⟨nrm_atRest, Nat.le_refl 0⟩, by decide +kernel⟩

theorem witness_LeasesRunOut :
    let s := (govern .manual .run).modChan 0 fun c => { c with manualLease := some 0 };
    let e := (held .manual).modChan 0 fun c => { c with manualLease := some 0 };
    let v := (held .unarmed).modChan 0 fun c => { c with profileValid := true };
    (s.atRest ∧ (s.chan 0).manualLease = some 0 ∧ 0 ≤ s.now ∧ (s.chan 0).mode = .manual) ∧
    ((e.chan 0).manualLease = some 0 ∧ (e.chan 0).mode = .edit) ∧
    ((v.chan 0).editLease = some 0 ∧ (v.chan 0).profileValid = true ∧ (v.chan 0).prevMode = .unarmed) ∧
    (((held .auto).chan 0).editLease = some 0 ∧ ((held .auto).chan 0).profileValid = false) :=
  ⟨⟨nrm_atRest, by decide +kernel⟩, by decide +kernel, by decide +kernel, by decide +kernel⟩

theorem witness_AdoptionWindowEnds :
    let s := ((govern .auto .warming).modChan 0 fun c => { c with adoption := some 0, startList := [0] }).modBank 0
      (fun x => { x with settings := put x.settings 15 1 });
    let t := s.setLamp 0 (some (lamp50 .lit));
    t.atRest ∧ (t.chan 0).adoption = some 0 ∧ 0 ≤ t.now ∧ t.lamp 0 = some (lamp50 .lit) ∧
      (0 : BankId) ∈ (t.chan 0).startList ∧ (t.bank 0).owner = some 0 ∧ (t.bank 0).state = .warming ∧
      (t.bank 0).get .minLampsLit ≤ t.litCount 0 ∧
      (∀ x, (s.setLamp 0 (some x)).lamp 0 = some x) ∧
      ({ lamp50 .off with unconfirmed := true } : Lamp).state ≠ .lit ∧ (lamp50 .off).unconfirmed = false ∧
      (let e := ((govern .auto .dark).modChan 0 fun c => { c with adoption := some 0 }).setLamp 0 (some (lamp50 .lit));
        e.atRest ∧ (e.chan 0).adoption = some 0 ∧ e.lamp 0 = some (lamp50 .lit) ∧ (lamp50 .lit).state = .lit ∧
        (lamp50 .lit).bank ∉ (e.chan 0).startList) :=
  ⟨nrm_atRest, by decide +kernel, by decide, by simp, by decide +kernel, by decide +kernel, by decide +kernel,
    by decide +kernel, fun _ => by simp, by decide, rfl, nrm_atRest, by decide +kernel, by simp, rfl,
    by decide +kernel⟩

theorem witness_StepTimerTakesTheStep :
    let s := fun (k : ProgKind) (st : BankState) (i : Fin 8) => (listed .auto st).modBank 0 fun x =>
      { x with running := some k, stepTimer := some 0, stepIdx := i, wiperStation := some 60,
               wipe := put x.wipe 2 ⟨0, none, false, .set, false⟩ };
    let y := fun k st i => (((s k st i).bank 0).program k).get i;
    ((s .wipe .run 2).atRest ∧ 0 ≤ (s .wipe .run 2).now ∧ (s .wipe .run 2).listsSound ∧
      (s .strike .striking 3).listsSound ∧ (s .quench .quenching 0).listsSound ∧
      ((s .wipe .run 2).bank 0).running = some .wipe ∧ ((s .wipe .run 2).bank 0).stepTimer = some 0 ∧
      ((s .wipe .run 2).bank 0).stepIdx = 2) ∧
    ((y .wipe .run 2).set = none ∧ (y .wipe .run 2).wiper = false ∧ (y .wipe .run 2).last = false) ∧
    ((y .wipe .run 0).set = none ∧ (y .wipe .run 0).wiper = true ∧ (y .wipe .run 0).last = false ∧
      ((s .wipe .run 0).bank 0).wiperStation = some 60) ∧
    ((y .strike .striking 0).set = some 0x03 ∧ (y .strike .striking 0).last = false ∧
      ((s .strike .striking 0).bank 0).state = .striking) ∧
    ((y .strike .striking 3).set = some 0xFF ∧ (y .strike .striking 3).last = true) ∧
    ((y .quench .quenching 0).set = some 0x00 ∧ (y .quench .quenching 0).last = true ∧
      ((s .quench .quenching 0).bank 0).state = .quenching) ∧
    ((y .wipe .run 1).set = none ∧ (y .wipe .run 1).last = true ∧ ((s .wipe .run 1).bank 0).state = .run) ∧
    ((y .wipe .warming 1).last = true ∧ ((s .wipe .warming 1).bank 0).state = .warming ∧
      ((s .wipe .warming 1).bank 0).tracker.warm = false) ∧
    ((1 : Fin 8).1 = ((s .wipe .run 0).bank 0).stepIdx.1 + 1 ∧ ((s .wipe .run 0).bank 0).wiperSlot = none ∧
      (s .wipe .run 0).repeater = false ∧ (s .wipe .run 0).south.queue.length < 16 ∧
      (s .wipe .run 0).south.ownCount < 8 ∧
      (let w := (s .wipe .run 0).modBank 0 fun x => { x with wiperStation := none };
        (w.bank 0).wiperStation = none ∧ ((w.bank 0).program .wipe).get 0 = y .wipe .run 0)) ∧
    (∀ x k st i, ((s k st i).setLamp 0 (some x)).lamp 0 = some x) ∧
    ((0x03 : Byte).getLsbD (lamp50 .off).slot = true ∧ (0x00 : Byte).getLsbD (lamp50 .lit).slot = false ∧
      ({ lamp50 .off with wanted := false } : Lamp).wanted = false ∧ (lamp50 .lit).bank = 0) := by
  refine ⟨⟨nrm_atRest, by decide, ?_, ?_, ?_, by decide +kernel⟩, by decide +kernel, by decide +kernel,
    by decide +kernel, by decide +kernel, by decide +kernel, by decide +kernel, by decide +kernel,
    by decide +kernel, fun _ _ _ _ => by simp, by decide⟩ <;>
    unfold State.listsSound <;> decide +kernel

theorem witness_WipeTimersEnd :
    let s := fun r => (govern .auto .run).modBank 0 fun x =>
      { x with wipeInterval := some 0, running := r, wipeLimit := some 0, supervision := .moving };
    (s none).atRest ∧ 0 ≤ (s none).now ∧ ((s none).bank 0).wipeInterval = some 0 ∧ ((s none).bank 0).owner = some 0 ∧
      ((s none).chan 0).dormant = false ∧ ((s none).bank 0).running = none ∧
      ((s (some .wipe)).bank 0).running ≠ none ∧ ((s none).bank 0).wipeLimit = some 0 ∧
      ((s none).bank 0).supervision ≠ .idle :=
  ⟨nrm_atRest, by decide +kernel⟩

theorem witness_PulseTimersMoveTheLine :
    let s := fun ph n => nrm.modChan 0 fun c =>
      { c with pulsePhase := ph, pulseTimer := some 0, acct := { c.acct with backlog := n } };
    (s .high 0).atRest ∧ ((s .high 0).chan 0).pulseTimer = some 0 ∧ 0 ≤ (s .high 0).now ∧
      ((s .high 0).chan 0).pulsePhase = .high ∧ ((s .gap 255).chan 0).pulsePhase = .gap ∧
      0 < ((s .gap 1).chan 0).acct.backlog ∧ ((s .gap 0).chan 0).acct.backlog = 0 :=
  ⟨nrm_atRest, by decide +kernel⟩

end Sys2Proof.Tests
end

namespace Sys2Proof.Machine
open Sys2Proof

/-! ### Time and timer commands -/

theorem State.due_iff (s : State) (t : Timer) : s.due t = true ↔ ∃ d, t = some d ∧ d ≤ s.now := by
  cases t <;> simp [State.due]

/-- What a row of `dueCommands` queues: its command for each object whose timer is due. -/
theorem mem_dueRow {n : Nat} (q : Fin n → Bool) (c : Fin n → Instr) (i : Instr) :
    i ∈ ((List.finRange n).filter q).map c ↔ ∃ x, q x = true ∧ c x = i := by
  simp

/-- The commands that a tick queues are those of the timers that are due, row by row of the table. -/
theorem State.mem_dueCommands (s : State) (i : Instr) : i ∈ s.dueCommands ↔ s.due (s.timerOf i) = true := by
  unfold State.dueCommands allChans allBanks allLamps allPoints
  simp only [List.mem_append, mem_dueRow]
  constructor
  · rintro ((((((((((((((((((⟨x, h, rfl⟩ | ⟨x, h, rfl⟩) | ⟨x, h, rfl⟩) | ⟨x, h, rfl⟩) | ⟨x, h, rfl⟩) | ⟨x, h, rfl⟩) |
      ⟨x, h, rfl⟩) | ⟨x, h, rfl⟩) | ⟨x, h, rfl⟩) | ⟨x, h, rfl⟩) | ⟨x, h, rfl⟩) | ⟨x, h, rfl⟩) | ⟨x, h, rfl⟩) |
      ⟨x, h, rfl⟩) | ⟨x, h, rfl⟩) | ⟨x, h, rfl⟩) | ⟨x, h, rfl⟩) | ⟨x, h, rfl⟩) | ⟨x, h, rfl⟩) <;>
      simp only [State.timerOf] <;> try exact h
    all_goals split at h <;> simp_all
  · intro h
    cases i <;> simp only [State.timerOf] at h
    case freshnessTimerExpiry p => cases e : s.point p <;> simp_all [State.due]
    case strikeWindowExpiry l | waitTimerExpiry l | dropoutClearExpiry l | coolingStep l =>
      cases e : s.lamp l <;> simp_all [State.due]
    case fallbackTimerExpiry | uvtHoldTimerExpiry | sagTimerExpiry | settleTimerExpiry | manualLeaseExpiry |
        adoptionWindowExpiry | warmLimitExpiry | faultRestExpiry | editLeaseLapse | stepTimerExpiry |
        wipeIntervalExpiry | wipeLimitExpiry | pulseWidthExpiry | pulseGapExpiry =>
      simpa using h
    all_goals cases h

/-- Settles O2: the state after a tick is the state before but for the instant and the queue, and what it queues is
what `State.mem_dueCommands` says. -/
theorem idleStepIsOneMillisecond : Obligations.IdleStepIsOneMillisecond := by
  intro s hs
  refine ⟨tick s, by simp only [step, hs], rfl, by cases s; simp_all [tick, State.advanceTo], fun i => ?_⟩
  have timer : ({ s with now := s.now + 1 } : State).timerOf i = s.timerOf i := by cases i <;> rfl
  have mem := State.mem_dueCommands { s with now := s.now + 1 } i
  rwa [timer, State.due_iff] at mem

/-- Settles O3: each timer command asks first whether its timer is due, and an event that does nothing ends as it
began. -/
theorem expiryNeedsItsTimer : Obligations.ExpiryNeedsItsTimer := by
  intro i s hi hs hn
  have due : s.due (s.timerOf i) = false := Bool.eq_false_iff.mpr fun h => hn ((s.due_iff _).mp h)
  have rest : endEvent s = s := endEvent_atRest hs
  cases i <;> simp only [Instr.isExpiry, Bool.false_eq_true] at hi <;> simp only [State.timerOf] at due
  case freshnessTimerExpiry p =>
    cases e : s.point p <;> simp_all [exec, execFreshnessTimerExpiry, freshnessEnds]
  case strikeWindowExpiry l =>
    cases e : s.lamp l <;> simp_all [exec, execStrikeWindowExpiry, strikeWindowEnds]
  case waitTimerExpiry l => cases e : s.lamp l <;> simp_all [exec, execWaitTimerExpiry, waitEnds]
  case dropoutClearExpiry l => cases e : s.lamp l <;> simp_all [exec, execDropoutClearExpiry, dropoutsClear]
  case coolingStep l => cases e : s.lamp l <;> simp_all [exec, execCoolingStep, coolLamp]
  case pulseWidthExpiry ch =>
    by_cases e : (s.chan ch).pulsePhase = .high <;> simp_all [exec, execPulseWidthExpiry, pulseWidthEnds]
  case pulseGapExpiry ch =>
    by_cases e : (s.chan ch).pulsePhase = .gap <;> simp_all [exec, execPulseGapExpiry, pulseGapEnds]
  all_goals
    simp only [exec, execFallbackTimerExpiry, fallbackEnds, execUvtHoldTimerExpiry, uvtHoldEnds, execSagTimerExpiry,
      sagTimerEnds, execSettleTimerExpiry, settleEnds, execManualLeaseExpiry, manualLeaseEnds,
      execAdoptionWindowExpiry, windowEnds, execWarmLimitExpiry, warmLimitEnds, execFaultRestExpiry, faultRestEnds,
      execEditLeaseLapse, editLeaseEnds, execStepTimerExpiry, stepEnds, execWipeIntervalExpiry, intervalEnds,
      execWipeLimitExpiry, wipeLimitEnds, due, false_and, Bool.false_eq_true, if_false, rest]

/-- Settles O5: each invariant is read off the reset values. -/
theorem resetIsSound : Obligations.ResetIsSound := by
  intro straps
  have chan : ∀ c, (State.afterReset straps).chan c = Channel.reset := fun c => by
    simp [State.chan, State.afterReset, get_eq_getElem]
  have bank : ∀ b, (State.afterReset straps).bank b = Bank.reset := fun b => by
    simp [State.bank, State.afterReset, get_eq_getElem]
  have lamp : ∀ l, (State.afterReset straps).lamp l = none := fun l => by
    simp [State.lamp, State.afterReset, get_eq_getElem]
  have point : ∀ p, (State.afterReset straps).point p = none := fun p => by
    simp [State.point, State.afterReset, get_eq_getElem]
  refine ⟨?queues, ?totals, ?pulses, ?locks, ?lists, ?programs, ⟨?_, ?_, ?_, ?owned⟩, rfl, rfl⟩
  case queues =>
    intro p
    cases p
    · by_cases h : isRepeaterAddress straps.toNat <;>
        simp [State.port, State.afterReset, PortState.reset, PortState.ownCount, h]
    · simp [State.port, State.afterReset, PortState.reset, PortState.ownCount]
  case totals => intro c; rw [chan]; unfold Accounting.sound; decide
  case pulses => intro c; rw [chan]; unfold Channel.pulseSound; decide +kernel
  case locks => intro c; rw [chan]; unfold Channel.lockSound; decide
  case lists => intro c; simp [chan, bank, Channel.reset, Bank.reset]
  case programs => intro b; simp [bank, Bank.reset]
  case owned => intro c; simp [State.ownedBanks, bank, Bank.reset]
  all_goals simp [lamp, point]

end Sys2Proof.Machine

namespace Sys2Proof.Machine
open Sys2Proof

/-! ### Requests of a ready part -/

theorem stationOf_src (r : Sender) : stationOf r.src = r.station := rfl

@[simp] theorem byteOf_pt (k : Fin 8) : (BitVec.ofNat 8 k.1).toNat = k.1 := by
  simp
  omega

@[simp] theorem clearFlags_one (ch : ChanId) (s : State) :
    clearFlags [ch] s = s.modChan ch fun c => { c with profileValid := false } := rfl

/-- The lock test of one channel passes for the holder of its lock (09, R154). -/
theorem lockTest_holder {s : State} {ch : ChanId} {station : Nat} (h : (s.chan ch).holder = some station) :
    s.lockTest station [ch] = none := by
  have hf : (allChans.filter fun c => [ch].contains c).find? (fun c => (s.chan c).holder ≠ some station) = none := by
    simp +contextual [List.find?_eq_none, h]
  simp only [State.lockTest]
  rw [show (allChans.filter ([ch] : List ChanId).contains) = allChans.filter fun c => [ch].contains c from rfl, hf]

/-- The CLAMPED mark of a value (09, R151). -/
theorem clampMark_eq (v : Nat) (r : Range) : clampMark v r.lo r.hi = if r.outside v then 1 else 0 := by
  simp [clampMark, Range.outside, outside]

/-- Settles O34. -/
theorem clearTotalsZeroesTheVolumes : Obligations.ClearTotalsZeroesTheVolumes := by
  intro r ch s hs
  refine ⟨?_, fun b hb => ?_⟩
  · exact congrArg Host.Outcome.next (requestRow_handled (a := .ok) r _ _ hs (forChannel_ofNat ch _ s) hs.2.2.2 rfl)
  · exact congrArg Host.Outcome.next (requestRow_unchanged r _ _ hs (forChannel_none hb _ s))

/-- Settles O37: the lock test passes, and what `takeWrite` does is the flag cleared and the point stored. -/
theorem curvePointIsWritten : Obligations.CurvePointIsWritten := by
  intro r ch k a b s hs hl
  have taken : ∀ (rx ry : Range) (store : Fin 8 → CurvePoint → Channel → Channel),
      writeCurvePoint rx ry store (stationOf r.src) (BitVec.ofNat 8 ch.1) (BitVec.ofNat 8 k.1) a b s =
        (s.modChan ch fun c =>
          store k ⟨clampNat a.toNat rx.lo rx.hi, clampNat b.toNat ry.lo ry.hi⟩ { c with profileValid := false },
          .done (rx.outside a.toNat || ry.outside b.toNat) []) := by
    intro rx ry store
    simp only [writeCurvePoint, byteOf_chan, byteOf_pt, indexOf_val, takeWrite, stationOf_src, lockTest_holder hl,
      List.findSome?_cons, List.findSome?_nil, id, clearFlags_one, State.modChan_modChan, Range.clamp]
  have mark : ∀ rx ry : Range, (Answer.done (rx.outside a.toNat || ry.outside b.toNat) []).bytes =
      [clampMark a.toNat rx.lo rx.hi ||| clampMark b.toNat ry.lo ry.hi] := by
    intro rx ry
    rw [clampMark_eq, clampMark_eq]
    cases rx.outside a.toNat <;> cases ry.outside b.toNat <;> rfl
  constructor
  · refine congrArg Host.Outcome.next ((requestRow_handled r _ _ hs (taken uvtX uvtY storeUvtPoint) hs.2.2.2 rfl).trans ?_)
    rw [mark]
    rfl
  · refine congrArg Host.Outcome.next
      ((requestRow_handled r _ _ hs (taken ballastX ballastY storeBallastPoint) hs.2.2.2 rfl).trans ?_)
    rw [mark]
    rfl

/-! ### The pulse accrual (01, R17, R19; 10, R179) -/

/-- What an accrual at the instant `now` makes of its channel (01, R17; 10, R179). -/
def Channel.accrued (litres now : Nat) (c : Channel) : Channel :=
  let a := { c.acct with pulseRem := c.acct.pulseRem + litres }.toBacklog (c.get .pulseVolume)
  if c.acct.backlog = 0 ∧ 0 < a.backlog ∧ c.pulsePhase = .idle then
    { c with acct := { a with backlog := a.backlog - 1 }, pulsePhase := .high,
             pulseTimer := some (now + c.get .pulseWidth) }
  else { c with acct := a }

theorem modChan_congr {s : State} {ch : ChanId} {f g : Channel → Channel} (h : f (s.chan ch) = g (s.chan ch)) :
    s.modChan ch f = s.modChan ch g := by
  simp only [State.modChan, h]

/-- An accrual reaches its own channel only. -/
theorem accrue_eq (ch : ChanId) (litres : Nat) (s : State) :
    accrue ch litres s = s.modChan ch (Channel.accrued litres s.now) := by
  unfold accrue
  simp only [State.modChan_chan_self]
  split
  · next h => rw [startPulse, State.modChan_modChan]; exact modChan_congr (if_pos h).symm
  · next h => exact modChan_congr (if_neg h).symm

/-- Settles O36: the stored value is what the accrual then divides by. -/
theorem pulseVolumeWriteAccrues : Obligations.PulseVolumeWriteAccrues := by
  intro r ch v w n a s hs hl hw ha hn
  subst hw ha hn
  have taken : writeChannelSetting (stationOf r.src) (BitVec.ofNat 8 ch.1) 8 v s =
      (s.modChan ch fun c => Channel.accrued 0 s.now
          { c with settings := put c.settings 7 (clampNat v.toNat 1 65535), profileValid := false },
        .done (ChanSetting.pulseVolume.range.outside v.toNat) []) := by
    simp only [writeChannelSetting, byteOf_chan, indexOf_val,
      show chanSettingOfCode (8 : Byte).toNat = some .pulseVolume from rfl, takeWrite, stationOf_src, lockTest_holder hl,
      test, enumeratedSetting, reduceCtorEq, decide_false, Bool.or_self, Bool.not_false, Bool.true_or, if_true,
      List.findSome?_cons, List.findSome?_nil, id, clearFlags_one, storeChanSetting, chanSettingActs, accrue_eq,
      State.modChan_modChan, State.modChan_now]
    rfl
  refine congrArg Host.Outcome.next ((requestRow_handled r _ _ hs taken hs.2.2.2 rfl).trans ?_)
  have mark : (Answer.done (ChanSetting.pulseVolume.range.outside v.toNat) []).bytes = [clampMark v.toNat 1 65535] := by
    rw [show clampMark v.toNat 1 65535 = _ from clampMark_eq v.toNat ChanSetting.pulseVolume.range]
    rfl
  rw [mark]
  refine congrArg (fun t : State => t.withReply r 0x03 [clampMark v.toNat 1 65535]) (modChan_congr ?_)
  simp [Channel.accrued, Accounting.toBacklog, Channel.get, ChanSetting.idx]

end Sys2Proof.Machine

namespace Sys2Proof.Machine
open Sys2Proof

/-! ### Moves

An event of a bank, a lamp, the staging or the alarm unit is a chain of a few kinds of update. `State.moves` is their
closure: each operation is shown once to be such a chain, and what no chain can change is shown once by induction. -/

/-- A channel without what staging moves: its start order list, its counters and its pending count (05, R87 to R92). -/
def Channel.butStaging (c : Channel) : Channel :=
  { c with startList := [], upCount := 0, downCount := 0, pendingUp := 0 }

/-- What a bank keeps through every event but a write and a start or an end of its settle timer. -/
structure Bank.Record where
  settings : Vector Nat 20
  owner    : Option ChanId
  station  : Option Nat
  strike   : Vector Step 8
  quench   : Vector Step 8
  wipe     : Vector Step 8
  settle   : Timer

def Bank.record (x : Bank) : Bank.Record :=
  ⟨x.settings, x.owner, x.wiperStation, x.strike, x.quench, x.wipe, x.tracker.settleTimer⟩

@[simp] theorem Tracker.clearBlank_settleTimer (t : Tracker) : t.clearBlank.settleTimer = t.settleTimer := by
  unfold Tracker.clearBlank
  split <;> rfl

@[simp] theorem Tracker.onState_settleTimer (t : Tracker) (a c : BankState) :
    (t.onState a c).settleTimer = t.settleTimer := by
  simp only [Tracker.onState, apply_ite Tracker.settleTimer, ite_self]

/-- The written part of a lamp entry (07, Table 7-1). -/
def Lamp.entry (x : Lamp) : Nat × BankId × Nat :=
  (x.station, x.bank, x.slot)

/-- `t` follows from `s` by updates of start lists, counters, banks' and lamps' own states, by reports to the alarm unit
and by notes of commands made. -/
inductive State.moves (s : State) : State → Prop
  | refl : s.moves s
  | chan {t : State} {f : Channel → Channel} (h : s.moves t) (c : ChanId)
      (hf : ∀ x, (f x).butStaging = x.butStaging := by intro _; rfl) : s.moves (t.modChan c f)
  | bank {t : State} {f : Bank → Bank} (h : s.moves t) (b : BankId)
      (hf : (f (t.bank b)).record = (t.bank b).record := by rfl) : s.moves (t.modBank b f)
  | lamp {t : State} {f : Lamp → Lamp} (h : s.moves t) (l : LampId)
      (hf : ∀ x, (f x).entry = x.entry := by intro _; rfl) : s.moves (t.modLamp l f)
  | report {t : State} {k : AlarmKind} {i : Nat} {holds : Bool} (h : s.moves t)
      (hi : i < k.scope := by exact Fin.isLt _) : s.moves (report k i holds t)
  | raise {t : State} {k : AlarmKind} {i : Nat} (h : s.moves t) (hi : i < k.scope := by exact Fin.isLt _) :
      s.moves (raise k i t)
  | slot {t : State} (h : s.moves t) (q : SlotId) : s.moves { t with slotsMade := insertSlot q t.slotsMade }

namespace State.moves

set_option Elab.async false

variable {s t : State}

theorem trans {u : State} (h : s.moves t) (g : t.moves u) : s.moves u := by
  induction g with
  | refl => exact h
  | chan _ c hf ih => exact ih.chan c hf
  | bank _ b hf ih => exact ih.bank b hf
  | lamp _ l hf ih => exact ih.lamp l hf
  | report _ hi ih => exact ih.report hi
  | raise _ hi ih => exact ih.raise hi
  | slot _ q ih => exact ih.slot q

/-- Repetition of an operation that is a chain of moves. -/
theorem each {α : Type} {f : α → State → State} (turn : ∀ x {t : State}, s.moves t → s.moves (f x t)) (l : List α)
    (h : s.moves t) : s.moves (forEach l f t) :=
  forEach_keeps (fun x _ _ h => turn x h) h

/-! ### Conditions -/

theorem judgeFlowStale (h : s.moves t) (ch : ChanId) : s.moves (judgeFlowStale ch t) := h.report

theorem judgeUvtStale (h : s.moves t) (ch : ChanId) : s.moves (judgeUvtStale ch t) := h.report

theorem judgeBank (h : s.moves t) (b : BankId) : s.moves (judgeBank b t) :=
  (h.report).report

theorem judgeIntensityStale (h : s.moves t) (b : BankId) : s.moves (judgeIntensityStale b t) := h.report

theorem judgeChannel (h : s.moves t) (ch : ChanId) : s.moves (judgeChannel ch t) :=
  ((h.judgeFlowStale ch).judgeUvtStale ch).each (fun b _ h => h.judgeBank b) _

theorem judgeSag (h : s.moves t) (b : BankId) : s.moves (judgeSag b t) := h.report

/-! ### Programs and bank states -/

theorem startProgram (h : s.moves t) (b : BankId) (k : ProgKind) : s.moves (startProgram b k t) :=
  h.bank b

theorem startInterval (h : s.moves t) (b : BankId) : s.moves (startInterval b t) :=
  h.bank b (by split <;> rfl)

theorem startWipe (h : s.moves t) (b : BankId) : s.moves (startWipe b t) := by
  unfold Machine.startWipe
  dsimp only
  split
  · exact (h.startProgram b .wipe).startInterval b
  · exact h.startProgram b .wipe

theorem forcedWipe (h : s.moves t) (b : BankId) : s.moves (forcedWipe b t) := by
  unfold Machine.forcedWipe
  split
  · exact h.startWipe b
  · exact h

theorem judgeOutputLow (h : s.moves t) (b : BankId) : s.moves (judgeOutputLow b t) := by
  unfold Machine.judgeOutputLow
  dsimp only
  split
  · exact (h.report).forcedWipe b
  · exact h.report

/-- The bank takes a state: its tracker keeps the settle timer through it (03, R47, R54). -/
theorem setBankState (h : s.moves t) (b : BankId) (st : BankState) : s.moves (setBankState b st t) := by
  unfold Machine.setBankState
  dsimp only
  split
  · exact h
  · refine .judgeBank ?_ b
    split
    · exact ((h.bank b (by simp [Bank.record])).judgeSag b).report
    · exact h.bank b (by simp [Bank.record])

theorem unlist (h : s.moves t) (b : BankId) : s.moves (unlist b t) := by
  unfold Machine.unlist
  split
  · exact h.chan _
  · exact h

theorem enlist (h : s.moves t) (ch : ChanId) (b : BankId) : s.moves (enlist ch b t) := h.chan ch

theorem enterWarming (h : s.moves t) (b : BankId) : s.moves (enterWarming b t) :=
  (h.setBankState b .warming).bank b

theorem enterRun (h : s.moves t) (b : BankId) : s.moves (enterRun b t) :=
  ((h.setBankState b .run).bank b).startInterval b

theorem enterQuenching (h : s.moves t) (b : BankId) : s.moves (enterQuenching b t) :=
  (((h.setBankState b .quenching).bank b (by simp [Bank.record, Bank.abandon])).unlist b).startProgram b .quench

theorem enterDark (h : s.moves t) (b : BankId) : s.moves (enterDark b t) :=
  (h.setBankState b .dark).bank b

theorem darkenBank (h : s.moves t) (b : BankId) : s.moves (darkenBank b t) := by
  unfold Machine.darkenBank
  split
  · exact h
  · exact (h.setBankState b .dark).bank b (by simp [Bank.record, Bank.abandon, Bank.stopWiper])

theorem ungovernBank (h : s.moves t) (b : BankId) : s.moves (ungovernBank b t) := h.bank b (by simp [Bank.record, Bank.abandon, Bank.stopWiper])

/-! ### Staging -/

theorem zeroCounters (h : s.moves t) (ch : ChanId) : s.moves (zeroCounters ch t) := h.chan ch

theorem stageUp (h : s.moves t) (ch : ChanId) : s.moves (stageUp ch t) := by
  unfold Machine.stageUp
  split
  · exact h
  · next b _ =>
    exact ((((h.setBankState b .striking).bank b (by simp [Bank.record, Bank.abandon])).enlist ch b).startProgram b .strike).report

theorem stageDown (h : s.moves t) (ch : ChanId) : s.moves (stageDown ch t) := by
  unfold Machine.stageDown
  split
  · exact h
  · exact h.enterQuenching _

theorem servePending (h : s.moves t) (ch : ChanId) (n : Nat) : s.moves (servePending ch n t) := by
  induction n generalizing t with
  | zero => exact h
  | succ n ih =>
    unfold Machine.servePending
    split
    · exact ih (((h.stageUp ch).chan ch).zeroCounters ch)
    · exact h

theorem stageUpIf (h : s.moves t) (ch : ChanId) (called : Bool) : s.moves (stageUpIf ch called t) := by
  unfold Machine.stageUpIf
  split
  · exact (h.stageUp ch).zeroCounters ch
  · exact h

theorem autoSteps (h : s.moves t) (ch : ChanId) : s.moves (autoSteps ch t) := by
  have up := ((h.servePending ch 12).stageUpIf ch
    ((Machine.servePending ch 12 t).belowFloor ch)).stageUpIf ch
      ((Machine.stageUpIf ch ((Machine.servePending ch 12 t).belowFloor ch) (Machine.servePending ch 12 t)).saturated ch)
  unfold Machine.autoSteps
  dsimp only
  split
  · exact ((up.chan ch).stageDown ch).zeroCounters ch
  · exact up

theorem manualSteps (h : s.moves t) (ch : ChanId) : s.moves (manualSteps ch t) := by
  unfold Machine.manualSteps
  dsimp only
  split
  · split
    · exact h.stageUp ch
    · exact h
  · split
    · exact h.stageDown ch
    · exact h

theorem review (h : s.moves t) (ch : ChanId) : s.moves (review ch t) := by
  unfold Machine.review
  split
  · exact h
  · split
    · exact (h.autoSteps ch).report
    · exact (h.manualSteps ch).report
    · refine .report ?_
      split
      · exact h.stageUp ch
      · exact h
    · exact (h.each (fun b _ h => h.enterQuenching b) _).report
    · exact h
    · exact h

theorem reviewOwner (h : s.moves t) (b : BankId) : s.moves (reviewOwner b t) := by
  unfold Machine.reviewOwner
  split
  · exact h.review _
  · exact h

theorem requestStageUp (h : s.moves t) (ch : ChanId) : s.moves (requestStageUp ch t) := by
  unfold Machine.requestStageUp
  split
  · exact (h.chan ch).review ch
  · exact h

theorem requestForBank (h : s.moves t) (b : BankId) : s.moves (requestForBank b t) := by
  unfold Machine.requestForBank
  split
  · exact h.requestStageUp _
  · exact h

theorem runBank (h : s.moves t) (b : BankId) : s.moves (runBank b t) := (h.enterRun b).reviewOwner b

theorem darkBank (h : s.moves t) (b : BankId) : s.moves (darkBank b t) := (h.enterDark b).reviewOwner b

theorem recheckFaulted (h : s.moves t) (b : BankId) : s.moves (recheckFaulted b t) := by
  unfold Machine.recheckFaulted
  split
  · exact h.darkBank b
  · exact h

theorem unlockBank (h : s.moves t) (b : BankId) : s.moves (unlockBank b t) := by
  unfold Machine.unlockBank
  split
  · exact h.darkBank b
  · exact h

/-! ### Lamps -/

theorem placeLamp (h : s.moves t) (l : LampId) (c : LampCmd) : s.moves (placeLamp l c t) := by
  unfold Machine.placeLamp
  split
  · exact h
  · dsimp only
    split
    · exact (h.lamp l).slot (lampPos l)
    · exact h.lamp l

theorem placeWiper (h : s.moves t) (b : BankId) (station : Nat) : s.moves (placeWiper b station t) := by
  unfold Machine.placeWiper
  dsimp only
  split
  · exact (h.bank b).slot (wiperPos b)
  · exact h.bank b

theorem strikePath (h : s.moves t) (l : LampId) : s.moves (strikePath l t) := by
  unfold Machine.strikePath
  split
  · exact (h.lamp l).placeLamp l _
  · exact h

theorem putOutLit (h : s.moves t) (l : LampId) : s.moves (putOutLit l t) :=
  (h.lamp l).placeLamp l .quench

theorem actUnwanted (h : s.moves t) (l : LampId) : s.moves (actUnwanted l t) := by
  unfold Machine.actUnwanted
  split
  · exact h
  · split
    · exact (h.lamp l).placeLamp l .quench
    · exact h.putOutLit l
    · exact h.lamp l
    · exact h.lamp l
    · exact h
    · exact h

theorem setWanted (h : s.moves t) (w : Bool) (l : LampId) : s.moves (setWanted w l t) := by
  unfold Machine.setWanted
  split
  · exact h
  · dsimp only
    split
    · exact h
    · split
      · exact h.lamp l
      · split
        · split
          · exact (h.lamp l).strikePath l
          · exact h.lamp l
        · exact (h.lamp l).actUnwanted l

theorem wantAll (h : s.moves t) (w : Bool) (b : BankId) : s.moves (wantAll w b t) :=
  h.each (fun l _ h => h.setWanted w l) _

theorem applyLampSet (h : s.moves t) (b : BankId) (m : Byte) : s.moves (applyLampSet b m t) := by
  refine h.each (fun l t h => ?_) _
  split
  · exact h.setWanted _ l
  · exact h

theorem enterDead (h : s.moves t) (l : LampId) : s.moves (enterDead l t) := by
  unfold Machine.enterDead
  split
  · exact h
  · next x _ => exact ((h.lamp l).placeLamp l .quench).raise

theorem strikeFailure (h : s.moves t) (l : LampId) : s.moves (strikeFailure l t) := by
  unfold Machine.strikeFailure
  split
  · exact h
  · dsimp only
    split
    · exact (h.lamp l).placeLamp l .quench
    · split
      · exact (h.lamp l).placeLamp l .quench
      · exact (h.lamp l).enterDead l

theorem dropoutLamp (h : s.moves t) (l : LampId) : s.moves (dropoutLamp l t) := by
  unfold Machine.dropoutLamp
  split
  · exact h
  · dsimp only
    split
    · exact (h.lamp l).enterDead l
    · exact (h.lamp l).placeLamp l .quench

theorem overtempOut (h : s.moves t) (l : LampId) : s.moves (overtempOut l t) :=
  (h.lamp l).placeLamp l .quench

theorem becomeLit (h : s.moves t) (a : Bool) (l : LampId) : s.moves (becomeLit a l t) := h.lamp l

theorem becomeGoverned (h : s.moves t) (l : LampId) : s.moves (becomeGoverned l t) := by
  unfold Machine.becomeGoverned
  dsimp only
  split
  · exact h.lamp l
  · split
    · exact (h.lamp l).putOutLit l
    · exact (h.lamp l).strikePath l

theorem regovern (h : s.moves t) (before : Bool) (l : LampId) : s.moves (regovern before l t) := by
  unfold Machine.regovern
  split
  · exact h.lamp l
  · split
    · exact h.becomeGoverned l
    · exact h

/-! ### Wipers -/

theorem wiperStart (h : s.moves t) (b : BankId) : s.moves (wiperStart b t) := by
  unfold Machine.wiperStart
  split
  · exact h
  · exact (h.bank b).placeWiper b _

theorem wipeFails (h : s.moves t) (b : BankId) : s.moves (wipeFails b t) :=
  (h.bank b).raise

theorem wiperReport (h : s.moves t) (b : BankId) (w : WiperPos) : s.moves (wiperReport b w t) := by
  unfold Machine.wiperReport
  split
  · exact h
  · exact h
  · exact h.bank b
  · exact h.wipeFails b
  · exact h.bank b
  · exact h
  · exact h.wipeFails b

/-! ### Banks with lamps -/

theorem enterFaulted (h : s.moves t) (b : BankId) : s.moves (enterFaulted b t) :=
  ((((h.setBankState b .faulted).bank b (by simp [Bank.record, Bank.abandon])).wantAll false b).unlist b).bank b

theorem enterLocked (h : s.moves t) (b : BankId) : s.moves (enterLocked b t) :=
  (((h.setBankState b .locked).bank b (by simp [Bank.record, Bank.abandon, Bank.stopWiper])).wantAll false b).unlist b

/-- The request of a bank that was listed, and the review of its change of state (05, R88, R90). -/
theorem requestThenReview (h : s.moves t) (was : Bool) (b : BankId) :
    s.moves (Machine.reviewOwner b (if was then Machine.requestForBank b t else t)) := by
  cases was
  · exact h.reviewOwner b
  · exact (h.requestForBank b).reviewOwner b

theorem faultBank (h : s.moves t) (b : BankId) : s.moves (faultBank b t) := (h.enterFaulted b).requestThenReview _ b

theorem lockBank (h : s.moves t) (b : BankId) : s.moves (lockBank b t) := by
  unfold Machine.lockBank
  split
  · exact h
  · exact (h.enterLocked b).requestThenReview _ b

theorem adoptBank (h : s.moves t) (ch : ChanId) (b : BankId) : s.moves (adoptBank ch b t) :=
  (((h.enterWarming b).enlist ch b).wantAll true b).review ch

theorem judgeBurning (h : s.moves t) (b : BankId) : s.moves (judgeBurning b t) := by
  unfold Machine.judgeBurning faultIfShort
  split
  · split
    · exact h.faultBank b
    · exact h
  · split
    · exact h.runBank b
    · exact h
  all_goals exact h

theorem putOutChannel (h : s.moves t) (ch : ChanId) : s.moves (putOutChannel ch t) := by
  refine State.moves.each (fun b out h => ?_) _ (h.each (fun l t h => ?_) _)
  · split
    · exact h
    · exact h.judgeBurning b
  · split
    · exact h.putOutLit l
    · exact h

theorem judgeLit (h : s.moves t) (b : BankId) : s.moves (judgeLit b t) := by
  unfold Machine.judgeLit
  split
  · exact h
  · split
    · exact h
    · split
      · split
        · exact h.putOutChannel _
        · exact h.adoptBank _ b
      · exact h.judgeBurning b

theorem judgeLitFrom (h : s.moves t) (b : BankId) (old : Nat) : s.moves (judgeLitFrom b old t) := by
  unfold Machine.judgeLitFrom
  split
  · exact h
  · exact h.judgeLit b

/-! ### Lamp events -/

theorem adoptLamp (h : s.moves t) (l : LampId) (b : BankId) : s.moves (adoptLamp l b t) := by
  have lit := h.becomeLit true l
  unfold Machine.adoptLamp
  dsimp only
  split
  · split
    · exact lit.putOutLit l
    · exact lit.judgeLit b
  · exact lit.judgeLit b

theorem statusLit (h : s.moves t) (l : LampId) (x : Lamp) (was : Bool) : s.moves (statusLit l x was t) := by
  unfold Machine.statusLit
  split
  · split
    · exact h.adoptLamp l _
    · exact h.placeLamp l _
  · exact (h.becomeLit false l).judgeLit _
  · exact h
  · split
    · exact h
    · exact h.placeLamp l _
  · split
    · exact h
    · exact h.placeLamp l _
  · exact h.placeLamp l _

theorem statusLost (h : s.moves t) (l : LampId) (x : Lamp) : s.moves (statusLost l x t) := by
  unfold Machine.statusLost
  split
  · exact (h.dropoutLamp l).judgeLit _
  · exact h

theorem statusHot (h : s.moves t) (l : LampId) (x : Lamp) : s.moves (statusHot l x t) := by
  unfold Machine.statusHot
  split
  · exact (h.overtempOut l).judgeLit _
  · exact h.overtempOut l
  all_goals exact h.lamp l

theorem statusActs (h : s.moves t) (l : LampId) (x : Lamp) (st : LampStatus) : s.moves (statusActs l x st t) := by
  unfold Machine.statusActs
  split
  · exact h.statusLit l x _
  · exact h.statusLost l x
  · split
    · exact h.strikeFailure l
    · exact h
  · exact h.statusLost l x
  · exact h.statusHot l x

theorem lampStatus (h : s.moves t) (l : LampId) (st : LampStatus) : s.moves (lampStatus l st t) := by
  unfold Machine.lampStatus
  split
  · exact h
  · next x _ =>
    dsimp only
    split
    · split
      · exact ((h.lamp l).statusActs l x st).strikePath l
      · exact (h.lamp l).statusActs l x st
    · exact h.lamp l

theorem tapStatus (h : s.moves t) (src : Nat) (payload : List Byte) : s.moves (tapStatus src payload t) := by
  unfold Machine.tapStatus
  split
  · exact h.lampStatus _ _
  · exact h

theorem clearLamp (h : s.moves t) (l : LampId) : s.moves (clearLamp l t) := by
  unfold Machine.clearLamp
  split
  · exact h
  · split
    · exact ((h.lamp l).recheckFaulted _).strikePath l
    · exact h

theorem strikeWindowEnds (h : s.moves t) (l : LampId) : s.moves (strikeWindowEnds l t) := by
  unfold Machine.strikeWindowEnds
  split
  · exact h
  · split
    · exact h.strikeFailure l
    · exact h

theorem waitEnds (h : s.moves t) (l : LampId) : s.moves (waitEnds l t) := by
  unfold Machine.waitEnds
  split
  · exact h
  · split
    · exact (h.lamp l).strikePath l
    · exact h

theorem dropoutsClear (h : s.moves t) (l : LampId) : s.moves (dropoutsClear l t) := by
  unfold Machine.dropoutsClear
  split
  · exact h
  · split
    · exact h.lamp l
    · exact h

theorem coolLamp (h : s.moves t) (l : LampId) : s.moves (coolLamp l t) := by
  unfold Machine.coolLamp
  split
  · exact h
  · dsimp only
    split
    · split
      · exact (h.lamp l).strikePath l
      · exact h.lamp l
    · exact h

/-! ### Intensity -/

theorem warmSample (h : s.moves t) (b : BankId) (sn : Nat) : s.moves (warmSample b sn t) := by
  unfold Machine.warmSample
  dsimp only
  split
  · exact h.bank b
  · exact (h.bank b).judgeLit b

theorem runSample (h : s.moves t) (b : BankId) (sn : Nat) : s.moves (runSample b sn t) := by
  unfold Machine.runSample runStep
  dsimp only
  split
  · exact ((h.bank b).judgeSag b).judgeOutputLow b
  · split
    · exact (h.bank b).judgeOutputLow b
    · split
      · exact (((h.bank b).judgeSag b).judgeOutputLow b).requestForBank b
      · exact ((h.bank b).judgeSag b).judgeOutputLow b

theorem takeSample (h : s.moves t) (b : BankId) (v : Nat) : s.moves (takeSample b v t) := by
  unfold Machine.takeSample
  dsimp only
  split
  · exact h
  · split
    · exact h.bank b
    · split
      · exact (h.bank b).warmSample b _
      · exact (h.bank b).runSample b _
      all_goals exact h.bank b

theorem acceptLevel (h : s.moves t) (b : BankId) : s.moves (acceptLevel b t) :=
  (((h.bank b).judgeSag b).raise).judgeOutputLow b

theorem requestIfRun (h : s.moves t) (b : BankId) : s.moves (requestIfRun b t) := by
  unfold Machine.requestIfRun
  split
  · exact h.requestForBank b
  · exact h

theorem unseedBank (h : s.moves t) (b : BankId) : s.moves (unseedBank b t) := h.bank b

theorem intensityStale (h : s.moves t) (b : BankId) : s.moves (intensityStale b t) := (h.unseedBank b).requestIfRun b

/-! ### Bank events -/

theorem wipeEnds (h : s.moves t) (b : BankId) : s.moves (wipeEnds b t) := by
  unfold Machine.wipeEnds
  dsimp only
  split
  · split
    · exact (h.bank b).startWipe b
    · exact h.bank b
  · exact h.bank b

theorem endProgram (h : s.moves t) (b : BankId) (k : ProgKind) : s.moves (endProgram b k t) := by
  unfold Machine.endProgram
  dsimp only
  split
  · exact ((h.bank b (by simp [Bank.record])).enterWarming b).reviewOwner b
  · exact (h.bank b (by simp [Bank.record])).darkBank b
  · exact (h.bank b (by simp [Bank.record])).wipeEnds b

theorem applyBlank (h : s.moves t) (b : BankId) (op : BlankOp) : s.moves (applyBlank b op t) := by
  unfold Machine.applyBlank
  split
  · exact h.bank b
  · exact h.bank b (by simp [Bank.record, Bank.setTracker])
  · exact h

theorem stepEffects (h : s.moves t) (b : BankId) (x : Step) : s.moves (stepEffects b x t) := by
  have wiped : s.moves (if x.wiper then Machine.wiperStart b (Machine.applyBlank b x.blank t)
      else Machine.applyBlank b x.blank t) := by
    split
    · exact (h.applyBlank b _).wiperStart b
    · exact h.applyBlank b _
  unfold Machine.stepEffects
  dsimp only
  split
  · exact (wiped.applyLampSet b _).judgeLitFrom b _
  · exact wiped

theorem takeStep (h : s.moves t) (b : BankId) (k : ProgKind) : s.moves (takeStep b k t) := by
  unfold Machine.takeStep
  dsimp only
  split
  · split
    · exact (h.stepEffects b _).endProgram b k
    · exact (h.stepEffects b _).bank b
  · exact h.stepEffects b _

theorem stepEnds (h : s.moves t) (b : BankId) : s.moves (stepEnds b t) := by
  unfold Machine.stepEnds
  split
  · split
    · exact h.takeStep b _
    · exact h
  · exact h

theorem intervalEnds (h : s.moves t) (b : BankId) : s.moves (intervalEnds b t) := by
  unfold Machine.intervalEnds
  dsimp only
  split
  · split
    · exact h.bank b
    · split
      · exact (h.bank b).startWipe b
      · exact (h.bank b).bank b
  · exact h

theorem wipeLimitEnds (h : s.moves t) (b : BankId) : s.moves (wipeLimitEnds b t) := by
  unfold Machine.wipeLimitEnds
  split
  · exact h.wipeFails b
  · exact h

theorem warmLimitEnds (h : s.moves t) (b : BankId) : s.moves (warmLimitEnds b t) := by
  unfold Machine.warmLimitEnds
  dsimp only
  split
  · split
    · exact h.bank b
    · split
      · exact (h.bank b).runBank b
      · exact (h.bank b).faultBank b
  · exact h

theorem faultRestEnds (h : s.moves t) (b : BankId) : s.moves (faultRestEnds b t) := by
  unfold Machine.faultRestEnds
  split
  · exact (h.bank b).recheckFaulted b
  · exact h

theorem sagTimerEnds (h : s.moves t) (b : BankId) : s.moves (sagTimerEnds b t) := by
  unfold Machine.sagTimerEnds
  split
  · exact h.acceptLevel b
  · exact h

/-! ### The end of the adoption window -/

theorem confirmAtEnd (h : s.moves t) (l : LampId) : s.moves (confirmAtEnd l t) := by
  unfold Machine.confirmAtEnd
  split
  · exact h
  · split
    · exact (h.lamp l).strikePath l
    · exact h

theorem putOutUnlisted (h : s.moves t) (l : LampId) : s.moves (putOutUnlisted l t) := by
  unfold Machine.putOutUnlisted
  split
  · exact h
  · split
    · exact h.putOutLit l
    · exact h

theorem runAtEnd (h : s.moves t) (b : BankId) : s.moves (runAtEnd b t) := by
  unfold Machine.runAtEnd
  split
  · exact h.enterRun b
  · exact h

end State.moves

/-! ### What no chain of moves changes -/

namespace State.moves

variable {s t : State}

theorem event (h : s.moves t) : s.eventOnly t := by
  induction h with
  | refl => exact .refl s
  | chan _ c _ ih => exact ih.trans (modChan_stagingOnly c _ _).event
  | bank _ b _ ih => exact ih.trans (modBank_stagingOnly b _ _).event
  | lamp _ l _ ih => exact ih.trans (modLamp_eventOnly l _ _)
  | report _ _ ih => exact ih.trans (report_alarmUnitOnly _ _ _ _).event
  | raise _ _ ih => exact ih.trans (raise_alarmUnitOnly _ _ _).event
  | slot _ q ih => exact ih.trans ⟨_, _, _, _, _, _, _, rfl⟩

end State.moves

theorem State.alarmUnitOnly.chan {s t : State} (h : s.alarmUnitOnly t) (c : ChanId) : t.chan c = s.chan c := by
  obtain ⟨_, _, _, rfl⟩ := h
  rfl

theorem State.alarmUnitOnly.bank {s t : State} (h : s.alarmUnitOnly t) (b : BankId) : t.bank b = s.bank b := by
  obtain ⟨_, _, _, rfl⟩ := h
  rfl

theorem State.alarmUnitOnly.lamp {s t : State} (h : s.alarmUnitOnly t) (l : LampId) : t.lamp l = s.lamp l := by
  obtain ⟨_, _, _, rfl⟩ := h
  rfl

@[simp] theorem report_chan (k : AlarmKind) (i : Nat) (holds : Bool) (s : State) (c : ChanId) :
    (report k i holds s).chan c = s.chan c := (report_alarmUnitOnly k i holds s).chan c

@[simp] theorem report_bank (k : AlarmKind) (i : Nat) (holds : Bool) (s : State) (b : BankId) :
    (report k i holds s).bank b = s.bank b := (report_alarmUnitOnly k i holds s).bank b

@[simp] theorem report_lamp (k : AlarmKind) (i : Nat) (holds : Bool) (s : State) (l : LampId) :
    (report k i holds s).lamp l = s.lamp l := (report_alarmUnitOnly k i holds s).lamp l

@[simp] theorem raise_chan (k : AlarmKind) (i : Nat) (s : State) (c : ChanId) : (raise k i s).chan c = s.chan c :=
  (raise_alarmUnitOnly k i s).chan c

@[simp] theorem raise_bank (k : AlarmKind) (i : Nat) (s : State) (b : BankId) : (raise k i s).bank b = s.bank b :=
  (raise_alarmUnitOnly k i s).bank b

@[simp] theorem raise_lamp (k : AlarmKind) (i : Nat) (s : State) (l : LampId) : (raise k i s).lamp l = s.lamp l :=
  (raise_alarmUnitOnly k i s).lamp l

namespace State.moves

variable {s t : State}

theorem butStaging (h : s.moves t) (c : ChanId) : (t.chan c).butStaging = (s.chan c).butStaging := by
  induction h with
  | refl => rfl
  | chan _ d hf ih =>
    rw [State.modChan_chan]
    split
    · next e => rw [hf, ← ih, e]
    · exact ih
  | bank _ _ _ ih => exact ih
  | lamp _ _ _ ih => exact ih
  | report _ _ ih => rw [report_chan, ih]
  | raise _ _ ih => rw [raise_chan, ih]
  | slot _ _ ih => exact ih

/-- A chain of moves keeps whatever of a channel staging does not move. -/
theorem keeps {α : Type} (h : s.moves t) (f : Channel → α) (c : ChanId)
    (hf : ∀ x : Channel, f x.butStaging = f x := by intro _; rfl) : f (t.chan c) = f (s.chan c) := by
  rw [← hf, h.butStaging, hf]

theorem record (h : s.moves t) (b : BankId) : (t.bank b).record = (s.bank b).record := by
  induction h with
  | refl => rfl
  | chan _ _ _ ih => exact ih
  | bank _ c hf ih =>
    rw [State.modBank_bank]
    split
    · next e => rw [hf, ← ih, e]
    · exact ih
  | lamp _ _ _ ih => exact ih
  | report _ _ ih => rw [report_bank, ih]
  | raise _ _ ih => rw [raise_bank, ih]
  | slot _ _ ih => exact ih

theorem entry (h : s.moves t) (l : LampId) : (t.lamp l).map Lamp.entry = (s.lamp l).map Lamp.entry := by
  induction h with
  | refl => rfl
  | chan _ _ _ ih => exact ih
  | bank _ _ _ ih => exact ih
  | lamp _ m hf ih =>
    rw [State.modLamp_lamp]
    split
    · next e =>
      subst e
      rw [← ih, Option.map_map]
      exact congrArg (Option.map · _) (funext hf)
    · exact ih
  | report _ _ ih => rw [report_lamp, ih]
  | raise _ _ ih => rw [raise_lamp, ih]
  | slot _ _ ih => exact ih

end State.moves
end Sys2Proof.Machine

namespace Sys2Proof.Machine
open Sys2Proof

/-! ### The volume accounts through every step (01, R14 to R19) -/

/-- The volume accounts and the pulse account of one channel are sound. -/
def Channel.accountSound (c : Channel) : Prop :=
  c.acct.sound ∧ c.pulseSound

structure State.accountsSound (s : State) : Prop where
  each : ∀ ch, (s.chan ch).accountSound

theorem State.accountsSound_iff (s : State) : s.accountsSound ↔ s.totalsSound ∧ s.pulsesSound :=
  ⟨fun h => forall_and.mp h.each, fun h => ⟨forall_and.mpr h⟩⟩

/-- An accrual divides what has gathered by PulseVolume, whatever the remainder was (01, R17). -/
theorem Channel.accrued_sound {c : Channel} (litres now : Nat) (ha : c.acct.sound) (hv : 1 ≤ c.get .pulseVolume) :
    (c.accrued litres now).accountSound := by
  have rem : (c.acct.pulseRem + litres) % c.get .pulseVolume < c.get .pulseVolume := Nat.mod_lt _ hv
  unfold Channel.accrued
  dsimp only
  split
  · exact ⟨ha, hv, rem, (Nat.sub_le _ _).trans (Nat.min_le_left _ _)⟩
  · exact ⟨ha, hv, rem, Nat.min_le_left _ _⟩

theorem Accounting.addTotal_sound {a : Accounting} (h : a.sound) (v : Nat) : (a.addTotal v).sound := by
  obtain ⟨h1, h2, h3, h4, h5⟩ := h
  simp only [Accounting.sound, Accounting.addTotal, maxLitres]
  omega

/-- Volume counted in both totals keeps off-spec at or below total (01, R15, R16). -/
theorem Accounting.addOff_sound {a : Accounting} (h : a.sound) (v : Nat) : ((a.addTotal v).addOff v).sound := by
  obtain ⟨h1, h2, h3, h4, h5⟩ := h
  simp only [Accounting.sound, Accounting.addTotal, Accounting.addOff, maxLitres]
  omega

theorem Accounting.clearTotals_sound (c : Channel) (h : c.accountSound) :
    (c.setAcct Accounting.clearTotals).accountSound := by
  obtain ⟨_, hv, _, hb⟩ := h
  refine ⟨?_, hv, hv, hb⟩
  simp [Accounting.sound, Accounting.clearTotals, Channel.setAcct]

namespace State.accountsSound

set_option Elab.async false

variable {s t : State}

theorem of_channels (h : s.accountsSound) (e : t.channels = s.channels) : t.accountsSound := ⟨fun ch => by
  have : t.chan ch = s.chan ch := by simp only [State.chan, e]
  exact this ▸ h.each ch⟩

/-- An update of one channel that leaves its accounts alone, or at least sound. -/
theorem chan {f : Channel → Channel} (h : s.accountsSound) (c : ChanId)
    (hf : ∀ x : Channel, x.accountSound → (f x).accountSound := by exact fun _ => id) : (s.modChan c f).accountsSound :=
  ⟨fun d => by
    rw [State.modChan_chan]
    split
    · exact hf _ (h.each c)
    · exact h.each d⟩

theorem bank (h : s.accountsSound) (b : BankId) (f : Bank → Bank) : (s.modBank b f).accountsSound :=
  h.of_channels rfl

theorem lamp (h : s.accountsSound) (l : LampId) (f : Lamp → Lamp) : (s.modLamp l f).accountsSound :=
  h.of_channels rfl

theorem point (h : s.accountsSound) (p : PointId) (x : Option Point) : (s.setPoint p x).accountsSound :=
  h.of_channels rfl

theorem moves (h : s.accountsSound) (m : s.moves t) : t.accountsSound := ⟨fun ch => by
  have := h.each ch
  simp only [Channel.accountSound, Channel.pulseSound, Channel.get] at this ⊢
  rwa [m.keeps Channel.acct, m.keeps Channel.settings]⟩

theorem forAll {α : Type} {f : α → State → State} (turn : ∀ x {t : State}, t.accountsSound → (f x t).accountsSound)
    (l : List α) (h : s.accountsSound) : (forEach l f s).accountsSound :=
  forEach_keeps (fun x _ _ h => turn x h) h

theorem report (h : s.accountsSound) {k : AlarmKind} {i : Nat} {b : Bool} : (report k i b s).accountsSound := by
  obtain ⟨_, _, _, e⟩ := report_alarmUnitOnly k i b s
  exact h.of_channels (by rw [e])

theorem raise (h : s.accountsSound) {k : AlarmKind} {i : Nat} : (raise k i s).accountsSound := by
  obtain ⟨_, _, _, e⟩ := raise_alarmUnitOnly k i s
  exact h.of_channels (by rw [e])

theorem endEvent (h : s.accountsSound) : (endEvent s).accountsSound := by
  obtain ⟨_, _, _, _, _, e⟩ := endEvent_framesOnly s
  exact h.of_channels (by rw [e])

/-! ### Passes -/

theorem startPulse (h : s.accountsSound) (ch : ChanId) : (startPulse ch s).accountsSound :=
  h.chan ch fun _ ⟨ha, hv, hr, hb⟩ => ⟨ha, hv, hr, (Nat.sub_le _ _).trans hb⟩

theorem accrue (h : s.accountsSound) (ch : ChanId) (litres : Nat) : (accrue ch litres s).accountsSound := by
  rw [accrue_eq]
  exact h.chan ch fun _ ⟨ha, hv, _⟩ => Channel.accrued_sound litres s.now ha hv

theorem volumeStage (h : s.accountsSound) (ch : ChanId) (qm : Nat) (offSpec : Bool) :
    (volumeStage ch qm offSpec s).accountsSound := by
  unfold Machine.volumeStage
  dsimp only
  split
  · rw [State.modChan_modChan]
    have counted := h.chan (f := fun c =>
      (c.setAcct fun a => { a.addTotal (qm * s.elapsed ch) with lastPass := some s.now }).setAcct
        fun a => a.addOff (qm * s.elapsed ch)) ch fun _ ⟨ha, hp⟩ => ⟨Accounting.addOff_sound ha _, hp⟩
    exact counted.accrue ch _
  · exact h.chan ch fun _ ⟨ha, hp⟩ => ⟨Accounting.addTotal_sound ha _, hp⟩

theorem review (h : s.accountsSound) (ch : ChanId) : (review ch s).accountsSound := h.moves (.review .refl ch)

theorem setLampCode (h : s.accountsSound) (code : Nat) (l : LampId) : (setLampCode code l s).accountsSound := by
  unfold Machine.setLampCode
  split
  · split
    · exact h.moves (.placeLamp .refl l _)
    · exact h
  · exact h

theorem changeCode (h : s.accountsSound) (ch : ChanId) (code : Nat) : (changeCode ch code s).accountsSound := by
  unfold Machine.changeCode
  have powered := h.chan (f := fun c => c.setPower fun p => { p with code := code, applied := p.pd }) ch
  exact forAll (fun b _ h => h.bank b _) _ (forAll (fun l _ h => h.setLampCode code l) _ powered)

theorem recode (h : s.accountsSound) (ch : ChanId) : (recode ch s).accountsSound := by
  unfold Machine.recode
  dsimp only
  split
  · exact h
  · exact h.changeCode ch _

theorem judgeDoseLow (h : s.accountsSound) (ch : ChanId) : (judgeDoseLow ch s).accountsSound := h.report

theorem judgeOutOfRange (h : s.accountsSound) (ch : ChanId) : (judgeOutOfRange ch s).accountsSound := h.report

theorem judgeFlowStale (h : s.accountsSound) (ch : ChanId) : (judgeFlowStale ch s).accountsSound := h.report

theorem judgeUvtStale (h : s.accountsSound) (ch : ChanId) : (judgeUvtStale ch s).accountsSound := h.report

theorem powerPass (h : s.accountsSound) (ch : ChanId) (e : Int) : (powerPass ch e s).accountsSound := by
  unfold Machine.powerPass
  exact (h.chan ch).recode ch

theorem moveCounters (h : s.accountsSound) (ch : ChanId) (e : Int) :
    (s.modChan ch fun c => c.moveCounters e).accountsSound :=
  h.chan ch fun c hc => by
    unfold Channel.moveCounters
    split <;> exact hc

theorem fullPass (h : s.accountsSound) (ch : ChanId) : (fullPass ch s).accountsSound := by
  unfold Machine.fullPass
  dsimp only
  have judged := h.chan (f := fun c => c.setAcct fun a => a.judged (s.fullResult ch) ((s.chan ch).get .dtarget)) ch
  exact (((((judged.judgeDoseLow ch).judgeOutOfRange ch).volumeStage ch _ _).powerPass ch _).moveCounters ch _).review ch

theorem takePass (h : s.accountsSound) (ch : ChanId) : (takePass ch s).accountsSound := by
  unfold Machine.takePass frozenPass
  split
  · exact h.fullPass ch
  · exact h.fullPass ch
  · exact h.fullPass ch
  · exact h.fullPass ch
  · exact volumeStage (h.chan ch) ch _ _
  · exact h

theorem startFallback (h : s.accountsSound) (ch : ChanId) : (startFallback ch s).accountsSound := h.chan ch

theorem stopFallback (h : s.accountsSound) (ch : ChanId) : (stopFallback ch s).accountsSound := h.chan ch

theorem clearAccounting (h : s.accountsSound) (ch : ChanId) : (clearAccounting ch s).accountsSound :=
  report (report (h.chan ch))

/-! ### Points -/

theorem setUvt (h : s.accountsSound) (ch : ChanId) (u : UvtUse) (hold : Timer) :
    (setUvt ch u hold s).accountsSound := by
  unfold Machine.setUvt
  exact (h.chan ch).judgeUvtStale ch

theorem uvtFresh (h : s.accountsSound) (ch : ChanId) : (uvtFresh ch s).accountsSound := h.setUvt ch _ _

theorem uvtFailsafe (h : s.accountsSound) (ch : ChanId) : (uvtFailsafe ch s).accountsSound := h.setUvt ch _ _

theorem uvtStale (h : s.accountsSound) (ch : ChanId) (value : Option Nat) : (uvtStale ch value s).accountsSound := by
  unfold Machine.uvtStale
  dsimp only
  split
  · split
    · exact h.uvtFailsafe ch
    · exact h.setUvt ch _ _
  · exact h.uvtFailsafe ch
  · exact h
  · exact h

theorem tellAccepted (h : s.accountsSound) (p : PointId) (c : PointCfg) (raw : Nat) :
    (tellAccepted p c raw s).accountsSound := by
  unfold Machine.tellAccepted
  split
  · split
    · exact ((h.stopFallback _).judgeFlowStale _).takePass _
    · exact h
  · refine forAll (fun ch t h => ?_) _ h
    split
    · exact h.uvtFresh ch
    · exact h
  · split
    · exact h.moves ((State.moves.judgeIntensityStale .refl _).takeSample _ _)
    · exact h
  · split
    · exact h.moves (.wiperReport .refl _ _)
    · exact h

theorem intakeItem (h : s.accountsSound) (src : Nat) (i : SampleItem) : (intakeItem src i s).accountsSound := by
  unfold Machine.intakeItem acceptItem
  split
  · exact h
  · split
    · split
      · exact (h.point _ _).tellAccepted _ _ _
      · exact h
    · exact h

theorem intakeItems (h : s.accountsSound) (src : Nat) (l : List SampleItem) : (intakeItems src l s).1.accountsSound := by
  induction l generalizing s with
  | nil => exact h
  | cons i l ih =>
    unfold Machine.intakeItems
    dsimp only
    split <;> exact ih (h.intakeItem src i)

theorem flowStale (h : s.accountsSound) (ch : ChanId) : (flowStale ch s).accountsSound := by
  unfold Machine.flowStale
  split
  · exact (h.startFallback ch).judgeFlowStale ch
  · exact h.judgeFlowStale ch

theorem tellStale (h : s.accountsSound) (p : PointId) (x : Point) : (tellStale p x s).accountsSound := by
  unfold Machine.tellStale
  split
  · split
    · exact h.flowStale _
    · exact h
  · refine forAll (fun ch t h => ?_) _ h
    split
    · exact h.uvtStale ch _
    · exact h
  · split
    · exact h.moves ((State.moves.judgeIntensityStale .refl _).intensityStale _)
    · exact h
  · exact h

theorem freshnessEnds (h : s.accountsSound) (p : PointId) : (freshnessEnds p s).accountsSound := by
  unfold Machine.freshnessEnds goStale
  split
  · exact h
  · split
    · split
      · exact h
      · exact (h.point p _).tellStale p _
    · exact h

theorem discardPoint (h : s.accountsSound) (p : PointId) : (discardPoint p s).accountsSound := by
  unfold Machine.discardPoint
  split
  · exact h
  · dsimp only
    split
    · exact (h.point p _).tellStale p _
    · exact h.of_channels rfl

theorem rechooseFlow (h : s.accountsSound) (ch : ChanId) (old : Option PointId) :
    (rechooseFlow ch old s).accountsSound := by
  unfold Machine.rechooseFlow
  split
  · exact h
  · split
    · exact (h.stopFallback ch).judgeFlowStale ch
    · exact h.flowStale ch

theorem rechooseUvt (h : s.accountsSound) (ch : ChanId) (old : Option PointId) :
    (rechooseUvt ch old s).accountsSound := by
  unfold Machine.rechooseUvt
  split
  · split
    · exact h
    · exact h.uvtFresh ch
  · split
    · exact h
    · exact h.uvtFailsafe ch

theorem rechooseIntensity (h : s.accountsSound) (b : BankId) (old : Option PointId) :
    (rechooseIntensity b old s).accountsSound := by
  unfold Machine.rechooseIntensity
  dsimp only
  split
  · exact h
  · split
    · exact h.moves ((State.moves.unseedBank .refl b).judgeIntensityStale b)
    · exact h.moves (((State.moves.unseedBank .refl b).judgeIntensityStale b).requestIfRun b)

theorem writePoint (h : s.accountsSound) (p : PointId) (new : Option PointCfg) : (writePoint p new s).accountsSound := by
  have discarded : ∀ keeps : Bool, (if keeps then s else Machine.discardPoint p s).accountsSound := by
    intro keeps
    cases keeps
    · exact h.discardPoint p
    · exact h
  unfold Machine.writePoint
  exact forAll (fun b _ h => h.rechooseIntensity b _) _ (forAll (fun ch _ h => h.rechooseUvt ch _) _
    (forAll (fun ch _ h => h.rechooseFlow ch _) _ ((discarded _).of_channels rfl)))

/-! ### Modes -/

theorem calmStaging (h : s.accountsSound) (ch : ChanId) : (calmStaging ch s).accountsSound := report (h.chan ch)

theorem fallbackIfStale (h : s.accountsSound) (ch : ChanId) : (fallbackIfStale ch s).accountsSound := by
  unfold Machine.fallbackIfStale
  split
  · exact h
  · exact h.startFallback ch

theorem judgeChannel (h : s.accountsSound) (ch : ChanId) : (judgeChannel ch s).accountsSound :=
  h.moves (.judgeChannel .refl ch)

theorem enterEdit (h : s.accountsSound) (ch : ChanId) : (enterEdit ch s).accountsSound := by
  have calm := calmStaging (h.chan (f := fun c => { c with mode := .edit, prevMode := (s.chan ch).mode }) ch) ch
  unfold Machine.enterEdit
  dsimp only
  split
  · exact h
  · split
    · exact (calm.fallbackIfStale ch).judgeChannel ch
    · exact calm

theorem arm (h : s.accountsSound) (ch : ChanId) (m : Mode) : (arm ch m s).accountsSound := by
  unfold Machine.arm
  dsimp only
  have opened := h.chan (f := fun c => c.armed m (s.timer adoptionPeriod)) ch
  have lamps : ∀ (l : List LampId) {u : State}, u.accountsSound →
      (forEach l (fun l s => s.modLamp l Lamp.armed) u).accountsSound := fun l _ h => forAll (fun l _ h => h.lamp l _) l h
  refine judgeChannel (fallbackIfStale (stopFallback (clearAccounting (calmStaging (lamps _ ?_) ch) ch) ch) ch) ch
  exact forAll (fun b _ h => (h.moves (.darkenBank .refl b)).bank b _) _ opened

theorem departEdit (h : s.accountsSound) (ch : ChanId) : (departEdit ch s).accountsSound := by
  unfold Machine.departEdit
  dsimp only
  split
  · exact (h.arm ch _).review ch
  · exact (recode (h.chan ch) ch).review ch

theorem enterUnarmed (h : s.accountsSound) (ch : ChanId) : (enterUnarmed ch s).accountsSound := by
  unfold Machine.enterUnarmed
  dsimp only
  refine judgeChannel (stopFallback (clearAccounting (calmStaging ?_ ch) ch) ch) ch
  have stopped := h.chan (f := Channel.unarmed) ch
  exact forAll (fun l _ h => h.lamp l _) _ (stopped.moves (.each (fun b _ h => h.ungovernBank b) _ .refl))

theorem lapse (h : s.accountsSound) (ch : ChanId) : (lapse ch s).accountsSound := by
  unfold Machine.lapse freeLock
  dsimp only
  split
  · exact departEdit (h.chan ch) ch
  · exact raise (enterUnarmed (h.chan ch) ch)

theorem changeMode (h : s.accountsSound) (ch : ChanId) (m : Mode) : (changeMode ch m s).accountsSound := by
  unfold Machine.changeMode
  exact (h.chan ch).calmStaging ch

theorem takeMode (h : s.accountsSound) (ch : ChanId) (m : Mode) (value count lease : Nat) :
    (takeMode ch m value count lease s).accountsSound := by
  have changed : (if (s.chan ch).mode = m then s else Machine.changeMode ch m s).accountsSound := by
    split
    · exact h
    · exact h.changeMode ch m
  unfold Machine.takeMode setManual
  refine review ?_ ch
  split
  · exact changed.chan ch
  · exact changed

theorem manualLeaseEnds (h : s.accountsSound) (ch : ChanId) : (manualLeaseEnds ch s).accountsSound := by
  have given := h.chan (f := fun c => { c with manualLease := none }) ch
  unfold Machine.manualLeaseEnds
  dsimp only
  split
  · split
    · exact (given.changeMode ch _).review ch
    · split
      · exact given.chan ch
      · exact given
    all_goals exact given
  · exact h

theorem editLeaseEnds (h : s.accountsSound) (ch : ChanId) : (editLeaseEnds ch s).accountsSound := by
  unfold Machine.editLeaseEnds
  split
  · exact h.lapse ch
  · exact h

theorem fallbackEnds (h : s.accountsSound) (ch : ChanId) : (fallbackEnds ch s).accountsSound := by
  unfold Machine.fallbackEnds
  split
  · exact (h.takePass ch).startFallback ch
  · exact h

theorem uvtHoldEnds (h : s.accountsSound) (ch : ChanId) : (uvtHoldEnds ch s).accountsSound := by
  unfold Machine.uvtHoldEnds
  split
  · exact h.uvtFailsafe ch
  · exact h

theorem pulseWidthEnds (h : s.accountsSound) (ch : ChanId) : (pulseWidthEnds ch s).accountsSound := by
  unfold Machine.pulseWidthEnds startGap
  split
  · exact h.chan ch
  · exact h

theorem pulseGapEnds (h : s.accountsSound) (ch : ChanId) : (pulseGapEnds ch s).accountsSound := by
  unfold Machine.pulseGapEnds
  split
  · split
    · exact h.startPulse ch
    · exact h.chan ch
  · exact h

theorem windowEnds (h : s.accountsSound) (ch : ChanId) : (windowEnds ch s).accountsSound := by
  unfold Machine.windowEnds
  dsimp only
  split
  · have closed := h.chan (f := fun c => { c with adoption := none }) ch
    refine review (closed.moves ?_) ch
    exact .each (fun b _ h => h.runAtEnd b) _ (.each (fun l _ h => h.putOutUnlisted l) _
      (.each (fun l _ h => h.confirmAtEnd l) _ .refl))
  · exact h

/-! ### Alarms -/

theorem enterPending (h : s.accountsSound) (k : AlarmKind) (i : Nat) : (enterPending k i s).accountsSound := by
  obtain ⟨_, _, _, e⟩ := enterPending_alarmUnitOnly k i s
  exact h.of_channels (by rw [e])

theorem claim (h : s.accountsSound) : (claim s).accountsSound := by
  unfold Machine.claim
  split
  · exact h.of_channels rfl
  · exact h

theorem complete (h : s.accountsSound) (k : AlarmKind) (i : Nat) : (complete k i s).accountsSound := by
  have finish : ∀ b : Bool, (if b then Machine.enterPending k i s else leavePending k i .idle s).accountsSound := by
    intro b
    cases b
    · exact h.of_channels rfl
    · exact h.enterPending k i
  unfold Machine.complete
  dsimp only
  split
  · exact finish _
  · exact finish _
  · exact h
  · exact h

theorem reprioritise (h : s.accountsSound) (k : AlarmKind) (old new i : Nat) :
    (reprioritise k old new i s).accountsSound := by
  unfold Machine.reprioritise
  split
  · exact h.of_channels rfl
  · split
    · exact h.enterPending k i
    · exact h

theorem setPriority (h : s.accountsSound) (k : AlarmKind) (new : Nat) : (setPriority k new s).accountsSound := by
  unfold Machine.setPriority
  dsimp only
  split
  · exact h
  · have stored : State.accountsSound { s with priorities := put s.priorities k.idx new } := h.of_channels rfl
    have moved := forAll (f := Machine.reprioritise k (s.priority k) new) (fun i _ h => h.reprioritise k _ _ i)
      (List.range k.scope) stored
    exact moved.of_channels rfl

end State.accountsSound
end Sys2Proof.Machine

namespace Sys2Proof.Machine
open Sys2Proof

/-! ### The volume accounts through every command -/

theorem ChanSetting.eq_pulseVolume {x : ChanSetting} (h : ChanSetting.pulseVolume.idx = x.idx) : x = .pulseVolume := by
  revert h
  cases x <;> decide

theorem clampNat_ge {x lo hi : Nat} (h : lo ≤ hi) : lo ≤ clampNat x lo hi := by
  unfold clampNat
  split
  · exact Nat.le_refl lo
  · split <;> omega

/-- A stored setting other than PulseVolume is none that the accounts read. -/
theorem Channel.accountSound.store {c : Channel} (h : c.accountSound) {x : ChanSetting} (hx : x ≠ .pulseVolume)
    (v : Nat) : ({ c with settings := put c.settings x.idx v } : Channel).accountSound := by
  have ne : ChanSetting.pulseVolume.idx ≠ x.idx := fun e => hx (ChanSetting.eq_pulseVolume e)
  simpa only [Channel.accountSound, Channel.pulseSound, Channel.get, put_get_ne _ _ ne] using h

/-- A channel keeps sound accounts through a warm restart, which clears no volume (01, R23). -/
theorem Channel.accountSound.restarted {c : Channel} (h : c.accountSound) (now : Nat) :
    (c.restarted now).accountSound := by
  unfold Channel.restarted
  dsimp only
  split <;> exact h

namespace State.accountsSound

set_option Elab.async false

variable {s : State}

/-! ### Table writes -/

theorem clearFlags (h : s.accountsSound) (chs : List ChanId) : (clearFlags chs s).accountsSound :=
  forAll (fun ch _ h => h.chan ch) chs h

theorem takeWrite (h : s.accountsSound) {tests : List (Option Reason)} {chs : List ChanId} {clamped : Bool}
    {effect : State → State} (he : ∀ {t : State}, t.accountsSound → (effect t).accountsSound) :
    (takeWrite tests chs clamped effect s).1.accountsSound := by
  unfold Machine.takeWrite
  split
  · exact h
  · exact he (h.clearFlags chs)

theorem chanSettingActs (h : s.accountsSound) (ch : ChanId) (x : ChanSetting) (old v : Nat) :
    (chanSettingActs ch x old v s).accountsSound := by
  have adjusted : (forEach (s.channelLamps ch) (fun l s => s.modLamp l (Lamp.adjust x old v)) s).accountsSound :=
    forAll (fun l _ h => h.lamp l _) _ h
  unfold Machine.chanSettingActs
  split
  · exact h.accrue ch 0
  · exact h.chan ch
  · exact adjusted
  · exact adjusted
  · exact adjusted
  · exact h

/-- A write of PulseVolume leaves a remainder that may be too large, and the accrual that follows at once mends it
(01, R19). -/
theorem storeChanSetting (h : s.accountsSound) (ch : ChanId) (x : ChanSetting) (v : Nat) :
    (storeChanSetting ch x (x.range.clamp v) s).accountsSound := by
  unfold Machine.storeChanSetting
  by_cases hx : x = .pulseVolume
  · subst hx
    show (Machine.accrue ch 0 _).accountsSound
    rw [accrue_eq, State.modChan_modChan]
    refine h.chan ch fun c hc => Channel.accrued_sound 0 _ hc.1 ?_
    simp only [Channel.get, put_get_self]
    exact clampNat_ge (by decide)
  · exact chanSettingActs (h.chan ch fun c hc => hc.store hx _) ch x _ _

theorem writeChannelSetting (h : s.accountsSound) (st : Nat) (ch setting : Byte) (v : Half) :
    (writeChannelSetting st ch setting v s).1.accountsSound := by
  unfold Machine.writeChannelSetting
  split
  · exact h.takeWrite fun h => h.storeChanSetting _ _ _
  · exact h

theorem writeCurvePoint (h : s.accountsSound) {rx ry : Range} {store : Fin 8 → CurvePoint → Channel → Channel}
    (hs : ∀ i p c, c.accountSound → (store i p c).accountSound) (st : Nat) (ch pt : Byte) (x y : Half) :
    (writeCurvePoint rx ry store st ch pt x y s).1.accountsSound := by
  unfold Machine.writeCurvePoint
  split
  · exact h.takeWrite fun h => h.chan _ fun c hc => hs _ _ c hc
  · exact h

theorem storeBankSetting (h : s.accountsSound) (b : BankId) (x : BankSetting) (v : Nat) :
    (storeBankSetting b x v s).accountsSound := by
  have stored := h.bank b fun y => { y with settings := put y.settings x.idx v }
  unfold Machine.storeBankSetting Machine.bankSettingActs
  split
  · exact stored.moves (.judgeOutputLow .refl b)
  · exact stored.moves (.judgeOutputLow .refl b)
  · exact stored.moves (.recheckFaulted .refl b)
  · unfold wipeIntervalActs
    dsimp only
    split
    · exact stored.moves (.startInterval .refl b)
    · exact stored
  · exact stored

theorem setOwner (h : s.accountsSound) (b : BankId) (new : Option ChanId) : (setOwner b new s).accountsSound := by
  unfold Machine.setOwner
  split
  · exact h
  · have owned := h.bank b fun x => { x.abandon with owner := new, tracker := Tracker.reset }
    exact owned.moves (.judgeBank (.each (fun l _ m => m.regovern _ l) _ .refl) b)

theorem setWiperStation (h : s.accountsSound) (b : BankId) (st : Option Nat) :
    (setWiperStation b st s).accountsSound := by
  unfold Machine.setWiperStation
  split
  · exact h
  · exact h.bank b _

theorem writeOwner (h : s.accountsSound) (st : Nat) (b : BankId) (v : Half) : (writeOwner st b v s).1.accountsSound := by
  unfold Machine.writeOwner
  split
  · exact h
  · exact h.takeWrite fun h => h.setOwner b _

theorem writeBankRecord (h : s.accountsSound) (st : Nat) (bank field : Byte) (v : Half) :
    (writeBankRecord st bank field v s).1.accountsSound := by
  unfold Machine.writeBankRecord
  split
  · exact h.takeWrite fun h => h.storeBankSetting _ _ _
  · exact h.writeOwner st _ v
  · dsimp only
    split
    · exact h.takeWrite fun h => h.setWiperStation _ _
    · exact h
  · exact h
  · exact h

theorem writeProgram (h : s.accountsSound) (st : Nat) (bank prog : Byte) (steps : List RawStep) :
    (writeProgram st bank prog steps s).1.accountsSound := by
  unfold Machine.writeProgram
  split
  · exact h
  · split
    · exact h.takeWrite fun h => h.bank _ _
    · exact h

theorem storeLamp (h : s.accountsSound) (l : LampId) (new : Option LampCfg) : (storeLamp l new s).accountsSound := by
  have stored : (s.setLamp l (rewritten (s.lamp l) new (s.timer coolPeriod))).accountsSound := h.of_channels rfl
  have governed := stored.moves (.regovern .refl (s.lampGoverned l) l)
  unfold Machine.storeLamp
  dsimp only
  split <;> split
  · exact governed.moves ((State.moves.recheckFaulted .refl _).recheckFaulted _)
  · exact governed.moves (.recheckFaulted .refl _)
  · exact governed.moves (.recheckFaulted .refl _)
  · exact governed

theorem writeLampEntry (h : s.accountsSound) (st : Nat) (lamp b : Byte) (bank : Byte) (slot : Half) :
    (writeLampEntry st lamp b bank slot s).1.accountsSound := by
  unfold Machine.writeLampEntry
  split
  · exact h.takeWrite fun h => h.storeLamp _ _
  · exact h

theorem writePointEntry (h : s.accountsSound) (st : Nat) (point : Byte) (c : PointContent) :
    (writePointEntry st point c s).1.accountsSound := by
  unfold Machine.writePointEntry
  split
  · exact h.takeWrite fun h => h.writePoint _ _
  · exact h

theorem writePriority (h : s.accountsSound) (kind : Byte) (v : Half) : (writePriority kind v s).1.accountsSound := by
  unfold Machine.writePriority
  split
  · exact h.takeWrite fun h => h.setPriority _ _
  · exact h

theorem writeDevice (h : s.accountsSound) (setting : Byte) (v : Half) : (writeDevice setting v s).1.accountsSound := by
  unfold Machine.writeDevice
  split
  · refine h.takeWrite fun h => ?_
    unfold storeDevice
    split
    · exact h.of_channels (State.modPort_channels _ _ _)
    · exact h.of_channels rfl
    · exact h.of_channels rfl
  · exact h

/-! ### Requests -/

theorem forChannel (h : s.accountsSound) (ch : Byte) {f : ChanId → State → State × Answer}
    (hf : ∀ c, (f c s).1.accountsSound) : (forChannel ch f s).1.accountsSound := by
  unfold Machine.forChannel
  split
  · exact hf _
  · exact h

theorem forBank (h : s.accountsSound) (bank : Byte) {f : BankId → State → State × Answer}
    (hf : ∀ b, (f b s).1.accountsSound) : (forBank bank f s).1.accountsSound := by
  unfold Machine.forBank
  split
  · exact hf _
  · exact h

theorem answerRead (h : s.accountsSound) (data : Option (List Byte)) : (answerRead data s).1.accountsSound := by
  cases data <;> exact h

theorem holdLock (h : s.accountsSound) (ch : ChanId) (st lease : Nat) : (holdLock ch st lease s).accountsSound :=
  h.chan ch

theorem handleTakeEdit (h : s.accountsSound) (st : Nat) (ch : Byte) (lease : Half) :
    (handleTakeEdit st ch lease s).1.accountsSound := by
  refine h.forChannel ch fun c => ?_
  split
  · exact h
  · split
    · exact (h.holdLock c st _).enterEdit c
    · split
      · exact h.holdLock c st _
      · exact h

theorem giveBack (h : s.accountsSound) (ch : ChanId) : (giveBack ch s).accountsSound := by
  have valid := h.chan (f := fun c => { c with profileValid := true }) ch
  unfold Machine.giveBack freeLock
  exact (valid.chan ch).departEdit ch

theorem handleGiveEdit (h : s.accountsSound) (st : Nat) (ch : Byte) : (handleGiveEdit st ch s).1.accountsSound := by
  refine h.forChannel ch fun c => ?_
  split
  · exact h
  · split
    · exact h
    · exact h.giveBack c

theorem handleUnarm (h : s.accountsSound) (ch : Byte) : (handleUnarm ch s).1.accountsSound := by
  refine h.forChannel ch fun c => ?_
  split
  · dsimp only
    exact h.enterUnarmed c
  · exact h

theorem handleArmedMode (h : s.accountsSound) (ch : Byte) (m : Mode) (value : Half) (count : Byte) (lease : Half) :
    (handleArmedMode ch m value count lease s).1.accountsSound := by
  refine h.forChannel ch fun c => ?_
  split
  · exact h.takeMode c m _ _ _
  · exact h

theorem handleSetMode (h : s.accountsSound) (ch mode : Byte) (value : Half) (count : Byte) (lease : Half) :
    (handleSetMode ch mode value count lease s).1.accountsSound := by
  unfold Machine.handleSetMode
  split
  · exact h.handleUnarm ch
  · split
    · exact h.handleArmedMode ch _ value count lease
    · exact h

theorem handleLock (h : s.accountsSound) (bank : Byte) : (handleLock bank s).1.accountsSound :=
  h.forBank bank fun b => h.moves (.lockBank .refl b)

theorem handleUnlock (h : s.accountsSound) (bank : Byte) : (handleUnlock bank s).1.accountsSound :=
  h.forBank bank fun b => h.moves (.unlockBank .refl b)

theorem handleWipeNow (h : s.accountsSound) (bank : Byte) : (handleWipeNow bank s).1.accountsSound := by
  refine h.forBank bank fun b => ?_
  split
  · exact h
  · exact h.moves (.startWipe .refl b)

theorem handleBankAction (h : s.accountsSound) (bank action : Byte) :
    (handleBankAction bank action s).1.accountsSound := by
  unfold Machine.handleBankAction
  split
  · exact h.handleLock bank
  · exact h.handleUnlock bank
  · exact h.handleWipeNow bank
  · exact h

theorem handleLampClear (h : s.accountsSound) (lamp : Byte) : (handleLampClear lamp s).1.accountsSound := by
  unfold Machine.handleLampClear
  split
  · split
    · exact h.moves (.clearLamp .refl _)
    · exact h
  · exact h

theorem handleReadState (h : s.accountsSound) (kind : Byte) (index : List Byte) :
    (handleReadState kind index s).1.accountsSound := by
  unfold Machine.handleReadState
  split
  · exact h.answerRead _
  · exact h

theorem handleClearTotals (h : s.accountsSound) (ch : Byte) : (handleClearTotals ch s).1.accountsSound :=
  h.forChannel ch fun c => h.chan c Accounting.clearTotals_sound

theorem handleComplete (h : s.accountsSound) (kind inst : Byte) : (handleComplete kind inst s).1.accountsSound := by
  unfold Machine.handleComplete
  split
  · exact h.complete _ _
  · exact h

theorem handle (h : s.accountsSound) (st : Nat) (req : Request) : (handle st req s).1.accountsSound := by
  cases req with
  | identify => exact h
  | readEntry t i n => exact h.answerRead _
  | writeChannelSetting ch x v => exact h.writeChannelSetting st ch x v
  | writeUvtCurvePoint ch pt u f => exact h.writeCurvePoint (store := storeUvtPoint) (fun _ _ _ hc => hc) st ch pt u f
  | writeBallastCurvePoint ch pt d c => exact h.writeCurvePoint (store := storeBallastPoint) (fun _ _ _ hc => hc) st ch pt d c
  | writeBankRecord b f v => exact h.writeBankRecord st b f v
  | writeProgram b k steps => exact h.writeProgram st b k steps
  | writeLampEntry l n b sl => exact h.writeLampEntry st l n b sl
  | writePointEntry p c => exact h.writePointEntry st p c
  | writeAlarmPriority k v => exact h.writePriority k v
  | writeDeviceSetting x v => exact h.writeDevice x v
  | takeEdit ch lease => exact h.handleTakeEdit st ch lease
  | giveEdit ch => exact h.handleGiveEdit st ch
  | setMode ch m v n lease => exact h.handleSetMode ch m v n lease
  | bankAction b a => exact h.handleBankAction b a
  | lampClear l => exact h.handleLampClear l
  | readState k i => exact h.handleReadState k i
  | readTotals ch => exact h.forChannel ch fun _ => h
  | clearTotals ch => exact h.handleClearTotals ch
  | claimAlarm => exact h.claim
  | completeAlarm k i => exact h.handleComplete k i
  | restart => exact h.of_channels rfl
  | badReference => exact h
  | unknown => exact h

theorem pushFrame (h : s.accountsSound) (p : Port) (q : QFrame) : (pushFrame p q s).accountsSound :=
  h.of_channels (State.modPort_channels _ _ _)

theorem sendReply (h : s.accountsSound) (r : Sender) (kind : Byte) (restart : Bool) (a : Answer) :
    (sendReply r kind restart a s).accountsSound := by
  unfold Machine.sendReply
  dsimp only
  split
  · exact h.pushFrame _ _
  · exact h.of_channels rfl

theorem consume (h : s.accountsSound) (r : Sender) (kind : Byte) (restart : Bool) {f : State → State × Answer}
    (hf : (f s).1.accountsSound) : (consume r kind restart f s).accountsSound := by
  unfold Machine.consume
  split
  · exact h
  · split
    · exact h.raise.endEvent
    · exact hf.endEvent.sendReply r kind restart _

theorem forwardFrame (h : s.accountsSound) (p : Port) (f : Frame) : (forwardFrame p f s).accountsSound := by
  unfold Machine.forwardFrame
  split
  · exact h.pushFrame _ _
  · exact h.raise

theorem requestRow (h : s.accountsSound) (r : Sender) (req : Request) {f : State → State × Answer}
    (hf : (f s).1.accountsSound) : (requestRow r req f s).accountsSound := by
  unfold Machine.requestRow
  split
  · exact (h.forwardFrame _ _).endEvent
  · exact h.consume r _ _ hf

theorem manageFrame (h : s.accountsSound) (p : Port) (f : Frame) : (manageFrame p f s).accountsSound := by
  unfold Machine.manageFrame
  split
  · exact h.consume _ _ _ (h.handle _ _)
  · split
    · exact h
    · split
      · exact h.raise.endEvent
      · exact h

/-! ### Frames -/

theorem faultyFrame (h : s.accountsSound) (p : Port) : (faultyFrame p s).accountsSound := by
  unfold Machine.faultyFrame
  dsimp only
  split
  · have counted : (s.modPort p fun ps => { ps with errors := (s.port p).errors + 1 }).accountsSound :=
      h.of_channels (State.modPort_channels _ _ _)
    split
    · exact counted.raise
    · exact counted
  · exact h

theorem passOn (h : s.accountsSound) (p : Port) (f : Frame) : (passOn p f s).accountsSound := by
  unfold Machine.passOn
  split
  · exact h
  · exact (h.forwardFrame p f).endEvent

theorem tapSample (h : s.accountsSound) (f : Frame) : (tapSample f s).1.accountsSound := by
  unfold Machine.tapSample
  split
  · exact h.intakeItems _ _
  · exact h

theorem fromNorth (h : s.accountsSound) (f : Frame) : (fromNorth f s).accountsSound := by
  unfold Machine.fromNorth
  split
  · exact h
  · split
    · unfold northLampCmd
      split
      · exact h.raise.endEvent
      · exact h.passOn _ _
    · split
      · unfold northWiperCmd
        split
        · exact h.passOn _ _
        · exact endEvent (forAll (fun ch _ h => h.raise) _ h)
      · exact h.passOn _ _

theorem fromSouth (h : s.accountsSound) (f : Frame) : (fromSouth f s).accountsSound := by
  unfold Machine.fromSouth
  split
  · exact (h.tapSample f).endEvent.passOn _ _
  · split
    · exact (h.moves (.tapStatus .refl _ _)).endEvent.passOn _ _
    · exact h.passOn _ _

theorem receiveGood (h : s.accountsSound) (p : Port) (f : Frame) : (receiveGood p f s).accountsSound := by
  unfold Machine.receiveGood
  split
  · exact (h.forwardFrame p f).endEvent
  · split
    · exact h.manageFrame p f
    · cases p
      · exact h.fromNorth f
      · exact h.fromSouth f

theorem receiveFrame (h : s.accountsSound) (p : Port) (f : Frame) : (receiveFrame p f s).accountsSound := by
  unfold Machine.receiveFrame
  split
  · exact h.receiveGood p f
  · exact (h.faultyFrame p).endEvent

theorem receiveBytes (h : s.accountsSound) (p : Port) (bytes : List Byte) : (receiveBytes p bytes s).accountsSound := by
  unfold Machine.receiveBytes
  split
  · exact h.receiveGood p _
  · exact (h.faultyFrame p).endEvent

/-! ### Restart and transmission -/

theorem warmRestart (h : s.accountsSound) (straps : BitVec 7) : (warmRestart straps s).accountsSound := by
  have restarted : (s.restartValues straps).accountsSound := ⟨fun ch => by
    simpa only [State.chan, State.restartValues, build_get] using (h.each ch).restarted s.now⟩
  unfold Machine.warmRestart
  exact endEvent (forAll (fun ch _ h => h.judgeChannel ch) _ restarted.raise)

theorem fullReset (straps : BitVec 7) : (fullReset straps s).accountsSound := by
  obtain ⟨_, totals, pulses, _⟩ := resetIsSound straps
  exact ((State.accountsSound_iff _).mpr ⟨totals, pulses⟩).of_channels rfl

theorem arbiter (h : s.accountsSound) (p : Port) : (arbiter p s).accountsSound := by
  have other : (serveOther p s).accountsSound := by
    unfold serveOther
    cases p
    · unfold serveAlert
      dsimp only
      split
      · exact (h.pushFrame _ _).of_channels rfl
      · exact h
    · unfold serveSlots
      dsimp only
      split
      · obtain ⟨_, _, _, _, _, e⟩ := enterSouth_framesOnly _ s
        exact h.of_channels (by rw [e])
      · exact h
  unfold Machine.arbiter
  split
  · split
    · split
      · exact (h.pushFrame _ _).of_channels rfl
      · exact other
    · exact other
  · exact h

theorem transmissionDone (h : s.accountsSound) (p : Port) : (transmissionDone p s).accountsSound := by
  have dropped : (dropHead p s).accountsSound := h.of_channels (State.modPort_channels _ _ _)
  unfold Machine.transmissionDone
  split
  · exact h
  · split
    · exact warmRestart (h.of_channels (t := { s with strapReads := s.strapReads + 1 }) rfl) _
    · split
      · exact dropped
      · exact dropped.arbiter p

theorem settleEnds (h : s.accountsSound) (b : BankId) : (settleEnds b s).accountsSound := by
  unfold Machine.settleEnds
  split
  · exact h.bank b _
  · exact h

/-! ### Commands -/

theorem of_next {t u : State} (h : t.accountsSound)
    (e : (.next t : Host.Outcome State Fault Refusal) = .next u) : u.accountsSound :=
  Host.Outcome.next.inj e ▸ h

/-- What a command leaves, when it leaves a state, has sound accounts. -/
theorem exec (h : s.accountsSound) (i : Instr) {t : State} (ht : exec i s = .next t) : t.accountsSound := by
  cases i with
  | fullReset straps => exact of_next (fullReset straps) ht
  | warmRestart straps =>
    refine of_next ?_ ht
    split
    · exact h.warmRestart straps
    · exact h
  | frameReception p bytes => exact of_next (h.receiveBytes p bytes) ht
  | sampleFrame dst src payload => exact of_next (h.receiveFrame _ _) ht
  | lampStatusFrame dst src payload => exact of_next (h.receiveFrame _ _) ht
  | lampCmdFrame dst src payload => exact of_next (h.receiveFrame _ _) ht
  | wiperCmdFrame dst src payload => exact of_next (h.receiveFrame _ _) ht
  | identify r => exact of_next (h.requestRow r _ (h.handle 0 .identify)) ht
  | readEntry r t i n => exact of_next (h.requestRow r _ (h.handle 0 (.readEntry t i n))) ht
  | writeChannelSetting r ch x v => exact of_next (h.requestRow r _ (h.writeChannelSetting _ ch x v)) ht
  | writeUvtCurvePoint r ch pt u f =>
    exact of_next (h.requestRow r _ (h.handle (stationOf r.src) (.writeUvtCurvePoint ch pt u f))) ht
  | writeBallastCurvePoint r ch pt d c =>
    exact of_next (h.requestRow r _ (h.handle (stationOf r.src) (.writeBallastCurvePoint ch pt d c))) ht
  | writeBankRecord r b f v => exact of_next (h.requestRow r _ (h.writeBankRecord _ b f v)) ht
  | writeProgram r b k steps => exact of_next (h.requestRow r _ (h.writeProgram _ b k steps)) ht
  | writeLampEntry r l st b sl => exact of_next (h.requestRow r _ (h.writeLampEntry _ l st b sl)) ht
  | writePointEntry r p c => exact of_next (h.requestRow r _ (h.writePointEntry _ p c)) ht
  | writeAlarmPriority r k v => exact of_next (h.requestRow r _ (h.writePriority k v)) ht
  | writeDeviceSetting r x v => exact of_next (h.requestRow r _ (h.writeDevice x v)) ht
  | takeEdit r ch lease => exact of_next (h.requestRow r _ (h.handleTakeEdit _ ch lease)) ht
  | giveEdit r ch => exact of_next (h.requestRow r _ (h.handleGiveEdit _ ch)) ht
  | setMode r ch m v n lease => exact of_next (h.requestRow r _ (h.handleSetMode ch m v n lease)) ht
  | setModeUnarm r ch => exact of_next (h.requestRow r _ (h.handleUnarm ch)) ht
  | bankActionLock r b => exact of_next (h.requestRow r _ (h.handleLock b)) ht
  | bankActionUnlock r b => exact of_next (h.requestRow r _ (h.handleUnlock b)) ht
  | bankActionWipeNow r b => exact of_next (h.requestRow r _ (h.handleWipeNow b)) ht
  | lampClear r l => exact of_next (h.requestRow r _ (h.handleLampClear l)) ht
  | readState r k i => exact of_next (h.requestRow r _ (h.handleReadState k i)) ht
  | readTotals r ch => exact of_next (h.requestRow r _ (h.handle 0 (.readTotals ch))) ht
  | clearTotals r ch => exact of_next (h.requestRow r _ (h.handleClearTotals ch)) ht
  | claimAlarm r => exact of_next (h.requestRow r _ (h.handle 0 .claimAlarm)) ht
  | completeAlarm r k i => exact of_next (h.requestRow r _ (h.handleComplete k i)) ht
  | restart r => exact of_next (h.requestRow r _ (h.handle 0 .restart)) ht
  | transmissionComplete p => exact of_next (h.transmissionDone p) ht
  | fallbackTimerExpiry ch => exact of_next ((h.fallbackEnds ch).endEvent) ht
  | freshnessTimerExpiry p => exact of_next ((h.freshnessEnds p).endEvent) ht
  | uvtHoldTimerExpiry ch => exact of_next ((h.uvtHoldEnds ch).endEvent) ht
  | sagTimerExpiry b => exact of_next ((h.moves (.sagTimerEnds .refl b)).endEvent) ht
  | settleTimerExpiry b => exact of_next ((h.settleEnds b).endEvent) ht
  | manualLeaseExpiry ch => exact of_next ((h.manualLeaseEnds ch).endEvent) ht
  | adoptionWindowExpiry ch => exact of_next ((h.windowEnds ch).endEvent) ht
  | warmLimitExpiry b => exact of_next ((h.moves (.warmLimitEnds .refl b)).endEvent) ht
  | faultRestExpiry b => exact of_next ((h.moves (.faultRestEnds .refl b)).endEvent) ht
  | editLeaseLapse ch => exact of_next ((h.editLeaseEnds ch).endEvent) ht
  | stepTimerExpiry b => exact of_next ((h.moves (.stepEnds .refl b)).endEvent) ht
  | wipeIntervalExpiry b => exact of_next ((h.moves (.intervalEnds .refl b)).endEvent) ht
  | wipeLimitExpiry b => exact of_next ((h.moves (.wipeLimitEnds .refl b)).endEvent) ht
  | strikeWindowExpiry l => exact of_next ((h.moves (.strikeWindowEnds .refl l)).endEvent) ht
  | waitTimerExpiry l => exact of_next ((h.moves (.waitEnds .refl l)).endEvent) ht
  | dropoutClearExpiry l => exact of_next ((h.moves (.dropoutsClear .refl l)).endEvent) ht
  | coolingStep l => exact of_next ((h.moves (.coolLamp .refl l)).endEvent) ht
  | pulseWidthExpiry ch => exact of_next ((h.pulseWidthEnds ch).endEvent) ht
  | pulseGapExpiry ch => exact of_next ((h.pulseGapEnds ch).endEvent) ht

theorem step (h : s.accountsSound) {t : State} (ht : step s = .next t) : t.accountsSound := by
  unfold Machine.step at ht
  split at ht
  · have ticked : (tick s).accountsSound := h.of_channels (by unfold tick State.advanceTo; rfl)
    exact of_next ticked ht
  · next rest _ =>
    have taken : State.accountsSound { s with pending := rest } := h.of_channels rfl
    exact taken.exec _ ht

end State.accountsSound

/-- Settles O28: `State.accountsSound` joins the two accounts, and every operation of the model keeps it. -/
theorem accountsStaySound : Obligations.AccountsStaySound := by
  intro s t totals pulses ht
  have sound := (State.accountsSound_iff s).mpr ⟨totals, pulses⟩
  exact (State.accountsSound_iff t).mp (sound.step ht)

end Sys2Proof.Machine

namespace Sys2Proof.Machine
open Sys2Proof

/-! ### Curves (01, R7; 04, R68) -/

/-- On a curve that rises, no later point lies left of an earlier one. -/
theorem curve_mono {c : Vector CurvePoint 8} (hr : ∀ k : Fin 7, (c.get k.castSucc).x < (c.get k.succ).x) {i j : Fin 8}
    (h : i ≤ j) : (c.get i).x ≤ (c.get j).x :=
  (Fin.strictMono_iff_lt_succ (f := fun i => (c.get i).x)).mpr hr |>.monotone h

/-- An argument lies in one segment at most of a curve that rises. -/
theorem segment_unique {c : Vector CurvePoint 8} (hr : ∀ k : Fin 7, (c.get k.castSucc).x < (c.get k.succ).x)
    {x : Nat} {i k : Fin 7} (hi : (c.get i.castSucc).x ≤ x ∧ x < (c.get i.succ).x)
    (hk : (c.get k.castSucc).x ≤ x ∧ x < (c.get k.succ).x) : i = k := by
  have before : ∀ {i k : Fin 7}, x < (c.get i.succ).x → (c.get k.castSucc).x ≤ x → ¬ i < k := by
    intro i k hi hk hlt
    have := curve_mono hr (i := i.succ) (j := k.castSucc) (Fin.le_castSucc_iff.mpr (Fin.succ_lt_succ_iff.mpr hlt))
    omega
  exact le_antisymm (not_lt.mp (before hk.2 hi.1)) (not_lt.mp (before hi.2 hk.1))

/-- Within its segment an interpolated value lies above zero, so `toNat` loses nothing. -/
theorem interpolate_cast {a b : CurvePoint} {x : Nat} (ha : a.x ≤ x) (hb : x < b.x) :
    (interpolate a b x : Int) = a.y + ((b.y : Int) - a.y) * ((x : Int) - a.x) / ((b.x : Int) - a.x) := by
  have width : (0 : Int) < (b.x : Int) - a.x := by omega
  have drop : -(a.y : Int) * ((b.x : Int) - a.x) ≤ ((b.y : Int) - a.y) * ((x : Int) - a.x) := by nlinarith
  have floor := Int.le_ediv_of_mul_le width drop
  unfold interpolate
  omega

/-- A curve that rises is interpolated in the one segment where the argument lies. -/
theorem curveValue_segment {c : Vector CurvePoint 8} (hr : ∀ k : Fin 7, (c.get k.castSucc).x < (c.get k.succ).x)
    {x : Nat} (k : Fin 7) (lo : (c.get k.castSucc).x ≤ x) (hi : x < (c.get k.succ).x) :
    (curveValue c x : Int) = (c.get k.castSucc).y +
      (((c.get k.succ).y : Int) - (c.get k.castSucc).y) * ((x : Int) - (c.get k.castSucc).x) /
        (((c.get k.succ).x : Int) - (c.get k.castSucc).x) := by
  have found : (List.finRange 7).find? (fun i => (curveAt c i.castSucc).x ≤ x ∧ x < (curveAt c i.succ).x) = some k := by
    cases hf : (List.finRange 7).find? (fun i => (curveAt c i.castSucc).x ≤ x ∧ x < (curveAt c i.succ).x) with
    | none => exact absurd (List.find?_eq_none.mp hf k (List.mem_finRange k)) (by simp [curveAt, lo, hi])
    | some i =>
      have inside := List.find?_some hf
      exact congrArg some (segment_unique hr (of_decide_eq_true inside) ⟨lo, hi⟩)
  rw [curveValue, found]
  exact interpolate_cast lo hi

/-! ### Doses (01, R8 to R10) -/

theorem State.mem_ownedBanks (s : State) (ch : ChanId) (b : BankId) :
    b ∈ s.ownedBanks ch ↔ (s.bank b).owner = some ch := by
  simp [State.ownedBanks, allBanks]

/-- A choice among marked elements comes to `v` when all the marked ones give it, and one is marked or it started
there. -/
theorem foldl_choose {α β : Type} {p : α → Prop} [DecidablePred p] {g : α → β} {v : β} {l : List α} {d : β}
    (hv : ∀ x ∈ l, p x → g x = v) (hd : d = v ∨ ∃ x ∈ l, p x) :
    l.foldl (fun d x => if p x then g x else d) d = v := by
  induction l generalizing d with
  | nil => simpa using hd
  | cons x l ih =>
    refine ih (fun y hy => hv y (List.mem_cons_of_mem x hy)) ?_
    by_cases hx : p x
    · exact Or.inl ((if_pos hx).trans (hv x List.mem_cons_self hx))
    · refine hd.imp (if_neg hx).trans fun ⟨y, hy, hp⟩ => ⟨y, (List.mem_cons.mp hy).resolve_left ?_, hp⟩
      exact fun e => hx (e ▸ hp)

theorem BankState.credited_iff (st : BankState) :
    st.credited = true ↔ st = .striking ∨ st = .warming ∨ st = .run ∨ st = .quenching := by
  simp [BankState.credited, or_assoc]

/-- D_b in figures (01, R8, R9). -/
theorem State.bankDose_eq (s : State) (b : BankId) (f qd : Nat) :
    s.bankDose b f qd = match (s.bank b).tracker.sf with
      | some sf =>
        if ((s.bank b).state = .striking ∨ (s.bank b).state = .warming ∨ (s.bank b).state = .run ∨
            (s.bank b).state = .quenching) ∧ s.freshPoint (s.intensityPoint b) = true then
          min 65535 (sf * f * (s.bank b).get .kvol / (102400 * qd))
        else 0
      | none => 0 := by
  unfold State.bankDose
  dsimp only
  cases (s.bank b).tracker.sf with
  | none => rfl
  | some sf => simp only [Bool.and_eq_true, BankState.credited_iff]

theorem State.dosesByPosition_get (s : State) (ch : ChanId) (f qd : Nat) (q : Fin 4) :
    (s.dosesByPosition ch f qd).get q = (s.ownedBanks ch).foldl
      (fun d b => if (s.bank b).get .position = q.1 then s.bankDose b f qd else d) 0 :=
  build_get _ q

theorem State.uvtNow_held {s : State} {ch : ChanId} {n : Nat} (h : (s.chan ch).uvtUse = .held n) :
    s.uvtNow ch = n := by
  simp [State.uvtNow, h]

/-- A point that holds a number, in use by what `p` names. -/
theorem State.pointNum_some {s : State} {p : PointId} {x : Point} {n : Nat} (hx : s.point p = some x)
    (hv : x.value = some (.num n)) : s.pointNum (some p) = some n := by
  simp [State.pointNum, hx, hv]

theorem State.freshPoint_some {s : State} {p : PointId} {x : Point} (hx : s.point p = some x) :
    s.freshPoint (some p) = x.fresh := by
  simp [State.freshPoint, hx]

/-- No point is FRESH where each point named is not. -/
theorem State.freshPoint_false {s : State} {o : Option PointId}
    (h : ∀ p x, o = some p → s.point p = some x → x.fresh = false) : s.freshPoint o = false := by
  unfold State.freshPoint
  split
  · next p =>
    split
    · next x hx => exact h p x rfl hx
    · rfl
  · rfl

/-- The transmittance factor marks a pass out of range below the curve's first point only (01, R7). -/
theorem uvtFactor_marks (c : Vector CurvePoint 8) (u : Nat) : (uvtFactor c u).2 = true ↔ u < (c.get 0).x := by
  unfold uvtFactor curveAt
  split
  · next h => simp [h]
  · next h => split <;> simp [h]

/-- Settles O19. -/
theorem fullPassJudgesTheDose : Obligations.FullPassJudgesTheDose := by
  intro ch s r qd f hr hq hf
  subst hr hq hf
  refine ⟨?flow, ?noFlow, ?below, ?above, ?segment, ?dose, ?doses, ?held, ?failsafe, ?fresh, ?offSpec⟩
  case flow =>
    intro p x n hp hx hfr hv
    have fresh : s.freshPoint (s.flowPoint ch) = true := by rw [hp, State.freshPoint_some hx, hfr]
    have flow : s.measuredFlow ch = min 30000 n := by
      rw [State.measuredFlow, if_pos fresh, hp, State.pointNum_some hx hv, Option.getD_some]
    refine ⟨flow, ?_⟩
    simp only [State.fullResult, State.flowOutOfRange, fresh, flow, Bool.or_eq_true, uvtFactor_marks, Bool.not_true,
      Bool.false_or, decide_eq_true_eq]
  case noFlow =>
    intro h
    have stale := State.freshPoint_false h
    exact ⟨if_neg (by simp [stale]), by simp [State.fullResult, State.flowOutOfRange, stale]⟩
  case below =>
    intro h
    exact congrArg Prod.fst (if_pos h)
  case above =>
    intro h0 h7
    exact congrArg Prod.fst ((if_neg (Nat.not_lt.mpr h0)).trans (if_pos h7))
  case segment =>
    intro hr k lo hi
    have h0 := curve_mono hr (Fin.zero_le k.castSucc)
    have h7 := curve_mono hr (Fin.le_last k.succ)
    have inside : (uvtFactor (s.chan ch).uvtCurve (s.uvtNow ch)).1 = curveValue (s.chan ch).uvtCurve (s.uvtNow ch) :=
      congrArg Prod.fst ((if_neg (Nat.not_lt.mpr (h0.trans lo))).trans (if_neg (Nat.not_le.mpr (hi.trans_le h7))))
    rw [inside]
    exact curveValue_segment hr k lo hi
  case dose =>
    exact congrArg (fun l : List Nat => min 65535 l.sum) (List.map_congr_left fun b _ => s.bankDose_eq b _ _)
  case doses =>
    refine fun q => ⟨fun h => ?_, fun b hb hp h => ?_⟩
    · refine (s.dosesByPosition_get ch _ _ q).trans (foldl_choose (fun b hb hp => absurd hp (h b ?_)) (Or.inl rfl))
      exact (s.mem_ownedBanks ch b).mp hb
    · refine ((s.dosesByPosition_get ch _ _ q).trans (foldl_choose (fun c hc hpc => ?_) (Or.inr ⟨b, ?_, hp⟩))).trans
        (s.bankDose_eq b _ _)
      · rw [h c ((s.mem_ownedBanks ch c).mp hc) hpc]
        rfl
      · exact (s.mem_ownedBanks ch b).mpr hb
  case held => exact fun n => State.uvtNow_held
  case failsafe => exact fun h => by simp [State.uvtNow, h]
  case fresh => exact fun h p y n hp hy hv => by simp [State.uvtNow, h, hp, State.pointNum_some hy hv]
  case offSpec => simp [State.fullResult, or_assoc]

end Sys2Proof.Machine

namespace Sys2Proof.Machine
open Sys2Proof

set_option Elab.async false

/-! ### Answers of reads (09, R151, R152, R163) -/

section Answers

variable {s : State} (r : Sender)

theorem exec_readEntry_some (hs : s.ready) {t i n : Byte} {d : List Byte} (h : s.entry t i n = some d) :
    exec (.readEntry r t i n) s = .next (s.withReply r 0x02 (0 :: d)) := by
  have handled : handleReadEntry t i n s = (s, .done false d) := by simp only [handleReadEntry, h, answerRead]
  exact congrArg Host.Outcome.next (requestRow_unchanged r _ _ hs handled)

theorem exec_readEntry_none (hs : s.ready) {t i n : Byte} (h : s.entry t i n = none) :
    exec (.readEntry r t i n) s = .next (s.withReply r 0x02 [2, 2]) := by
  have handled : handleReadEntry t i n s = (s, .refused .badReference []) := by
    simp only [handleReadEntry, h, answerRead, refuse]
  exact congrArg Host.Outcome.next (requestRow_unchanged r _ _ hs handled)

theorem exec_readState_some (hs : s.ready) {k : Byte} {index d : List Byte} (ok : readStateOk k index = true)
    (h : s.record k index = some d) :
    exec (.readState r k index) s = .next (s.withReply r 0x09 (0 :: d)) := by
  have handled : handleReadState k index s = (s, .done false d) := by
    simp only [handleReadState, ok, if_true, h, answerRead]
  exact congrArg Host.Outcome.next (requestRow_unchanged r _ _ hs handled)

theorem exec_readState_none (hs : s.ready) {k : Byte} {index : List Byte} (ok : readStateOk k index = true)
    (h : s.record k index = none) : exec (.readState r k index) s = .next (s.withReply r 0x09 [2, 2]) := by
  have handled : handleReadState k index s = (s, .refused .badReference []) := by
    simp only [handleReadState, ok, if_true, h, answerRead, refuse]
  exact congrArg Host.Outcome.next (requestRow_unchanged r _ _ hs handled)

theorem exec_readState_unknown (hs : s.ready) {k : Byte} {index : List Byte} (ok : readStateOk k index = false) :
    exec (.readState r k index) s = .next (s.withReply r 0x09 [2, 1]) := by
  have handled : handleReadState k index s = (s, .refused .unknownRequest []) := by
    simp only [handleReadState, ok, Bool.false_eq_true, if_false, refuse]
  exact congrArg Host.Outcome.next (requestRow_unchanged r _ _ hs handled)

end Answers

/-! ### Fields (11, R183) -/

theorem flag_yes (b : Bool) : flag b = [yes b] := by cases b <;> rfl

theorem heldFlag_held (b : Bool) : heldFlag b = [held b] := by cases b <;> rfl

theorem opt2_present2 (v : Option Nat) : opt2 v = present2 v := by cases v <;> rfl

theorem opt4_present4 (v : Option Nat) : opt4 v = present4 v := by cases v <;> rfl

theorem State.msField_millisOf (s : State) (t : Timer) : s.msField t = s.millisOf t := by cases t <;> rfl

theorem State.secField_secondsOf (s : State) (t : Timer) : s.secField t = s.secondsOf t := by cases t <;> rfl

theorem Mode.code_placeIn (m : Mode) :
    BitVec.ofNat 8 m.code = placeIn [.unarmed, .auto, .manual, .full, .standdown, .edit] m := by
  cases m <;> rfl

theorem BankState.code_placeIn (st : BankState) : BitVec.ofNat 8 st.code =
    placeIn [.dark, .striking, .warming, .run, .quenching, .faulted, .locked] st := by
  cases st <;> rfl

theorem LampState.code_placeIn (st : LampState) :
    BitVec.ofNat 8 st.code = placeIn [.off, .striking, .lit, .retryWait, .longWait, .dead] st := by
  cases st <;> rfl

theorem programCode_placeIn (k : Option ProgKind) :
    BitVec.ofNat 8 (programCode k) = placeIn [none, some .strike, some .quench, some .wipe] k := by
  rcases k with _ | k
  · rfl
  · cases k <;> rfl

theorem Supervision.code_placeIn (v : Supervision) : BitVec.ofNat 8 v.code = placeIn [.idle, .started, .moving] v := by
  cases v <;> rfl

theorem WipeResult.code_placeIn (v : WipeResult) : BitVec.ofNat 8 v.code = placeIn [.none, .ok, .fault] v := by
  cases v <;> rfl

theorem AlarmState.code_placeIn (v : AlarmState) :
    BitVec.ofNat 8 v.code = placeIn [.idle, .pending, .inService, .inServiceRecurred] v := by
  cases v <;> rfl

theorem PulsePhase.code_placeIn (v : PulsePhase) : BitVec.ofNat 8 v.code = placeIn [.idle, .high, .gap] v := by
  cases v <;> rfl

theorem WiperPos.code_placeIn (v : WiperPos) : BitVec.ofNat 8 v.code = placeIn [.parked, .moving, .jammed] v := by
  cases v <;> rfl

theorem byteOf_number (k : AlarmKind) : (BitVec.ofNat 8 k.number).toNat = k.number := by cases k <;> rfl

theorem alarmKindOfCode_number (k : AlarmKind) : alarmKindOfCode k.number = some k := by cases k <;> rfl

theorem toNat_eq_iff (b c : Byte) : b.toNat = c.toNat ↔ b = c := BitVec.toNat_inj

/-! ### READ ENTRY (09, R152) -/

section Entries

variable (s : State)

theorem chanSettingIsByte_iff (n : Byte) : chanSettingIsByte n.toNat = true ↔ n = 13 ∨ n = 25 := by
  simp only [chanSettingIsByte, decide_eq_true_eq, ← toNat_eq_iff]
  rfl

theorem State.entry_setting (ch : ChanId) {n : Byte} {x : ChanSetting} (hx : chanSettingOfCode n.toNat = some x) :
    s.entry 1 (BitVec.ofNat 8 ch.1) n = some
      (if n = 13 ∨ n = 25 then [BitVec.ofNat 8 ((s.chan ch).get x)] else bytes2 ((s.chan ch).get x)) := by
  show bothOf _ _ _ = _
  simp only [byteOf_chan, indexOf_val, hx, bothOf, settingBytes, chanSettingIsByte_iff, byte]

theorem State.entry_curves (ch : ChanId) (k : Fin 8) :
    s.entry 2 (BitVec.ofNat 8 ch.1) (BitVec.ofNat 8 k.1) =
        some (bytes2 ((s.chan ch).uvtCurve.get k).x ++ bytes2 ((s.chan ch).uvtCurve.get k).y) ∧
      s.entry 3 (BitVec.ofNat 8 ch.1) (BitVec.ofNat 8 k.1) =
        some (bytes2 ((s.chan ch).ballastCurve.get k).x ++ bytes2 ((s.chan ch).ballastCurve.get k).y) := by
  constructor <;>
  · show bothOf _ _ _ = _
    simp only [byteOf_chan, byteOf_pt, indexOf_val, bothOf, pointBytes, curveAt]

theorem bankFieldOfCode_setting {n : Byte} {x : BankSetting} (h : bankFieldOfCode n.toNat = some (.setting x)) :
    bankFieldIsByte n.toNat = true ↔ n = 11 := by
  have owner : n.toNat ≠ 15 := fun e => by simp [e, bankFieldOfCode] at h
  have station : n.toNat ≠ 20 := fun e => by simp [e, bankFieldOfCode] at h
  simp only [bankFieldIsByte, decide_eq_true_eq, owner, station, or_false]
  exact toNat_eq_iff n 11

theorem State.entry_bankSetting (b : BankId) {n : Byte} {x : BankSetting}
    (hx : bankFieldOfCode n.toNat = some (.setting x)) :
    s.entry 4 (BitVec.ofNat 8 b.1) n = some
      (if n = 11 then [BitVec.ofNat 8 ((s.bank b).get x)] else bytes2 ((s.bank b).get x)) := by
  show bothOf _ _ _ = _
  simp only [byteOf_bank, indexOf_val, hx, bothOf, Bank.fieldBytes, settingBytes, bankFieldOfCode_setting hx, byte]

theorem State.entry_owner (b : BankId) :
    s.entry 4 (BitVec.ofNat 8 b.1) 15 = some [BitVec.ofNat 8 (ownerCode (s.bank b).owner)] := by
  show bothOf _ (bankFieldOfCode 15) _ = _
  simp only [byteOf_bank, indexOf_val, bankFieldOfCode, bothOf, Bank.fieldBytes, byte]

theorem State.entry_wiperStation (b : BankId) :
    s.entry 4 (BitVec.ofNat 8 b.1) 20 = some [BitVec.ofNat 8 ((s.bank b).wiperStation.getD 0)] := by
  show bothOf _ (bankFieldOfCode 20) _ = _
  simp only [byteOf_bank, indexOf_val, bankFieldOfCode, bothOf, Bank.fieldBytes, byte]

theorem State.entry_program (b : BankId) (k : ProgKind) :
    s.entry 5 (BitVec.ofNat 8 b.1) (placeIn [.strike, .quench, .wipe] k) =
      some (programBytes (((s.bank b).program k).toList.map Step.raw)) := by
  have code : progOfCode (placeIn [.strike, .quench, .wipe] k).toNat = some k := by cases k <;> rfl
  show bothOf _ _ _ = _
  simp only [byteOf_bank, indexOf_val, code, bothOf]

theorem State.entry_lamp (l : LampId) : s.entry 6 (BitVec.ofNat 8 l.1) 0 = some (match s.lamp l with
    | some x => byte x.station ++ byte x.bank.1 ++ bytes2 x.slot
    | none => byte 0) := by
  show bothOf _ (some 0) _ = _
  rw [byteOf_lamp, indexOf_val]
  rfl

theorem State.entry_point (p : PointId) : s.entry 7 (BitVec.ofNat 8 p.1) 0 = some (match s.point p with
    | some x => x.cfg.bytes
    | none => byte 0) := by
  show bothOf _ (some 0) _ = _
  rw [byteOf_point, indexOf_val]
  rfl

theorem State.entry_priority (k : AlarmKind) : s.entry 8 (BitVec.ofNat 8 k.number) 0 = some (bytes2 (s.priority k)) := by
  show bothOf _ (some 0) _ = _
  simp only [byteOf_number, alarmKindOfCode_number, bothOf]

theorem bothOf_none {α β : Type} {a : Option α} {b : Option β} (f : α → β → List Byte) (h : a = none ∨ b = none) :
    bothOf a b f = none := by
  rcases h with rfl | rfl
  · rfl
  · cases a <;> rfl

/-- The steps of a program by the scheme of R183 (06, Table 6-1). -/
theorem Step.raw_toBytes (y : Step) : y.raw.toBytes = bytes2 y.k ++ (match y.set with
      | some m => [1, maskOf (maskMembers m)]
      | none => [0, 0]) ++ [yes y.wiper, placeIn [.set, .clear, .keep] y.blank, yes y.last] := by
  obtain ⟨k, set, wiper, blank, last⟩ := y
  cases set <;> cases blank <;> rfl

theorem PointCfg.bytes_eq (c : PointCfg) : c.bytes = BitVec.ofNat 8 c.station :: (bytes2 c.index ++ (match c.targets with
      | .flow ch => [0, BitVec.ofNat 8 ch.1]
      | .uvt chs => [1, maskOf (chs.map fun ch => ch.1)]
      | .intensity b => [2, BitVec.ofNat 8 b.1]
      | .wiper b => [3, BitVec.ofNat 8 b.1]) ++ bytes2 c.gain ++ bytes2 (BitVec.ofInt 16 c.offset).toNat ++
      bytes2 c.rawMin ++ bytes2 c.rawMax ++ bytes2 c.timeout) := by
  obtain ⟨_, _, targets, _⟩ := c
  cases targets <;> rfl

end Entries

end Sys2Proof.Machine

namespace Sys2Proof.Machine
open Sys2Proof

set_option Elab.async false

theorem chanSettingOfCode_none {n : Nat} (h : n = 0 ∨ 34 ≤ n) : chanSettingOfCode n = none := by
  rcases h with rfl | h
  · rfl
  · obtain ⟨m, rfl⟩ := Nat.exists_eq_add_of_le' h
    rfl

theorem bankFieldOfCode_none {n : Nat} (h : n = 0 ∨ 23 ≤ n) : bankFieldOfCode n = none := by
  rcases h with rfl | h
  · rfl
  · obtain ⟨m, rfl⟩ := Nat.exists_eq_add_of_le' h
    rfl

theorem progOfCode_none {n : Nat} (h : 3 ≤ n) : progOfCode n = none := by
  unfold progOfCode
  split <;> simp_all

theorem alarmKindOfCode_none {n : Nat} (h : n = 0 ∨ 19 ≤ n) : alarmKindOfCode n = none := by
  rcases h with rfl | h
  · rfl
  · obtain ⟨m, rfl⟩ := Nat.exists_eq_add_of_le' h
    rfl

theorem deviceSettingOf_none {n : Nat} (h : n = 0 ∨ 5 ≤ n) : deviceSettingOf n = none := by
  unfold deviceSettingOf
  split <;> simp_all

theorem alarmKindOfCode_some {n : Nat} {k : AlarmKind} (h : alarmKindOfCode n = some k) : k.number = n := by
  unfold alarmKindOfCode at h
  split at h <;> simp_all <;> subst h <;> rfl

/-- An entry that no reference names (09, R152; 11, R183). -/
theorem State.entry_none (s : State) {t i n : Byte}
    (h : t = 0 ∨ 10 ≤ t.toNat ∨ (t.toNat ≤ 3 ∧ 4 ≤ i.toNat) ∨ ((t = 4 ∨ t = 5) ∧ 12 ≤ i.toNat) ∨
        (t = 6 ∧ 64 ≤ i.toNat) ∨ (t = 7 ∧ 96 ≤ i.toNat) ∨ (t = 8 ∧ (i = 0 ∨ 19 ≤ i.toNat)) ∨ (t = 9 ∧ i ≠ 0) ∨
        (t = 1 ∧ (n = 0 ∨ 34 ≤ n.toNat)) ∨ ((t = 2 ∨ t = 3) ∧ 8 ≤ n.toNat) ∨ (t = 4 ∧ (n = 0 ∨ 23 ≤ n.toNat)) ∨
        (t = 5 ∧ 3 ≤ n.toNat) ∨ (6 ≤ t.toNat ∧ t.toNat ≤ 8 ∧ n ≠ 0) ∨ (t = 9 ∧ (n = 0 ∨ 5 ≤ n.toNat))) :
    s.entry t i n = none := by
  simp only [← toNat_eq_iff, BitVec.reduceToNat, ne_eq] at h
  unfold State.entry
  dsimp only
  split
  · next e =>
    have : 4 ≤ i.toNat ∨ n.toNat = 0 ∨ 34 ≤ n.toNat := by omega
    exact bothOf_none _ (this.imp indexOf_none chanSettingOfCode_none)
  · next e =>
    have : 4 ≤ i.toNat ∨ 8 ≤ n.toNat := by omega
    exact bothOf_none _ (this.imp indexOf_none indexOf_none)
  · next e =>
    have : 4 ≤ i.toNat ∨ 8 ≤ n.toNat := by omega
    exact bothOf_none _ (this.imp indexOf_none indexOf_none)
  · next e =>
    have : 12 ≤ i.toNat ∨ n.toNat = 0 ∨ 23 ≤ n.toNat := by omega
    exact bothOf_none _ (this.imp indexOf_none bankFieldOfCode_none)
  · next e =>
    have : 12 ≤ i.toNat ∨ 3 ≤ n.toNat := by omega
    exact bothOf_none _ (this.imp indexOf_none progOfCode_none)
  · next e =>
    have : 64 ≤ i.toNat ∨ 1 ≤ n.toNat := by omega
    exact bothOf_none _ (this.imp indexOf_none indexOf_none)
  · next e =>
    have : 96 ≤ i.toNat ∨ 1 ≤ n.toNat := by omega
    exact bothOf_none _ (this.imp indexOf_none indexOf_none)
  · next e =>
    have : (i.toNat = 0 ∨ 19 ≤ i.toNat) ∨ 1 ≤ n.toNat := by omega
    exact bothOf_none _ (this.imp alarmKindOfCode_none indexOf_none)
  · next e =>
    have : 1 ≤ i.toNat ∨ n.toNat = 0 ∨ 5 ≤ n.toNat := by omega
    exact bothOf_none _ (this.imp indexOf_none deviceSettingOf_none)
  · rfl

/-! ### READ STATE (09, R163) -/

section Records

variable (s : State)

theorem State.channelAccounting_eq (ch : ChanId) (c : Channel) (hc : c = s.chan ch) :
    s.channelAccounting ch = bytes2 c.acct.lastDose ++ bytes2 (c.acct.bankDoses.get 0) ++
      bytes2 (c.acct.bankDoses.get 1) ++ bytes2 (c.acct.bankDoses.get 2) ++ bytes2 (c.acct.bankDoses.get 3) ++
      [yes c.acct.outOfRange] ++ [yes c.acct.offSpec] ++ bytes2 c.acct.doseLow ++
      present2 (c.acct.lastPass.map fun d => min 65535 (s.now - d)) ++ [held c.acct.fallback.isSome] ++
      [match c.uvtUse with
        | .fresh => (0 : Byte)
        | .held _ => 1
        | .failsafe => 2] ++ bytes2 (s.uvtNow ch) ++ s.secondsOf c.uvtHold := by
  subst hc
  have doses : ∀ v : Vector Nat 4, v.toList.flatMap bytes2 =
      bytes2 (v.get 0) ++ bytes2 (v.get 1) ++ bytes2 (v.get 2) ++ bytes2 (v.get 3) := by
    rintro ⟨⟨l⟩, hl⟩
    match l, hl with
    | [a, b, c, d], _ => simp [Vector.get]
  have use : ∀ u : UvtUse, byte u.code = [match u with
      | .fresh => (0 : Byte)
      | .held _ => 1
      | .failsafe => 2] := by
    intro u
    cases u <;> rfl
  simp only [State.channelAccounting, doses, use, flag_yes, heldFlag_held, State.sinceField, opt2_present2,
    State.secField_secondsOf, List.append_assoc]

theorem State.channelPower_eq (ch : ChanId) (c : Channel) (hc : c = s.chan ch) :
    s.channelPower ch = bytes2 c.power.pd ++ bytes2 c.power.applied ++ bytes2 c.power.code ++
      bytes2 (BitVec.ofInt 16 c.power.ePrev).toNat ++
      bytes2 (if c.get .decelHalf = 0 then max 1 (c.get .rampUp / 2) else c.get .rampUp) := by
  subst hc
  rfl

theorem State.channelControl_eq (ch : ChanId) (c : Channel) (hc : c = s.chan ch) :
    s.channelControl ch = [placeIn [.unarmed, .auto, .manual, .full, .standdown, .edit] c.mode,
        placeIn [.unarmed, .auto, .manual, .full, .standdown, .edit] c.prevMode] ++
      bytes2 c.manualValue ++ bytes2 c.manualCount ++ s.secondsOf c.manualLease ++
      [BitVec.ofNat 8 c.startList.length] ++ c.startList.map (fun b => BitVec.ofNat 8 b.1) ++
      bytes2 c.upCount ++ bytes2 c.downCount ++ bytes2 c.pendingUp ++ s.millisOf c.adoption ++
      [yes c.profileValid, yes (s.alarm .stageExhausted ch.1).cause, BitVec.ofNat 8 (c.holder.getD 0)] ++
      s.secondsOf c.editLease := by
  subst hc
  have list : ((s.chan ch).startList.flatMap fun b => [BitVec.ofNat 8 b.1]) =
      (s.chan ch).startList.map fun b => BitVec.ofNat 8 b.1 := List.map_eq_flatMap.symm
  simp only [State.channelControl, byte, Mode.code_placeIn, flag_yes, State.holds, State.secField_secondsOf,
    State.msField_millisOf, list, List.append_assoc, List.cons_append, List.nil_append]

theorem SagState.field_eq (g : SagState) : g.field = match g with
    | .clear => [0, 0, 0, 0]
    | .entering n => [1, 1] ++ bytes2 n
    | .active => [2, 0, 0, 0]
    | .leaving n => [3, 1] ++ bytes2 n := by
  cases g <;> rfl

theorem State.bankTracking_eq (b : BankId) (k : Tracker) (hk : k = (s.bank b).tracker) :
    s.bankTracking b = present2 k.sf ++ present4 k.sn ++ present4 k.sref ++ [yes k.reseed] ++ (match k.sag with
        | .clear => [0, 0, 0, 0]
        | .entering n => [1, 1] ++ bytes2 n
        | .active => [2, 0, 0, 0]
        | .leaving n => [3, 1] ++ bytes2 n) ++ s.secondsOf k.sagTimer ++ s.millisOf k.settleTimer ++
      [yes k.blank, yes k.warm, yes (s.alarm .outputLow b.1).cause] := by
  subst hk
  simp only [State.bankTracking, opt2_present2, opt4_present4, flag_yes, SagState.field_eq, State.secField_secondsOf,
    State.msField_millisOf, State.holds, List.append_assoc, List.cons_append, List.nil_append]

theorem ownerCode_byte (o : Option ChanId) : BitVec.ofNat 8 (ownerCode o) = match o with
    | some ch => BitVec.ofNat 8 (ch.1 + 1)
    | none => 0 := by
  cases o <;> rfl

theorem State.bankControl_eq (b : BankId) (x : Bank) (hx : x = s.bank b) :
    s.bankControl b = [match x.owner with
        | some ch => BitVec.ofNat 8 (ch.1 + 1)
        | none => 0] ++ bytes2 (x.get .position) ++
      [placeIn [.dark, .striking, .warming, .run, .quenching, .faulted, .locked] x.state] ++
      bytes2 (s.litCount b) ++ bytes2 (s.installed b).length ++ s.secondsOf x.warmTimer ++
      s.secondsOf x.faultTimer ++ [placeIn [none, some .strike, some .quench, some .wipe] x.running] ++
      bytes2 x.stepIdx.1 ++ s.millisOf x.stepTimer ++ s.secondsOf x.wipeInterval ++
      [yes x.wipeDue, held x.wiperSlot.isSome, placeIn [.idle, .started, .moving] x.supervision] ++
      s.secondsOf x.wipeLimit ++ [placeIn [.none, .ok, .fault] x.lastWipe] := by
  subst hx
  simp only [State.bankControl, byte, ownerCode_byte, BankState.code_placeIn, programCode_placeIn,
    Supervision.code_placeIn, WipeResult.code_placeIn, flag_yes, heldFlag_held, State.secField_secondsOf,
    State.msField_millisOf, List.append_assoc, List.cons_append, List.nil_append]

theorem State.lampRecord_eq (l : LampId) : s.lampRecord l = match s.lamp l with
    | some x => [1, placeIn [.off, .striking, .lit, .retryWait, .longWait, .dead] x.state, yes x.wanted,
          yes x.unconfirmed] ++ bytes2 x.cool ++ bytes2 x.attempts ++ bytes2 x.sets ++ bytes2 x.dropouts ++
        s.millisOf x.strikeTimer ++ s.millisOf x.waitTimer ++ s.millisOf x.clearTimer ++
        (match x.cmd with
          | none => [0, 0, 0]
          | some (.strike c) => 1 :: bytes2 c
          | some (.set c) => 2 :: bytes2 c
          | some .quench => [3, 0, 0])
    | none => [0] := by
  have slot : ∀ c : Option LampCmd, cmdField c = match c with
      | none => [0, 0, 0]
      | some (.strike c) => 1 :: bytes2 c
      | some (.set c) => 2 :: bytes2 c
      | some .quench => [3, 0, 0] := by
    rintro (_ | c)
    · rfl
    · cases c <;> rfl
  unfold State.lampRecord
  cases s.lamp l with
  | none => rfl
  | some x =>
    simp only [byte, LampState.code_placeIn, flag_yes, State.msField_millisOf, slot, List.append_assoc,
      List.cons_append, List.nil_append]
    rfl

/-- A point's value and what it serves (02, R41). -/
theorem valueField_eq (g : Targets) (v : Option PointValue) : valueField g v = match v, g with
    | none, .wiper _ => [0, 0]
    | none, _ => [0, 0, 0]
    | some (.num n), _ => 1 :: bytes2 n
    | some (.pos w), _ => [1, placeIn [.parked, .moving, .jammed] w] := by
  rcases v with _ | v
  · cases g <;> rfl
  · cases v with
    | num n => rfl
    | pos w => cases w <;> rfl

theorem State.servesField_eq (p : PointId) (g : Targets) : s.servesField p g = match g with
    | .flow ch => if s.flowPoint ch = some p then [1, BitVec.ofNat 8 ch.1] else [0, 0]
    | .uvt chs => if (chs.filter fun ch => s.uvtPoint ch = some p) = [] then [0, 0]
      else [1, maskOf ((chs.filter fun ch => s.uvtPoint ch = some p).map fun ch => ch.1)]
    | .intensity b => if s.intensityPoint b = some p then [1, BitVec.ofNat 8 b.1] else [0, 0]
    | .wiper b => if s.wiperPoint b = some p then [1, BitVec.ofNat 8 b.1] else [0, 0] := by
  cases g with
  | uvt chs => simp only [State.servesField, List.isEmpty_iff, byte, List.cons_append, List.nil_append]; rfl
  | flow ch => rfl
  | intensity b => rfl
  | wiper b => rfl

theorem State.pointRecord_eq (p : PointId) : s.pointRecord p = match s.point p with
    | some x => 1 :: ((match x.value, x.cfg.targets with
          | none, .wiper _ => [0, 0]
          | none, _ => [0, 0, 0]
          | some (.num n), _ => 1 :: bytes2 n
          | some (.pos w), _ => [1, placeIn [.parked, .moving, .jammed] w]) ++
        [yes x.fresh, match x.quality with
          | none => 0
          | some .good => 1
          | some _ => 2] ++ present2 (x.accepted.map fun d => min 65535 (s.now - d)) ++
        (match x.cfg.targets with
          | .flow ch => if s.flowPoint ch = some p then [1, BitVec.ofNat 8 ch.1] else [0, 0]
          | .uvt chs => if (chs.filter fun ch => s.uvtPoint ch = some p) = [] then [0, 0]
            else [1, maskOf ((chs.filter fun ch => s.uvtPoint ch = some p).map fun ch => ch.1)]
          | .intensity b => if s.intensityPoint b = some p then [1, BitVec.ofNat 8 b.1] else [0, 0]
          | .wiper b => if s.wiperPoint b = some p then [1, BitVec.ofNat 8 b.1] else [0, 0]))
    | none => [0, 0, 0, 0, yes false, 0, 0, 0, 0, 0, 0] := by
  have quality : ∀ q : Option Quality, qualityField q = [match q with
      | none => 0
      | some .good => 1
      | some _ => 2] := by
    rintro (_ | q)
    · rfl
    · cases q <;> rfl
  unfold State.pointRecord
  cases s.point p with
  | none => rfl
  | some x =>
    simp only [valueField_eq, State.servesField_eq, quality, byte, flag_yes, State.sinceField, opt2_present2,
      List.append_assoc, List.cons_append, List.nil_append]
    rfl

theorem State.portRecord_eq (p : Port) : s.portRecord p =
    bytes2 s.address ++ [yes s.repeater] ++ bytes2 (s.port p).errors ++ bytes2 (s.port p).errorLimit ++
      bytes2 (s.port p).queue.length ++ bytes2 (s.port p).ownCount ++
      [held ((s.replySlot.map fun w => w.port) = some p)] ++
      (match p with
        | .north => [held s.alertSlot.isSome]
        | .south => bytes2 ((List.finRange 76).countP fun q => (s.slotFrame q).isSome) ++
            [BitVec.ofNat 8 s.pointer.1]) := by
  cases hw : s.replySlot with
  | none => cases p <;> simp [State.portRecord, hw, flag_yes, heldFlag_held, State.slotsWaiting, byte]
  | some w => cases p <;> simp [State.portRecord, hw, flag_yes, heldFlag_held, State.slotsWaiting, byte]

theorem State.alarmRecord_eq (k : AlarmKind) (i : Nat) : s.alarmRecord k i =
    bytes2 (s.priority k) ++ [placeIn [.idle, .pending, .inService, .inServiceRecurred] (s.alarm k i).state] ++
      (if k.latched then [] else [yes (s.alarm k i).cause]) := by
  simp only [State.alarmRecord, byte, AlarmState.code_placeIn, flag_yes]

theorem State.alarmSummary_eq : s.alarmSummary =
    bytes2 s.threshold ++ bytes2 s.alertDest ++ [yes s.alertLine, held s.alertSlot.isSome] ++
      bytes2 (allInstances.countP fun z => (s.alarm z.1 z.2).state = .pending) ++
      bytes2 (allInstances.countP fun z => (s.alarm z.1 z.2).state = .pending ∧ s.threshold < s.priority z.1) ++
      bytes2 (allInstances.countP fun z =>
        (s.alarm z.1 z.2).state = .inService ∨ (s.alarm z.1 z.2).state = .inServiceRecurred) ++
      (List.finRange 4).flatMap fun ch =>
        [placeIn [.idle, .high, .gap] (s.chan ch).pulsePhase] ++ s.millisOf (s.chan ch).pulseTimer ++
          bytes2 (s.chan ch).acct.backlog := by
  have pending : s.pendingInstances.length = allInstances.countP fun z => (s.alarm z.1 z.2).state = .pending :=
    List.countP_eq_length_filter.symm
  have above : (s.pendingInstances.countP fun z => s.threshold < s.priority z.1) =
      allInstances.countP fun z => (s.alarm z.1 z.2).state = .pending ∧ s.threshold < s.priority z.1 := by
    rw [State.pendingInstances, List.countP_filter]
    exact List.countP_congr fun z _ => by simp [and_comm]
  have served : s.inServiceCount = allInstances.countP fun z =>
      (s.alarm z.1 z.2).state = .inService ∨ (s.alarm z.1 z.2).state = .inServiceRecurred :=
    List.countP_congr fun z _ => by simp
  simp only [State.alarmSummary, pending, above, served, byte, PulsePhase.code_placeIn, flag_yes, heldFlag_held,
    State.msField_millisOf, allChans, List.append_assoc, List.cons_append, List.nil_append]

/-! ### Records named by their kind byte and index -/

theorem State.record_chan (ch : ChanId) : s.record 1 [BitVec.ofNat 8 ch.1] = some (s.channelAccounting ch) ∧
    s.record 2 [BitVec.ofNat 8 ch.1] = some (s.channelPower ch) ∧
    s.record 3 [BitVec.ofNat 8 ch.1] = some (s.channelControl ch) := by
  refine ⟨?_, ?_, ?_⟩ <;>
  · show (indexOf 4 _).map _ = _
    rw [byteOf_chan, indexOf_val, Option.map_some]

theorem State.record_bank (b : BankId) : s.record 4 [BitVec.ofNat 8 b.1] = some (s.bankTracking b) ∧
    s.record 5 [BitVec.ofNat 8 b.1] = some (s.bankControl b) := by
  constructor <;>
  · show (indexOf 12 _).map _ = _
    rw [byteOf_bank, indexOf_val, Option.map_some]

theorem State.record_lamp (l : LampId) : s.record 6 [BitVec.ofNat 8 l.1] = some (s.lampRecord l) := by
  show (indexOf 64 _).map _ = _
  rw [byteOf_lamp, indexOf_val, Option.map_some]

theorem State.record_point (p : PointId) : s.record 7 [BitVec.ofNat 8 p.1] = some (s.pointRecord p) := by
  show (indexOf 96 _).map _ = _
  rw [byteOf_point, indexOf_val, Option.map_some]

theorem State.record_port (p : Port) : s.record 8 [placeIn [.north, .south] p] = some (s.portRecord p) := by
  cases p <;> rfl

theorem State.record_alarm {k : AlarmKind} {i : Nat} (hi : i < k.scope) :
    s.record 9 [BitVec.ofNat 8 k.number, BitVec.ofNat 8 i] = some (s.alarmRecord k i) := by
  have small : k.scope ≤ 12 := by cases k <;> decide
  have inst : (BitVec.ofNat 8 i).toNat = i := by rw [BitVec.toNat_ofNat]; omega
  show (instanceOf _ _).map _ = _
  simp only [instanceOf, byteOf_number, alarmKindOfCode_number, inst, if_pos hi, Option.map_some]

/-- A record that no reference names. -/
theorem State.record_none {k i : Byte}
    (h : (k = 0 ∨ 11 ≤ k.toNat) ∨ (1 ≤ k.toNat ∧ k.toNat ≤ 3 ∧ 4 ≤ i.toNat) ∨ ((k = 4 ∨ k = 5) ∧ 12 ≤ i.toNat) ∨
        (k = 6 ∧ 64 ≤ i.toNat) ∨ (k = 7 ∧ 96 ≤ i.toNat) ∨ (k = 8 ∧ 2 ≤ i.toNat)) :
    s.record k [i] = none := by
  have missing : ∀ {n : Nat} (f : Fin n → List Byte), n ≤ i.toNat → (indexOf n i.toNat).map f = none := by
    intro n f hn
    rw [indexOf_none hn, Option.map_none]
  rcases h with (rfl | h) | ⟨lo, hi, h⟩ | ⟨rfl | rfl, h⟩ | ⟨rfl, h⟩ | ⟨rfl, h⟩ | ⟨rfl, h⟩
  · rfl
  · obtain ⟨m, hm⟩ := Nat.exists_eq_add_of_le' h
    unfold State.record
    rw [hm]
    rfl
  · have kind : k.toNat = 1 ∨ k.toNat = 2 ∨ k.toNat = 3 := by omega
    unfold State.record
    rcases kind with e | e | e <;> rw [e] <;> exact missing _ h
  · exact missing _ h
  · exact missing _ h
  · exact missing _ h
  · exact missing _ h
  · have port : portOf i.toNat = none := by
      obtain ⟨m, hm⟩ := Nat.exists_eq_add_of_le' h
      rw [hm]
      rfl
    show (portOf i.toNat).map _ = _
    rw [port, Option.map_none]

/-- A reference outside its kind's scope, or of no kind (10, R178). -/
theorem State.record_alarm_none {k i : Byte} (h : ∀ m : AlarmKind, m.number = k.toNat → m.scope ≤ i.toNat) :
    s.record 9 [k, i] = none := by
  have none : instanceOf k i = none := by
    unfold instanceOf
    split
    · next m hm => exact if_neg (Nat.not_lt.mpr (h m (alarmKindOfCode_some hm)))
    · rfl
  show (instanceOf k i).map _ = _
  rw [none, Option.map_none]

end Records

/-! ### The reads together -/

theorem readStateOk_one {k i : Byte} (h9 : k ≠ 9) (h10 : k ≠ 10) : readStateOk k [i] = true := by
  rw [readStateOk, if_neg h9, if_neg h10]
  rfl

/-- Settles O33: each read finds its bytes by the entry and record lemmas above, and a read's answer leaves the rest as
it is. -/
theorem readsAnswerAndChangeNothing : Obligations.ReadsAnswerAndChangeNothing := by
  intro r s hs
  refine ⟨?identify, ?settings, ?curves, ?banks, ?programs, ?lamps, ?points, ?priorities, ?devices, ?noEntry,
    ?channels, ?bankRecords, ?lampRecords, ?pointRecords, ?ports, ?alarms, ?summary, ?noKind, ?lengths, ?noIndex,
    ?noInstance, ?totals, ?noChannel⟩
  case identify =>
    intro family revision capacities hf hr hc
    subst hf hr hc
    exact congrArg Host.Outcome.next (requestRow_unchanged (a := .done false s.identity) r _ _ hs rfl)
  case settings => exact fun ch n x hx => exec_readEntry_some r hs (s.entry_setting ch hx)
  case curves =>
    exact fun ch k => ⟨exec_readEntry_some r hs (s.entry_curves ch k).1, exec_readEntry_some r hs (s.entry_curves ch k).2⟩
  case banks =>
    refine fun b n => ⟨fun x hx => exec_readEntry_some r hs (s.entry_bankSetting b hx), ?_, ?_⟩
    · have owner := exec_readEntry_some r hs (s.entry_owner b)
      rw [ownerCode_byte] at owner
      exact owner
    · refine (exec_readEntry_some r hs (s.entry_wiperStation b)).trans ?_
      cases (s.bank b).wiperStation <;> rfl
  case programs =>
    intro b k
    refine (exec_readEntry_some r hs (s.entry_program b k)).trans ?_
    rw [programBytes, List.flatMap_map]
    simp only [Step.raw_toBytes] <;> rfl
  case lamps =>
    intro l
    refine (exec_readEntry_some r hs (s.entry_lamp l)).trans ?_
    cases s.lamp l <;> rfl
  case points =>
    intro p
    refine (exec_readEntry_some r hs (s.entry_point p)).trans ?_
    cases s.point p with
    | none => rfl
    | some x =>
      simp only [PointCfg.bytes_eq] <;> rfl
  case priorities => exact fun k => exec_readEntry_some r hs (s.entry_priority k)
  case devices =>
    exact ⟨exec_readEntry_some r hs rfl, exec_readEntry_some r hs rfl, exec_readEntry_some r hs rfl,
      exec_readEntry_some r hs rfl⟩
  case noEntry => exact fun t i n h => exec_readEntry_none r hs (s.entry_none h)
  case channels =>
    intro ch c hc
    obtain ⟨accounting, power, control⟩ := s.record_chan ch
    rw [s.channelAccounting_eq ch c hc] at accounting
    rw [s.channelPower_eq ch c hc] at power
    rw [s.channelControl_eq ch c hc] at control
    exact ⟨exec_readState_some r hs rfl accounting, exec_readState_some r hs rfl power,
      exec_readState_some r hs rfl control⟩
  case bankRecords =>
    intro b x k hx hk
    obtain ⟨tracking, control⟩ := s.record_bank b
    rw [s.bankTracking_eq b k (hx ▸ hk)] at tracking
    rw [s.bankControl_eq b x hx] at control
    exact ⟨exec_readState_some r hs rfl tracking, exec_readState_some r hs rfl control⟩
  case lampRecords =>
    intro l
    have found := s.record_lamp l
    rw [s.lampRecord_eq l] at found
    exact exec_readState_some r hs rfl found
  case pointRecords =>
    intro p
    have found := s.record_point p
    rw [s.pointRecord_eq p] at found
    exact exec_readState_some r hs rfl found
  case ports =>
    intro p
    have found := s.record_port p
    rw [s.portRecord_eq p] at found
    exact exec_readState_some r hs rfl found
  case alarms =>
    intro k i hi
    have found := s.record_alarm hi
    rw [s.alarmRecord_eq k i] at found
    exact exec_readState_some r hs rfl found
  case summary =>
    intro n above served hn ha hv
    subst hn ha hv
    have found : s.record 10 [] = some s.alarmSummary := rfl
    rw [s.alarmSummary_eq] at found
    exact exec_readState_some r hs rfl found
  case noKind =>
    intro k i h
    have h9 : k ≠ 9 := by rintro rfl; simp at h
    have h10 : k ≠ 10 := by rintro rfl; simp at h
    exact exec_readState_none r hs (readStateOk_one h9 h10) (s.record_none (Or.inl h))
  case lengths =>
    intro k index h
    refine exec_readState_unknown r hs ?_
    unfold readStateOk
    split
    · next e => simpa [e] using h
    · split
      · next e => simpa [e] using h
      · next h9 h10 =>
        rw [if_neg h9, if_neg h10] at h
        exact decide_eq_false h
  case noIndex =>
    intro k i h
    have h9 : k ≠ 9 := by rintro rfl; simp at h
    have h10 : k ≠ 10 := by rintro rfl; simp at h
    exact exec_readState_none r hs (readStateOk_one h9 h10) (s.record_none (Or.inr h))
  case noInstance => exact fun k i h => exec_readState_none r hs rfl (s.record_alarm_none h)
  case totals =>
    intro ch
    exact congrArg Host.Outcome.next
      (requestRow_unchanged (a := .done false (s.totalsRecord ch)) r _ _ hs (forChannel_ofNat ch _ s))
  case noChannel => exact fun b h => congrArg Host.Outcome.next (requestRow_unchanged r _ _ hs (forChannel_none h _ s))

end Sys2Proof.Machine

namespace Sys2Proof.Machine
open Sys2Proof

set_option Elab.async false

/-! ### Alarm instances by kind and number (10) -/

theorem AlarmKind.mem_all (k : AlarmKind) : k ∈ AlarmKind.all := by cases k <;> decide

/-- The 118 places are laid out kind after kind. -/
theorem AlarmKind.base_scope {k m : AlarmKind} (h : k.number < m.number) : k.base + k.scope ≤ m.base := by
  have all : ∀ k ∈ AlarmKind.all, ∀ m ∈ AlarmKind.all, k.number < m.number → k.base + k.scope ≤ m.base := by decide
  exact all k (AlarmKind.mem_all k) m (AlarmKind.mem_all m) h

theorem AlarmKind.scope_pos (k : AlarmKind) : 0 < k.scope := by cases k <;> decide

theorem AlarmKind.number_injective {k m : AlarmKind} (h : k.number = m.number) : k = m :=
  Option.some.inj ((alarmKindOfCode_number k).symm.trans ((congrArg alarmKindOfCode h).trans (alarmKindOfCode_number m)))

/-- Instances of different kinds have different places. -/
theorem alarmSlot_kind {k m : AlarmKind} {i j : Nat} (h : k ≠ m) : alarmSlot k i ≠ alarmSlot m j := by
  intro e
  have place : k.base + i % k.scope = m.base + j % m.scope := congrArg Fin.val e
  have hk := Nat.mod_lt i (AlarmKind.scope_pos k)
  have hm := Nat.mod_lt j (AlarmKind.scope_pos m)
  rcases Nat.lt_trichotomy k.number m.number with lt | eq | gt
  · have := AlarmKind.base_scope lt
    omega
  · exact h (AlarmKind.number_injective eq)
  · have := AlarmKind.base_scope gt
    omega

/-- Instances of one kind have different places. -/
theorem alarmSlot_inst {k : AlarmKind} {i j : Nat} (hi : i < k.scope) (hj : j < k.scope) (h : i ≠ j) :
    alarmSlot k i ≠ alarmSlot k j := by
  intro e
  have place : k.base + i % k.scope = k.base + j % k.scope := congrArg Fin.val e
  rw [Nat.mod_eq_of_lt hi, Nat.mod_eq_of_lt hj] at place
  omega

theorem report_alarm_ne {k m : AlarmKind} {i j : Nat} (h : alarmSlot m j ≠ alarmSlot k i) (holds : Bool) (s : State) :
    (report k i holds s).alarm m j = s.alarm m j :=
  report_alarms_ne k i holds s h

theorem raise_alarm_ne {k m : AlarmKind} {i j : Nat} (h : alarmSlot m j ≠ alarmSlot k i) (s : State) :
    (raise k i s).alarm m j = s.alarm m j :=
  (raise_raisedOnly k i s).2.2 _ h

/-! ### What an event of the alarm unit leaves -/

namespace State.alarmUnitOnly

variable {s t : State}

/-- An update elsewhere goes through a change of the alarm unit. -/
theorem modChan (h : s.alarmUnitOnly t) (c : ChanId) (f : Channel → Channel) :
    (s.modChan c f).alarmUnitOnly (t.modChan c f) := by
  obtain ⟨a, l, d, rfl⟩ := h
  exact ⟨a, l, d, rfl⟩

theorem report (h : s.alarmUnitOnly t) (k : AlarmKind) (i : Nat) (holds : Bool) : s.alarmUnitOnly (report k i holds t) :=
  h.trans (report_alarmUnitOnly k i holds t)

theorem judgeChannel (h : s.alarmUnitOnly t) (ch : ChanId) : s.alarmUnitOnly (judgeChannel ch t) :=
  h.trans (judgeChannel_alarmUnitOnly ch t)

theorem points (h : s.alarmUnitOnly t) : t.points = s.points := by
  obtain ⟨_, _, _, rfl⟩ := h
  rfl

theorem priorities (h : s.alarmUnitOnly t) : t.priorities = s.priorities := by
  obtain ⟨_, _, _, rfl⟩ := h
  rfl

theorem slotsMade (h : s.alarmUnitOnly t) : t.slotsMade = s.slotsMade := by
  obtain ⟨_, _, _, rfl⟩ := h
  rfl

end State.alarmUnitOnly

/-! ### Notes of ALERT frames (10, R175) -/

/-- Every note names a place of its kind and carries its kind's priority. -/
def State.notesSound (s : State) : Prop :=
  ∀ n ∈ s.alertsDue, n.inst < n.kind.scope ∧ n.priority = s.priority n.kind

theorem mem_insertNote {n m : AlertNote} {l : List AlertNote} : m ∈ insertNote n l ↔ m = n ∨ m ∈ l := by
  induction l with
  | nil => simp [insertNote]
  | cons x l ih =>
    unfold insertNote
    split
    · simp
    · simp [ih, or_left_comm]

namespace State.notesSound

variable {s t : State}

theorem of_eq (h : s.notesSound) (hp : t.priorities = s.priorities) (hd : t.alertsDue = s.alertsDue) : t.notesSound := by
  simpa only [State.notesSound, State.priority, hp, hd] using h

theorem chan (h : s.notesSound) (c : ChanId) (f : Channel → Channel) : (s.modChan c f).notesSound := h.of_eq rfl rfl

theorem bank (h : s.notesSound) (b : BankId) (f : Bank → Bank) : (s.modBank b f).notesSound := h.of_eq rfl rfl

theorem lamp (h : s.notesSound) (l : LampId) (f : Lamp → Lamp) : (s.modLamp l f).notesSound := h.of_eq rfl rfl

theorem atRest (h : s.atRest) : s.notesSound := by
  intro n hn
  rw [h.1] at hn
  cases hn

theorem enterPending (h : s.notesSound) {k : AlarmKind} {i : Nat} (hi : i < k.scope) : (enterPending k i s).notesSound := by
  have noted : (noteAlert k i (s.modAlarm k i fun a => { a with state := .pending })).notesSound := by
    unfold noteAlert
    split
    · intro n hn
      rcases mem_insertNote.mp hn with rfl | hn
      · exact ⟨hi, rfl⟩
      · exact h n hn
    · exact h
  exact noted.of_eq rfl rfl

theorem report (h : s.notesSound) {k : AlarmKind} {i : Nat} (hi : i < k.scope) (holds : Bool) :
    (report k i holds s).notesSound := by
  have marked : ∀ b : Bool, (s.modAlarm k i fun a => { a with cause := b }).notesSound := fun _ => h.of_eq rfl rfl
  unfold Machine.report beginCondition ceaseCondition
  dsimp only
  split
  · exact h
  · split
    · split
      · exact (marked true).enterPending hi
      · exact marked true
    · split
      · exact (marked false).of_eq rfl rfl
      · exact marked false

theorem raise (h : s.notesSound) {k : AlarmKind} {i : Nat} (hi : i < k.scope) : (raise k i s).notesSound := by
  unfold Machine.raise
  split
  · exact h
  · split
    · exact h.enterPending hi
    · exact h
    · exact h.of_eq rfl rfl
    · exact h

theorem moves (h : s.notesSound) (m : s.moves t) : t.notesSound := by
  induction m with
  | refl => exact h
  | chan _ _ _ ih => exact ih.of_eq rfl rfl
  | bank _ _ _ ih => exact ih.of_eq rfl rfl
  | lamp _ _ _ ih => exact ih.of_eq rfl rfl
  | report _ hi ih => exact ih.report hi _
  | raise _ hi ih => exact ih.raise hi
  | slot _ _ ih => exact ih.of_eq rfl rfl

end State.notesSound

/-! ### The end of an event: its ALERT frames (08, R144; 10, R175) -/

/-- `t` is `s` but for the alert slot and ALERT frames that have entered the north queue. -/
def State.gainsAlerts (s t : State) : Prop :=
  ∃ made a, s.areAlerts made ∧
    t = { s with north := { s.north with queue := s.north.queue ++ made }, alertSlot := a }

namespace State.gainsAlerts

variable {s t : State}

theorem refl (s : State) : s.gainsAlerts s :=
  ⟨[], s.alertSlot, by simp [State.areAlerts], by simp⟩

theorem trans {u : State} (h : s.gainsAlerts t) (g : t.gainsAlerts u) : s.gainsAlerts u := by
  obtain ⟨m, a, hm, rfl⟩ := h
  obtain ⟨n, b, hn, rfl⟩ := g
  refine ⟨m ++ n, b, fun q hq => ?_, by simp⟩
  rcases List.mem_append.mp hq with hq | hq
  · exact hm q hq
  · exact hn q hq

theorem makeAlert (h : s.gainsAlerts t) {n : AlertNote} (hi : n.inst < n.kind.scope)
    (hp : n.priority = s.priority n.kind) : s.gainsAlerts (makeAlert n t) := by
  refine h.trans ?_
  have priority : t.priority n.kind = s.priority n.kind := by
    obtain ⟨_, _, _, rfl⟩ := h
    rfl
  unfold Machine.makeAlert
  split
  · dsimp only
    split
    · refine ⟨[_], t.alertSlot, fun q hq => ⟨n.kind, n.inst, hi, ?_⟩, rfl⟩
      rw [List.mem_singleton.mp hq, priority, hp]
      rfl
    · exact ⟨[], _, by simp [State.areAlerts], by simp; rfl⟩
  · exact .refl t

theorem flushAlerts (h : s.notesSound) : ({ s with alertsDue := [] } : State).gainsAlerts (flushAlerts s) :=
  forEach_keeps (fun n hn _ g => g.makeAlert (h n hn).1 (h n hn).2) (.refl _)

/-- An event that made no command ends with its ALERT frames. -/
theorem endEvent (h : s.notesSound) (hs : s.slotsMade = []) :
    ({ s with alertsDue := [] } : State).gainsAlerts (endEvent s) := by
  have alerts := flushAlerts h
  have none : (Machine.flushAlerts s).slotsMade = [] := by
    obtain ⟨_, _, _, e⟩ := alerts
    rw [e]
    exact hs
  rw [Machine.endEvent, flushSlots_none none]
  exact alerts

theorem alarms (h : s.gainsAlerts t) : t.alarms = s.alarms := by
  obtain ⟨_, _, _, rfl⟩ := h
  rfl

end State.gainsAlerts

/-- An event of the alarm unit alone, from rest, ends as `onlyAlarms` says. -/
theorem State.alarmUnitOnly.onlyAlarms {s t : State} (h : s.alarmUnitOnly t) (hs : s.atRest) (ht : t.notesSound) :
    s.onlyAlarms (endEvent t) := by
  obtain ⟨made, a, hm, e⟩ := State.gainsAlerts.endEvent ht (h.slotsMade.trans hs.2)
  obtain ⟨_, _, _, rfl⟩ := h
  rw [e]
  refine ⟨?_, made, hm, by simp⟩
  have due := hs.1
  cases s
  simp_all

theorem endEvent_alarms (s : State) : (endEvent s).alarms = s.alarms := by
  obtain ⟨_, _, _, _, _, e⟩ := endEvent_framesOnly s
  rw [e]

theorem endEvent_alarm (s : State) (k : AlarmKind) (i : Nat) : (endEvent s).alarm k i = s.alarm k i :=
  congrArg (fun v => v.get (alarmSlot k i)) (endEvent_alarms s)

/-! ### The conditions of a channel and its banks (02, R36 to R38; 05, R96) -/

/-- Judging banks moves no condition but of BANK_FAULT and INTENSITY_STALE. -/
theorem judgeBanks_alarm (l : List BankId) (s : State) {k : AlarmKind} (hf : k ≠ .bankFault) (hi : k ≠ .intensityStale)
    (i : Nat) : (forEach l judgeBank s).alarm k i = s.alarm k i :=
  forEach_keeps (P := fun t => t.alarm k i = s.alarm k i) (fun b _ t ht => by
    rw [judgeBank, judgeIntensityStale, report_alarm_ne (alarmSlot_kind hi), judgeBankFault,
      report_alarm_ne (alarmSlot_kind hf), ht]) rfl

theorem judgeChannel_alarm (ch : ChanId) (s : State) {k : AlarmKind} (hf : k ≠ .bankFault) (hi : k ≠ .intensityStale)
    (hw : k ≠ .flowStale) (hu : k ≠ .uvtStale) (i : Nat) : (judgeChannel ch s).alarm k i = s.alarm k i := by
  rw [judgeChannel, judgeBanks_alarm _ _ hf hi, judgeUvtStale, report_alarm_ne (alarmSlot_kind hu), judgeFlowStale,
    report_alarm_ne (alarmSlot_kind hw)]

theorem judgeChannel_flowStale (ch : ChanId) (s : State) : ((judgeChannel ch s).alarm .flowStale ch.1).cause =
    ((s.chan ch).mode ≠ .unarmed && !s.freshPoint (s.flowPoint ch)) := by
  rw [judgeChannel, judgeBanks_alarm _ _ (by decide) (by decide), judgeUvtStale,
    report_alarm_ne (alarmSlot_kind (by decide)), judgeFlowStale, report_cause]

theorem judgeChannel_uvtStale (ch : ChanId) (s : State) : ((judgeChannel ch s).alarm .uvtStale ch.1).cause =
    ((s.chan ch).mode ≠ .unarmed && (s.chan ch).uvtUse ≠ .fresh) := by
  rw [judgeChannel, judgeBanks_alarm _ _ (by decide) (by decide), judgeUvtStale, report_cause, judgeFlowStale,
    report_chan]

end Sys2Proof.Machine

namespace Sys2Proof.Machine
open Sys2Proof

/-! ### TAKE EDIT (05, R77; 09, R157) -/

/-- A request row of a part that is ready whose handling keeps the address: the event ends and the answer is sent. -/
theorem requestRow_event (r : Sender) (req : Request) (h : State → State × Answer) {s u : State} {a : Answer}
    (hs : s.ready) (hh : h s = (u, a)) (haddr : u.address = s.address) :
    requestRow r req h s = (endEvent u).withReply r req.kindByte a.bytes (req = .restart) := by
  obtain ⟨_, _, _, _, _, e⟩ := endEvent_framesOnly u
  have address : (endEvent u).address = s.address := by rw [e, ← haddr]
  have normal : (endEvent u).repeater = false := by
    rw [State.repeater, address]
    exact State.normal_repeater hs.1
  have row := requestRow_ready r req h hs (by rw [hh]; exact normal)
  rwa [hh] at row

theorem State.alarmUnitOnly.address {s t : State} (h : s.alarmUnitOnly t) : t.address = s.address := by
  obtain ⟨_, _, _, rfl⟩ := h
  rfl

/-- The freshness of a point reads the points alone. -/
theorem State.freshPoint_congr {s t : State} (h : t.points = s.points) (o : Option PointId) :
    t.freshPoint o = s.freshPoint o := by
  simp only [State.freshPoint, State.point, h]

theorem State.servingPoint_congr {s t : State} (h : t.points = s.points) (q : Targets → Bool) :
    t.servingPoint q = s.servingPoint q := by
  simp only [State.servingPoint, State.point, h]

/-- The fallback timer starts where the flow point is not FRESH (01, R4). -/
theorem fallbackIfStale_eq (ch : ChanId) (s : State) : fallbackIfStale ch s = s.modChan ch fun c => c.setAcct fun a =>
    { a with fallback :=
      if s.freshPoint (s.flowPoint ch) = false then some (s.now + c.get .passFallback) else a.fallback } := by
  unfold fallbackIfStale
  split
  · next h => simp [h, Channel.setAcct]
  · next h =>
    rw [Bool.not_eq_true] at h
    simp only [h, if_true]
    rfl

theorem State.alarmUnitOnly.fallbackIfStale {s t : State} (h : s.alarmUnitOnly t) (ch : ChanId) :
    (fallbackIfStale ch s).alarmUnitOnly (fallbackIfStale ch t) := by
  obtain ⟨a, l, d, rfl⟩ := h
  rw [fallbackIfStale_eq, fallbackIfStale_eq]
  exact ⟨a, l, d, rfl⟩

/-- A channel's own items at entry to EDIT (01, R4; 05, R77), `stale` saying that its flow point is not FRESH. -/
def Channel.edited (c : Channel) (stale : Bool) (now : Nat) : Channel :=
  { c with
    mode := .edit
    prevMode := c.mode
    upCount := 0
    downCount := 0
    acct := { c.acct with
      fallback := if c.mode = .unarmed ∧ stale then some (now + c.get .passFallback) else c.acct.fallback } }

section EnterEdit

variable {s : State} {ch : ChanId}

/-- The state that an entry to EDIT judges the channel's conditions in (05, R77). -/
def editedState (ch : ChanId) (s : State) : State :=
  let calm := calmStaging ch (s.modChan ch fun c => { c with mode := .edit, prevMode := (s.chan ch).mode })
  if (s.chan ch).mode = .unarmed then fallbackIfStale ch calm else calm

theorem enterEdit_eq (h : (s.chan ch).mode ≠ .edit) : enterEdit ch s =
    if (s.chan ch).mode = .unarmed then judgeChannel ch (editedState ch s) else editedState ch s := by
  unfold enterEdit editedState
  dsimp only
  rw [if_neg h]
  split <;> rfl

theorem editedState_alarmUnitOnly (ch : ChanId) (s : State) :
    (s.modChan ch fun c => c.edited (!s.freshPoint (s.flowPoint ch)) s.now).alarmUnitOnly (editedState ch s) := by
  have calm := report_alarmUnitOnly .stageExhausted ch.1 false
    (zeroCounters ch (s.modChan ch fun c => { c with mode := .edit, prevMode := (s.chan ch).mode }))
  unfold editedState calmStaging
  dsimp only
  by_cases h : (s.chan ch).mode = .unarmed
  · have base : (s.modChan ch fun c => c.edited (!s.freshPoint (s.flowPoint ch)) s.now) =
        fallbackIfStale ch (zeroCounters ch (s.modChan ch fun c =>
          { c with mode := .edit, prevMode := (s.chan ch).mode })) := by
      rw [fallbackIfStale_eq, zeroCounters, State.modChan_modChan, State.modChan_modChan]
      refine modChan_congr ?_
      simp only [Channel.edited, Channel.setAcct, h, true_and, Bool.not_eq_true']
      rfl
    rw [if_pos h, base]
    exact calm.fallbackIfStale ch
  · have base : (s.modChan ch fun c => c.edited (!s.freshPoint (s.flowPoint ch)) s.now) =
        zeroCounters ch (s.modChan ch fun c => { c with mode := .edit, prevMode := (s.chan ch).mode }) := by
      rw [zeroCounters, State.modChan_modChan]
      refine modChan_congr ?_
      simp only [Channel.edited, h, false_and, if_false]
    rw [if_neg h, base]
    exact calm

theorem enterEdit_alarmUnitOnly (h : (s.chan ch).mode ≠ .edit) :
    (s.modChan ch fun c => c.edited (!s.freshPoint (s.flowPoint ch)) s.now).alarmUnitOnly (enterEdit ch s) := by
  rw [enterEdit_eq h]
  split
  · exact (editedState_alarmUnitOnly ch s).judgeChannel ch
  · exact editedState_alarmUnitOnly ch s

theorem enterEdit_notesSound (h : (s.chan ch).mode ≠ .edit) (hs : s.notesSound) : (enterEdit ch s).notesSound := by
  have edited : (editedState ch s).notesSound := by
    have calm : (calmStaging ch (s.modChan ch fun c => { c with mode := .edit, prevMode := (s.chan ch).mode })).notesSound :=
      ((hs.chan ch _).chan ch _).report ch.isLt false
    unfold editedState
    dsimp only
    split
    · rw [fallbackIfStale_eq]
      exact calm.chan ch _
    · exact calm
  rw [enterEdit_eq h]
  split
  · exact edited.moves (.judgeChannel .refl ch)
  · exact edited

theorem editedState_stageExhausted (ch : ChanId) (s : State) :
    ((editedState ch s).alarm .stageExhausted ch.1).cause = false := by
  unfold editedState
  dsimp only
  split
  · rw [fallbackIfStale_eq]
    exact report_cause _ _ _ _
  · exact report_cause _ _ _ _

theorem enterEdit_stageExhausted (h : (s.chan ch).mode ≠ .edit) :
    ((enterEdit ch s).alarm .stageExhausted ch.1).cause = false := by
  rw [enterEdit_eq h]
  split
  · rw [judgeChannel_alarm ch _ (by decide) (by decide) (by decide) (by decide)]
    exact editedState_stageExhausted ch s
  · exact editedState_stageExhausted ch s

/-- From UNARMED the staleness conditions of a channel begin to be judged (02, R36, R37). -/
theorem enterEdit_conditions (h : (s.chan ch).mode = .unarmed) :
    ((enterEdit ch s).alarm .flowStale ch.1).cause = (!s.freshPoint (s.flowPoint ch)) ∧
      ((enterEdit ch s).alarm .uvtStale ch.1).cause = decide ((s.chan ch).uvtUse ≠ .fresh) := by
  have edited := editedState_alarmUnitOnly ch s
  have chan := edited.chan ch
  rw [State.modChan_chan_self] at chan
  have fresh : (editedState ch s).freshPoint ((editedState ch s).flowPoint ch) = s.freshPoint (s.flowPoint ch) := by
    have points : (editedState ch s).points = s.points := edited.points
    rw [State.flowPoint, State.servingPoint_congr points, State.freshPoint_congr points, State.flowPoint]
  rw [enterEdit_eq (by rw [h]; decide), if_pos h, judgeChannel_flowStale, judgeChannel_uvtStale, fresh, chan]
  constructor <;> simp [Channel.edited]

end EnterEdit

/-- Settles O45: the base of both answers is one update of the channel, and the entry to EDIT differs from it by reports
to the alarm unit alone. -/
theorem takeEditTakesTheLock : Obligations.TakeEditTakesTheLock := by
  intro r ch lease n s hs lo hi hn
  subst hn
  have station : ¬ (stationOf r.src = 0 ∨ stationOf r.src = 127) := by
    rw [stationOf_src]
    omega
  have mark : (Answer.done (editLeaseRange.outside lease.toNat) []).bytes = [clampMark lease.toNat 1 600] := by
    rw [show clampMark lease.toNat 1 600 = _ from clampMark_eq lease.toNat editLeaseRange]
    rfl
  have rest : (holdLock ch (stationOf r.src) (editLeaseRange.clamp lease.toNat) s).atRest := hs.2.2.2.of_eq rfl rfl
  constructor
  · intro free notEdit
    have handled : handleTakeEdit (stationOf r.src) (BitVec.ofNat 8 ch.1) lease s =
        (enterEdit ch (holdLock ch (stationOf r.src) (editLeaseRange.clamp lease.toNat) s),
          .done (editLeaseRange.outside lease.toNat) []) := by
      rw [handleTakeEdit, forChannel_ofNat]
      dsimp only
      rw [if_neg station, free]
    have mode : ((holdLock ch (stationOf r.src) (editLeaseRange.clamp lease.toNat) s).chan ch).mode = (s.chan ch).mode := by
      rw [holdLock, State.modChan_chan_self]
    have entered := enterEdit_alarmUnitOnly (mode ▸ notEdit)
    refine ⟨endEvent (enterEdit ch (holdLock ch (stationOf r.src) (editLeaseRange.clamp lease.toNat) s)), ?_, ?_, ?_, ?_⟩
    · refine congrArg Host.Outcome.next ((requestRow_event r _ _ hs handled entered.address).trans ?_)
      rw [mark]
      rfl
    · have only := entered.onlyAlarms (rest.of_eq rfl rfl) (enterEdit_notesSound (mode ▸ notEdit) (.atRest rest))
      have base : (s.modChan ch fun c => { c with
          mode := .edit
          prevMode := c.mode
          holder := some r.station
          editLease := some (s.now + 1000 * clampNat lease.toNat 1 600)
          upCount := 0
          downCount := 0
          acct := { c.acct with
            fallback := if c.mode = .unarmed ∧ s.freshPoint (s.flowPoint ch) = false then
                some (s.now + c.get .passFallback)
              else c.acct.fallback } }) = (holdLock ch (stationOf r.src) (editLeaseRange.clamp lease.toNat) s).modChan ch
            fun c => c.edited (!s.freshPoint (s.flowPoint ch)) s.now := by
        rw [holdLock, State.modChan_modChan]
        refine modChan_congr ?_
        simp only [Channel.edited, Bool.not_eq_true']
        rfl
      rw [base]
      exact only
    · rw [endEvent_alarm]
      exact enterEdit_stageExhausted (mode ▸ notEdit)
    · intro unarmed
      rw [endEvent_alarm, endEvent_alarm]
      obtain ⟨flow, uvt⟩ := enterEdit_conditions (mode.trans unarmed)
      refine ⟨flow, ?_⟩
      rw [uvt, decide_eq_true_eq, holdLock, State.modChan_chan_self]
  · intro held
    have handled : handleTakeEdit (stationOf r.src) (BitVec.ofNat 8 ch.1) lease s =
        (holdLock ch (stationOf r.src) (editLeaseRange.clamp lease.toNat) s,
          .done (editLeaseRange.outside lease.toNat) []) := by
      rw [handleTakeEdit, forChannel_ofNat]
      dsimp only
      rw [if_neg station, held]
      exact if_pos rfl
    refine congrArg Host.Outcome.next ((requestRow_handled r _ _ hs handled rest rfl).trans ?_)
    have kept : holdLock ch (stationOf r.src) (editLeaseRange.clamp lease.toNat) s =
        s.modChan ch fun c => { c with editLease := some (s.now + 1000 * clampNat lease.toNat 1 600) } := by
      refine modChan_congr ?_
      rw [stationOf_src, ← held]
      rfl
    rw [mark, kept]
    rfl

end Sys2Proof.Machine

namespace Sys2Proof.Machine
open Sys2Proof

set_option Elab.async false

/-! ### Updates of many banks or lamps -/

theorem forEach_append {α : Type} (l m : List α) (f : α → State → State) (s : State) :
    forEach (l ++ m) f s = forEach m f (forEach l f s) :=
  List.foldl_append

/-- One update of each bank of a list is the update of those banks at once. -/
theorem forEach_modBank (g : Bank → Bank) {l : List BankId} (h : l.Nodup) (s : State) :
    forEach l (fun b s => s.modBank b g) s =
      { s with banks := build fun b => if b ∈ l then g (s.bank b) else s.bank b } := by
  induction l generalizing s with
  | nil =>
    have same : (build fun b => s.bank b) = s.banks := vector_ext_get fun b => build_get _ b
    simp [same]
  | cons b l ih =>
    obtain ⟨hb, hl⟩ := List.nodup_cons.mp h
    rw [forEach_cons, ih hl]
    refine congrArg (fun v => { s with banks := v }) (congrArg build (funext fun c => ?_))
    rw [State.modBank_bank]
    by_cases e : c = b
    · subst e
      simp [hb]
    · simp [e]

theorem forEach_modLamp (g : Lamp → Lamp) {l : List LampId} (h : l.Nodup) (s : State) :
    forEach l (fun b s => s.modLamp b g) s =
      { s with lamps := build fun b => if b ∈ l then (s.lamp b).map g else s.lamp b } := by
  induction l generalizing s with
  | nil =>
    have same : (build fun b => s.lamp b) = s.lamps := vector_ext_get fun b => build_get _ b
    simp [same]
  | cons b l ih =>
    obtain ⟨hb, hl⟩ := List.nodup_cons.mp h
    rw [forEach_cons, ih hl]
    refine congrArg (fun v => { s with lamps := v }) (congrArg build (funext fun c => ?_))
    rw [State.modLamp_lamp]
    by_cases e : c = b
    · subst e
      simp [hb]
    · simp [e]

theorem State.ownedBanks_nodup (s : State) (ch : ChanId) : (s.ownedBanks ch).Nodup :=
  (List.nodup_finRange 12).filter _

theorem State.channelLamps_nodup (s : State) (ch : ChanId) : (s.channelLamps ch).Nodup :=
  (List.nodup_finRange 64).filter _

theorem State.mem_channelLamps (s : State) (ch : ChanId) (l : LampId) :
    l ∈ s.channelLamps ch ↔ ∃ x, s.lamp l = some x ∧ (s.bank x.bank).owner = some ch := by
  unfold State.channelLamps
  cases h : s.lamp l <;> simp [allLamps, h]

/-- One update of each bank that a channel owns. -/
theorem forEach_ownedBanks (g : Bank → Bank) (ch : ChanId) (s : State) :
    forEach (s.ownedBanks ch) (fun b s => s.modBank b g) s =
      { s with banks := build fun b => if (s.bank b).owner = some ch then g (s.bank b) else s.bank b } := by
  rw [forEach_modBank g (s.ownedBanks_nodup ch)]
  simp only [State.mem_ownedBanks]

/-- One update of each lamp whose bank a channel owns. -/
theorem forEach_channelLamps (g : Lamp → Lamp) (ch : ChanId) (s : State) :
    forEach (s.channelLamps ch) (fun l s => s.modLamp l g) s =
      { s with lamps := build fun l => (s.lamp l).map fun x => if (s.bank x.bank).owner = some ch then g x else x } := by
  rw [forEach_modLamp g (s.channelLamps_nodup ch)]
  refine congrArg (fun v => { s with lamps := v }) (congrArg build (funext fun l => ?_))
  simp only [State.mem_channelLamps]
  cases s.lamp l with
  | none => simp
  | some x => by_cases h : (s.bank x.bank).owner = some ch <;> simp [h]

/-! ### Conditions that cease (01, R23; 02, R36 to R38; 05, R96) -/

theorem State.alarmUnitOnly.bankWatched {s t : State} (h : s.alarmUnitOnly t) (b : BankId) :
    t.bankWatched b = s.bankWatched b := by
  obtain ⟨_, _, _, rfl⟩ := h
  rfl

/-- A bank that no channel watches holds neither of its conditions once it is judged. -/
theorem judgeBank_unwatched {s : State} {b : BankId} (h : s.bankWatched b = false) :
    ((judgeBank b s).alarm .bankFault b.1).cause = false ∧
      ((judgeBank b s).alarm .intensityStale b.1).cause = false := by
  have fault : (judgeBankFault b s).bankWatched b = false := ((judgeBankFault_alarmUnitOnly b s).bankWatched b).trans h
  constructor
  · rw [judgeBank, judgeIntensityStale, report_alarm_ne (alarmSlot_kind (by decide)), judgeBankFault, report_cause, h]
    rfl
  · rw [judgeBank, judgeIntensityStale, report_cause, fault]
    rfl

theorem judgeBank_alarm_other {s : State} {b c : BankId} (h : b ≠ c) :
    (judgeBank c s).alarm .bankFault b.1 = s.alarm .bankFault b.1 ∧
      (judgeBank c s).alarm .intensityStale b.1 = s.alarm .intensityStale b.1 := by
  have inst : b.1 ≠ c.1 := fun e => h (Fin.ext e)
  constructor
  · rw [judgeBank, judgeIntensityStale, report_alarm_ne (alarmSlot_kind (by decide)), judgeBankFault,
      report_alarm_ne (alarmSlot_inst b.isLt c.isLt inst)]
  · rw [judgeBank, judgeIntensityStale, report_alarm_ne (alarmSlot_inst b.isLt c.isLt inst), judgeBankFault,
      report_alarm_ne (alarmSlot_kind (by decide))]

theorem judgeBanks_unwatched {s : State} {b : BankId} {l : List BankId} (hb : b ∈ l) (h : s.bankWatched b = false) :
    ((forEach l judgeBank s).alarm .bankFault b.1).cause = false ∧
      ((forEach l judgeBank s).alarm .intensityStale b.1).cause = false := by
  obtain ⟨before, after, rfl⟩ := List.append_of_mem hb
  rw [forEach_append, forEach_cons]
  have watched : (forEach before judgeBank s).bankWatched b = false :=
    forEach_keeps (P := fun t => t.bankWatched b = false)
      (fun c _ t ht => ((judgeBank_alarmUnitOnly c t).bankWatched b).trans ht) h
  refine (forEach_keeps (P := fun t => t.bankWatched b = false ∧ (t.alarm .bankFault b.1).cause = false ∧
    (t.alarm .intensityStale b.1).cause = false) (fun c _ t ht => ?_)
    ⟨((judgeBank_alarmUnitOnly b _).bankWatched b).trans watched, judgeBank_unwatched watched⟩).2
  refine ⟨((judgeBank_alarmUnitOnly c t).bankWatched b).trans ht.1, ?_⟩
  by_cases e : b = c
  · exact e ▸ judgeBank_unwatched ht.1
  · rw [(judgeBank_alarm_other e).1, (judgeBank_alarm_other e).2]
    exact ht.2

/-! ### What entry to UNARMED and arming share (01, R23; 05, R82, R84) -/

/-- A channel with its counters, its marks and its fallback timer cleared. -/
def Channel.settled (c : Channel) : Channel :=
  { c with upCount := 0, downCount := 0, acct := { c.acct.clear with fallback := none } }

theorem settle_alarmUnitOnly (ch : ChanId) (s : State) :
    (s.modChan ch Channel.settled).alarmUnitOnly (stopFallback ch (clearAccounting ch (calmStaging ch s))) := by
  have calm := report_alarmUnitOnly .stageExhausted ch.1 false (zeroCounters ch s)
  have cleared := ((calm.modChan ch fun c => c.setAcct Accounting.clear).report .doseLow ch.1 false).report
    .outOfRange ch.1 false
  have stopped := cleared.modChan ch fun c => c.setAcct fun a => { a with fallback := none }
  rw [zeroCounters, State.modChan_modChan, State.modChan_modChan] at stopped
  exact stopped

theorem settle_notesSound {s : State} (h : s.notesSound) (ch : ChanId) :
    (stopFallback ch (clearAccounting ch (calmStaging ch s))).notesSound := by
  have calm : (calmStaging ch s).notesSound := (h.chan ch _).report ch.isLt false
  exact (((calm.chan ch _).report ch.isLt false).report ch.isLt false).chan ch _

/-- The conditions of staging and accounting have ceased. -/
theorem settle_conditions (ch : ChanId) (s : State) (k : AlarmKind)
    (hk : k = .outOfRange ∨ k = .doseLow ∨ k = .stageExhausted) :
    ((stopFallback ch (clearAccounting ch (calmStaging ch s))).alarm k ch.1).cause = false := by
  show ((clearAccounting ch (calmStaging ch s)).alarm k ch.1).cause = false
  unfold clearAccounting
  rcases hk with rfl | rfl | rfl
  · exact report_cause _ _ _ _
  · rw [report_alarm_ne (alarmSlot_kind (by decide))]
    exact report_cause _ _ _ _
  · rw [report_alarm_ne (alarmSlot_kind (by decide)), report_alarm_ne (alarmSlot_kind (by decide))]
    exact report_cause _ _ _ _

/-! ### Entry to UNARMED (05, R82) -/

/-- A bank at its channel's entry to UNARMED. -/
def Bank.unarmed (x : Bank) : Bank :=
  { x.abandon.stopWiper with warmTimer := none, wipeInterval := none }

theorem Bank.unarmed_owner (p : Prop) [Decidable p] (x : Bank) : (if p then x.unarmed else x).owner = x.owner := by
  split <;> rfl

/-- A lamp at its channel's entry to UNARMED. -/
def Lamp.unarmed (x : Lamp) : Lamp :=
  { x.ungoverned with cmd := none }

/-- Entry to UNARMED of a bank in figures (03, R44; 05, R82; 06, R113). -/
theorem Bank.unarmed_eq (x : Bank) : x.unarmed = { x with
    running := none
    stepTimer := none
    wipeDue := false
    warmTimer := none
    wipeInterval := none
    supervision := .idle
    wipeLimit := none
    wiperSlot := none
    tracker := if x.tracker.blank = true then { x.tracker with blank := false, sf := none, sn := none, warm := false }
      else x.tracker } := rfl

/-- Entry to UNARMED of a lamp in figures (07, R132). -/
theorem Lamp.unarmed_eq (x : Lamp) : x.unarmed = { x with
    state := if x.state = .striking ∨ x.state = .retryWait ∨ x.state = .longWait then .off else x.state
    strikeTimer := none
    waitTimer := none
    clearTimer := none
    cmd := none } := by
  unfold Lamp.unarmed Lamp.ungoverned
  cases x.state <;> rfl

/-- The channel, its banks and its lamps at entry to UNARMED, before its accounts are cleared and its conditions
judged. -/
def ungovernedState (ch : ChanId) (s : State) : State :=
  { s.modChan ch Channel.unarmed with
    banks := build fun b => if (s.bank b).owner = some ch then (s.bank b).unarmed else s.bank b
    lamps := build fun l => (s.lamp l).map fun x => if (s.bank x.bank).owner = some ch then x.unarmed else x }

/-- Entry to UNARMED is one update of the channel, its banks and its lamps, and then the clearing and the judgment. -/
theorem enterUnarmed_eq (ch : ChanId) (s : State) : enterUnarmed ch s =
    judgeChannel ch (stopFallback ch (clearAccounting ch (calmStaging ch (ungovernedState ch s)))) := by
  have banks : forEach ((s.modChan ch Channel.unarmed).ownedBanks ch) ungovernBank (s.modChan ch Channel.unarmed) =
      { s.modChan ch Channel.unarmed with
        banks := build fun b => if (s.bank b).owner = some ch then (s.bank b).unarmed else s.bank b } :=
    forEach_ownedBanks Bank.unarmed ch (s.modChan ch Channel.unarmed)
  have lamps := forEach_channelLamps Lamp.unarmed ch
    (forEach ((s.modChan ch Channel.unarmed).ownedBanks ch) ungovernBank (s.modChan ch Channel.unarmed))
  rw [banks] at lamps
  have owner := fun b => Bank.unarmed_owner ((s.bank b).owner = some ch) (s.bank b)
  simp only [State.bank, build_get] at lamps owner
  simp only [owner] at lamps
  unfold enterUnarmed
  dsimp only
  rw [banks]
  exact congrArg (fun t => judgeChannel ch (stopFallback ch (clearAccounting ch (calmStaging ch t)))) lamps

theorem enterUnarmed_alarmUnitOnly (ch : ChanId) (s : State) :
    ((ungovernedState ch s).modChan ch Channel.settled).alarmUnitOnly (enterUnarmed ch s) := by
  rw [enterUnarmed_eq]
  exact (settle_alarmUnitOnly ch _).judgeChannel ch

theorem enterUnarmed_notesSound {s : State} (h : s.notesSound) (ch : ChanId) : (enterUnarmed ch s).notesSound := by
  have ungoverned : (ungovernedState ch s).notesSound := h.of_eq rfl rfl
  rw [enterUnarmed_eq]
  exact (settle_notesSound ungoverned ch).moves (.judgeChannel .refl ch)

theorem enterUnarmed_mode (ch : ChanId) (s : State) : ((stopFallback ch (clearAccounting ch (calmStaging ch
    (ungovernedState ch s)))).chan ch).mode = .unarmed := by
  rw [(settle_alarmUnitOnly ch _).chan ch, State.modChan_chan_self]
  exact congrArg Channel.mode (State.modChan_chan_self s ch Channel.unarmed)

/-- A channel that has become UNARMED holds none of its conditions, and none of its banks' either. -/
theorem enterUnarmed_conditions (ch : ChanId) (s : State) :
    (∀ k, k = .flowStale ∨ k = .uvtStale ∨ k = .outOfRange ∨ k = .doseLow ∨ k = .stageExhausted →
      ((enterUnarmed ch s).alarm k ch.1).cause = false) ∧
    ∀ b, (s.bank b).owner = some ch → ((enterUnarmed ch s).alarm .bankFault b.1).cause = false ∧
      ((enterUnarmed ch s).alarm .intensityStale b.1).cause = false := by
  rw [enterUnarmed_eq]
  have unarmed := enterUnarmed_mode ch s
  have owner : ∀ b, ((stopFallback ch (clearAccounting ch (calmStaging ch (ungovernedState ch s)))).bank b).owner =
      (s.bank b).owner := by
    intro b
    rw [(settle_alarmUnitOnly ch _).bank b]
    simp only [ungovernedState, State.bank, State.modChan_banks, build_get]
    exact Bank.unarmed_owner _ _
  constructor
  · rintro k (rfl | rfl | hk)
    · rw [judgeChannel_flowStale, unarmed]
      rfl
    · rw [judgeChannel_uvtStale, unarmed]
      rfl
    · have ceased := settle_conditions ch (ungovernedState ch s) k hk
      rwa [judgeChannel_alarm ch _ (by rintro rfl; simp at hk) (by rintro rfl; simp at hk) (by rintro rfl; simp at hk)
        (by rintro rfl; simp at hk)]
  · intro b hb
    have watched := judgeFlowStale_alarmUnitOnly ch (stopFallback ch (clearAccounting ch (calmStaging ch
      (ungovernedState ch s)))) |>.trans (judgeUvtStale_alarmUnitOnly ch _)
    refine judgeBanks_unwatched ((State.mem_ownedBanks _ ch b).mpr ((owner b).trans hb)) ((watched.bankWatched b).trans ?_)
    simp only [State.bankWatched, owner b, hb, unarmed]
    rfl

/-- Settles O49. -/
theorem unarmLeavesTheLampsAlone : Obligations.UnarmLeavesTheLampsAlone := by
  intro r ch s hs armed
  have handled : handleUnarm (BitVec.ofNat 8 ch.1) s = (enterUnarmed ch s, .ok) := by
    rw [handleUnarm, forChannel_ofNat]
    exact if_pos armed
  have entered := enterUnarmed_alarmUnitOnly ch s
  obtain ⟨channel, banks⟩ := enterUnarmed_conditions ch s
  refine ⟨endEvent (enterUnarmed ch s), ?_, ?_, fun k hk => ?_, fun b hb => ?_⟩
  · have row := requestRow_event r (.setMode (BitVec.ofNat 8 ch.1) unarmByte 0 0 0) _ hs handled entered.address
    exact congrArg Host.Outcome.next row
  · have only := entered.onlyAlarms (hs.2.2.2.of_eq rfl rfl) (enterUnarmed_notesSound (.atRest hs.2.2.2) ch)
    have base : (ungovernedState ch s).modChan ch Channel.settled =
        { s.modChan ch (fun c => c.unarmed.settled) with
          banks := build fun b => if (s.bank b).owner = some ch then (s.bank b).unarmed else s.bank b
          lamps := build fun l => (s.lamp l).map fun x =>
            if (s.bank x.bank).owner = some ch then x.unarmed else x } := by
      rw [← State.modChan_modChan s ch Channel.unarmed Channel.settled]
      rfl
    rw [base] at only
    simp only [Bank.unarmed_eq, Lamp.unarmed_eq] at only
    exact only
  · rw [endEvent_alarm]
    exact channel k hk
  · rw [endEvent_alarm, endEvent_alarm]
    exact banks b hb

end Sys2Proof.Machine

namespace Sys2Proof.Machine
open Sys2Proof

set_option Elab.async false

/-! ### Lists of banks in ascending number -/

theorem State.ownedBanks_sorted (s : State) (ch : ChanId) : (s.ownedBanks ch).Pairwise (· < ·) :=
  (List.pairwise_lt_finRange 12).filter _

/-- The step of `State.firstPlaced`. -/
def State.placeFirst (s : State) (best : Option BankId) (b : BankId) : Option BankId :=
  match best with
  | some a => if (s.bank b).get .position < (s.bank a).get .position then some b else some a
  | none => some b

/-- In an ascending list the choice of `State.firstPlaced` stands before every other bank (05, R91; log 29). -/
theorem State.foldl_placeFirst (s : State) {l : List BankId} {a : BankId} (h : (a :: l).Pairwise (· < ·)) :
    ∃ b ∈ a :: l, l.foldl s.placeFirst (some a) = some b ∧ ∀ c ∈ a :: l, c ≠ b → s.before b c := by
  induction l generalizing a with
  | nil => exact ⟨a, by simp, rfl, by simp⟩
  | cons x l ih =>
    obtain ⟨ha, hx, hl⟩ : (∀ y ∈ x :: l, a < y) ∧ (∀ y ∈ l, x < y) ∧ l.Pairwise (· < ·) := by
      simpa [List.pairwise_cons, and_assoc] using h
    have step : (x :: l).foldl s.placeFirst (some a) = l.foldl s.placeFirst
        (some (if (s.bank x).get .position < (s.bank a).get .position then x else a)) := by
      simp only [List.foldl_cons, State.placeFirst]
      split <;> rfl
    rw [step]
    split
    · next lt =>
      obtain ⟨b, hb, e, first⟩ := ih (a := x) (List.pairwise_cons.mpr ⟨hx, hl⟩)
      refine ⟨b, List.mem_cons_of_mem a hb, e, fun c hc hne => ?_⟩
      rcases List.mem_cons.mp hc with rfl | hc
      · left
        by_cases bx : x = b
        · exact bx ▸ lt
        · rcases first x (by simp) bx with h | h <;> omega
      · exact first c hc hne
    · next le =>
      obtain ⟨b, hb, e, first⟩ := ih (a := a) (List.pairwise_cons.mpr ⟨fun y hy => ha y (by simp [hy]), hl⟩)
      refine ⟨b, ?_, e, fun c hc hne => ?_⟩
      · rcases List.mem_cons.mp hb with rfl | hb <;> simp [*]
      · rcases List.mem_cons.mp hc with rfl | hc
        · exact first c (by simp) hne
        · rcases List.mem_cons.mp hc with rfl | hc
          · have ax := ha c (by simp)
            by_cases ab : a = b
            · subst ab
              exact (Nat.lt_or_eq_of_le (Nat.le_of_not_lt le)).imp id fun e => ⟨e, ax⟩
            · rcases first a (by simp) ab with h | ⟨h, hba⟩
              · left
                omega
              · exact (Nat.lt_or_eq_of_le (h.trans_le (Nat.le_of_not_lt le))).imp id fun e => ⟨e, hba.trans ax⟩
          · exact first c (by simp [hc]) hne

theorem State.firstPlaced_none {s : State} {l : List BankId} (hl : l.Pairwise (· < ·)) (h : s.firstPlaced l = none) :
    l = [] := by
  cases l with
  | nil => rfl
  | cons a l =>
    obtain ⟨b, _, e, _⟩ := s.foldl_placeFirst hl
    have : s.firstPlaced (a :: l) = some b := e
    rw [h] at this
    cases this

theorem State.firstPlaced_some {s : State} {l : List BankId} (hl : l.Pairwise (· < ·)) {b : BankId}
    (h : s.firstPlaced l = some b) : b ∈ l ∧ ∀ c ∈ l, c ≠ b → s.before b c := by
  cases l with
  | nil => cases h
  | cons a l =>
    obtain ⟨c, hc, e, first⟩ := s.foldl_placeFirst hl
    obtain rfl : c = b := Option.some.inj (e.symm.trans h)
    exact ⟨hc, first⟩

/-! ### Validation (09, R160) -/

theorem failWhen_none {fails : Bool} {c : Check} (h : ¬ fails = true) : failWhen fails c = none := by
  simp [failWhen, h]

/-- A bank check that passes no bad bank fails at none when there is no first bad bank. -/
theorem State.failBank_none {s : State} {ch : ChanId} {c : Check} {fails : BankId → Bool} {bad : BankId → Prop}
    (hb : ∀ b, fails b = true → bad b) (h : ∀ b, ¬ s.firstOwned ch bad b) : s.failBank ch c fails = none := by
  unfold State.failBank
  rw [Option.map_eq_none_iff, List.find?_eq_none]
  intro b hm hf
  obtain ⟨a, ⟨ho, hbad⟩, least⟩ := WellFounded.has_min (wellFounded_lt (α := BankId))
    {a | (s.bank a).owner = some ch ∧ bad a} ⟨b, (s.mem_ownedBanks ch b).mp hm, hb b hf⟩
  exact h a ⟨ho, hbad, fun d hd hod hbd => least d ⟨hod, hbd⟩ hd⟩

/-- A list that holds one element, once, has length 1. -/
theorem length_one_of_nodup {α : Type} {l : List α} {a : α} (hl : l.Nodup) (ha : a ∈ l) (h : ∀ x ∈ l, x = a) :
    l.length = 1 := by
  have replicate := List.eq_replicate_of_mem h
  have le : l.length ≤ 1 := List.nodup_replicate.mp (replicate ▸ hl)
  have pos := List.length_pos_of_mem ha
  omega

/-- The channel's banks below `b` at its position, which `State.secondPlaced` counts. -/
theorem State.mem_lowerPlaced (s : State) (ch : ChanId) (b c : BankId) :
    c ∈ (s.ownedBanks ch).filter (fun a => a < b && (s.bank a).get .position = (s.bank b).get .position) ↔
      (s.bank c).owner = some ch ∧ c < b ∧ (s.bank c).get .position = (s.bank b).get .position := by
  rw [List.mem_filter, State.mem_ownedBanks, Bool.and_eq_true, decide_eq_true_eq, decide_eq_true_eq]

/-- Where two banks of the channel stand in one position, some bank is the second there. -/
theorem State.secondPlaced_exists {s : State} {ch : ChanId} {c d : BankId} (hcd : c < d)
    (hc : (s.bank c).owner = some ch) (hd : (s.bank d).owner = some ch)
    (hp : (s.bank c).get .position = (s.bank d).get .position) :
    ∃ b, (s.bank b).owner = some ch ∧ s.secondPlaced ch b = true ∧
      (s.bank b).get .position = (s.bank d).get .position := by
  induction d using WellFoundedLT.induction generalizing c with
  | ind d ih =>
    by_cases unique : ∀ e, e < d → (s.bank e).owner = some ch →
        (s.bank e).get .position = (s.bank d).get .position → e = c
    · refine ⟨d, hd, decide_eq_true (length_one_of_nodup (a := c) ((s.ownedBanks_nodup ch).filter _) ?_ ?_), rfl⟩
      · exact (s.mem_lowerPlaced ch d c).mpr ⟨hc, hcd, hp⟩
      · intro e he
        obtain ⟨ho, hed, hep⟩ := (s.mem_lowerPlaced ch d e).mp he
        exact unique e hed ho hep
    · push Not at unique
      obtain ⟨e, hed, heo, hep, hec⟩ := unique
      rcases lt_or_gt_of_ne hec with lt | gt
      · obtain ⟨b, hb, hs, he⟩ := ih c hcd lt heo hc (hep.trans hp.symm)
        exact ⟨b, hb, hs, he.trans hp⟩
      · obtain ⟨b, hb, hs, he⟩ := ih e hed gt hc heo (hp.trans hep.symm)
        exact ⟨b, hb, hs, he.trans hep⟩

theorem State.secondPlaced_unique {s : State} {ch : ChanId} {b : BankId} (h : s.secondPlaced ch b = true) :
    ∃ a, a < b ∧ (s.bank a).owner = some ch ∧ (s.bank a).get .position = (s.bank b).get .position ∧
      ∀ c, c < b → (s.bank c).owner = some ch → (s.bank c).get .position = (s.bank b).get .position → c = a := by
  obtain ⟨a, ha⟩ := List.length_eq_one_iff.mp (of_decide_eq_true h)
  have mem : ∀ c, c = a ↔ (s.bank c).owner = some ch ∧ c < b ∧
      (s.bank c).get .position = (s.bank b).get .position := by
    intro c
    rw [← List.mem_singleton, ← ha, State.mem_lowerPlaced]
  obtain ⟨ho, hlt, hpos⟩ := (mem a).mp rfl
  exact ⟨a, hlt, ho, hpos, fun c hc ho hp => (mem c).mpr ⟨ho, hc, hp⟩⟩

theorem State.clash_none {s : State} {ch : ChanId} (h : ∀ b, ¬ s.clashesAt ch b) : s.clash ch = none := by
  unfold State.clash
  rw [Option.map_eq_none_iff]
  by_contra found
  obtain ⟨b, hf⟩ := Option.ne_none_iff_exists'.mp found
  obtain ⟨hm, first⟩ := State.firstPlaced_some ((s.ownedBanks_sorted ch).filter _) hf
  obtain ⟨ho, hsecond⟩ := List.mem_filter.mp hm
  refine h b ⟨(s.mem_ownedBanks ch b).mp ho, State.secondPlaced_unique hsecond, fun c d hcd hc hd hp => ?_⟩
  obtain ⟨e, heo, hes, hep⟩ := State.secondPlaced_exists hcd hc hd hp
  by_cases eb : e = b
  · rw [hp, ← hep, eb]
  · rcases first e (List.mem_filter.mpr ⟨(s.mem_ownedBanks ch e).mpr heo, hes⟩) eb with lt | ⟨eq, _⟩ <;> omega

/-! ### The shape of programs (06, R106) -/

/-- The run part of a list is the part before its first last element, and that element. -/
theorem takeWhile_append_take {α : Type} (q : α → Bool) (l : List α) : ∃ k,
    l.takeWhile q ++ (l.dropWhile q).take 1 = l.take k ∧
      ∀ (i : Nat) (hi : i < l.length), i < k ↔ ∀ (j : Nat) (hj : j < i), q (l[j]'(hj.trans hi)) = true := by
  induction l with
  | nil => exact ⟨0, rfl, fun i hi => absurd hi (Nat.not_lt_zero i)⟩
  | cons x l ih =>
    obtain ⟨k, take, run⟩ := ih
    by_cases hx : q x = true
    · refine ⟨k + 1, by simp [hx, take], fun i hi => ?_⟩
      cases i with
      | zero => simp
      | succ i =>
        rw [Nat.add_lt_add_iff_right, run i (Nat.lt_of_succ_lt_succ hi)]
        constructor
        · intro h j hj
          cases j with
          | zero => exact hx
          | succ j => exact h j (Nat.lt_of_succ_lt_succ hj)
        · exact fun h j hj => h (j + 1) (Nat.succ_lt_succ hj)
    · refine ⟨1, by simp [hx], fun i hi => ?_⟩
      cases i with
      | zero => simp
      | succ i =>
        refine ⟨fun h => absurd h (by omega), fun h => absurd (h 0 (Nat.succ_pos i)) hx⟩

/-- The steps that a program runs are its first ones, as `runsStep` says. -/
theorem runSteps_eq (p : Vector Step 8) : ∃ k, runSteps p = ((List.finRange 8).map fun i => p.get i).take k ∧
    ∀ i : Fin 8, i.1 < k ↔ runsStep p i := by
  obtain ⟨k, take, run⟩ := takeWhile_append_take (fun x : Step => !x.last) ((List.finRange 8).map fun i => p.get i)
  refine ⟨k, take, fun i => ?_⟩
  rw [run i.1 (by simp)]
  simp only [List.getElem_map, List.getElem_finRange, runsStep, Bool.not_eq_true']
  exact ⟨fun h j hj => h j.1 hj, fun h j hj => h ⟨j, hj.trans i.isLt⟩ hj⟩

theorem mem_runSteps {p : Vector Step 8} {x : Step} : x ∈ runSteps p ↔ ∃ i, runsStep p i ∧ p.get i = x := by
  obtain ⟨k, take, run⟩ := runSteps_eq p
  rw [take, List.mem_take_iff_getElem]
  simp only [List.getElem_map, List.getElem_finRange, List.length_map, List.length_finRange]
  constructor
  · rintro ⟨i, hi, e⟩
    exact ⟨⟨i, (lt_min_iff.mp hi).2⟩, (run _).mp (lt_min_iff.mp hi).1, e⟩
  · rintro ⟨i, hi, e⟩
    exact ⟨i.1, lt_min ((run i).mpr hi) i.isLt, e⟩

/-- The step of `finalSet`. -/
def lastSet (r : Option Byte) (x : Step) : Option Byte :=
  match x.set with
  | some m => some m
  | none => r

theorem foldl_lastSet_none {l : List Step} (h : ∀ x ∈ l, x.set = none) (r : Option Byte) : l.foldl lastSet r = r := by
  induction l with
  | nil => rfl
  | cons x l ih =>
    rw [List.foldl_cons, lastSet, h x (by simp)]
    exact ih fun y hy => h y (by simp [hy])

/-- The final set of a program that ends with a set is that set. -/
theorem finalSet_of_endsWithSet {p : Vector Step 8} {m : Byte} (h : endsWithSet p m) : finalSet p = some m := by
  obtain ⟨i, hi, hset, hlater⟩ := h
  obtain ⟨k, take, run⟩ := runSteps_eq p
  have length : i.1 < (runSteps p).length := by
    rw [take]
    simpa using (run i).mpr hi
  have get : ∀ (j : Nat) (hj : j < (runSteps p).length), ∃ n : Fin 8, n.1 = j ∧ runsStep p n ∧
      (runSteps p)[j] = p.get n := by
    intro j hj
    simp only [take, List.length_take, List.length_map, List.length_finRange, lt_min_iff] at hj
    exact ⟨⟨j, hj.2⟩, rfl, (run _).mp hj.1, by simp [take]⟩
  have parts : runSteps p = (runSteps p).take i.1 ++ (runSteps p)[i.1] :: (runSteps p).drop (i.1 + 1) := by
    rw [← List.drop_eq_getElem_cons length, List.take_append_drop]
  obtain ⟨n, hn, _, e⟩ := get i.1 length
  obtain rfl : i = n := (Fin.ext hn).symm
  have last : (runSteps p).foldl lastSet none = some m := by
    rw [parts, List.foldl_append, List.foldl_cons, e, lastSet, hset]
    refine foldl_lastSet_none (fun x hx => ?_) _
    obtain ⟨j, hj, rfl⟩ := List.mem_drop_iff_getElem.mp hx
    obtain ⟨q, hq, hrun, e⟩ := get (i.1 + 1 + j) (by omega)
    rw [e]
    exact hlater q (Fin.lt_def.mpr (by omega)) hrun
  exact last

/-- The mask of a list has the bits that the list names (11, R183). -/
theorem maskOf_getLsbD (l : List Nat) {n : Nat} (hn : n < 8) : (maskOf l).getLsbD n = true ↔ n ∈ l := by
  have fold : ∀ (r : List Nat) (m : Byte), (r.foldl (fun m i => if l.contains i then m ||| BitVec.twoPow 8 i else m)
      m).getLsbD n = true ↔ m.getLsbD n = true ∨ (n ∈ r ∧ n ∈ l) := by
    intro r
    induction r with
    | nil => simp
    | cons x r ih =>
      intro m
      rw [List.foldl_cons, ih]
      by_cases hx : x ∈ l
      · by_cases e : x = n
        · subst e
          simp [hx, hn]
        · simp [hx, e, Ne.symm e]
      · have e : x ∈ l → x = n → False := fun h _ => hx h
        simp only [List.contains_iff_mem, hx, if_false, List.mem_cons]
        constructor
        · rintro (h | ⟨h, h'⟩)
          · exact Or.inl h
          · exact Or.inr ⟨Or.inr h, h'⟩
        · rintro (h | ⟨rfl | h, h'⟩)
          · exact Or.inl h
          · exact absurd h' hx
          · exact Or.inr ⟨h, h'⟩
  rw [maskOf, fold]
  simp [hn]

theorem State.mem_installed (s : State) (b : BankId) (l : LampId) :
    l ∈ s.installed b ↔ ∃ x, s.lamp l = some x ∧ x.bank = b := by
  unfold State.installed
  cases h : s.lamp l <;> simp [allLamps, h]

theorem State.mem_installedSlots (s : State) (b : BankId) {n : Nat} (hn : n < 8) :
    (s.installedSlots b).getLsbD n = true ↔ ∃ l x, s.lamp l = some x ∧ x.bank = b ∧ x.slot = n := by
  rw [State.installedSlots, maskOf_getLsbD _ hn, List.mem_filterMap]
  constructor
  · rintro ⟨l, hl, e⟩
    obtain ⟨x, hx, hb⟩ := (s.mem_installed b l).mp hl
    rw [hx] at e
    exact ⟨l, x, hx, hb, Option.some.inj e⟩
  · rintro ⟨l, x, hx, hb, rfl⟩
    exact ⟨l, (s.mem_installed b l).mpr ⟨x, hx, hb⟩, by rw [hx]; rfl⟩

/-- Programs whose shape is good pass the check (06, R106). -/
theorem State.shapeGood.goodShape {s : State} {b : BankId} (h : s.shapeGood b) : s.goodShape b = true := by
  obtain ⟨⟨m, strike, slots⟩, quench, wipe, wiper⟩ := h
  have mask : m = s.installedSlots b := by
    refine BitVec.eq_of_getLsbD_eq fun n hn => Bool.eq_iff_iff.mpr ?_
    rw [slots n hn, State.mem_installedSlots s b hn]
  have noSet : (runSteps (s.bank b).wipe).all (fun t => t.set.isNone) = true := by
    rw [List.all_eq_true]
    intro x hx
    obtain ⟨i, hi, rfl⟩ := mem_runSteps.mp hx
    rw [wipe i hi]
    rfl
  have starts : (s.bank b).wiperStation.isSome = (runSteps (s.bank b).wipe).any fun t => t.wiper := by
    rw [Bool.eq_iff_iff, Option.isSome_iff_ne_none, wiper, List.any_eq_true]
    constructor
    · exact fun ⟨i, hi, hw⟩ => ⟨_, mem_runSteps.mpr ⟨i, hi, rfl⟩, hw⟩
    · rintro ⟨x, hx, hw⟩
      obtain ⟨i, hi, rfl⟩ := mem_runSteps.mp hx
      exact ⟨i, hi, hw⟩
  simp only [State.goodShape, finalSet_of_endsWithSet strike, finalSet_of_endsWithSet quench, mask, noSet, starts,
    decide_true, Bool.and_self, beq_self_eq_true]

theorem curveRises.curveOrdered {c : Vector CurvePoint 8} (h : curveRises c) : curveOrdered c = true := by
  unfold Machine.curveOrdered curveAt
  rw [List.all_eq_true]
  intro i _
  rw [Bool.and_eq_true, decide_eq_true_eq, decide_eq_true_eq]
  exact h i

/-- A profile that none of the ten checks fails is valid (09, R160). -/
theorem State.validate_none {s : State} {ch : ChanId} (h : ∀ k n, ¬ s.checkFails ch k n) : s.validate ch = none := by
  have flow : failWhen (s.flowPoint ch).isNone .flowPointMissing = none :=
    failWhen_none fun e => h 1 255 (Or.inl ⟨rfl, rfl, Option.isNone_iff_eq_none.mp e⟩)
  have uvt : failWhen (s.uvtPoint ch).isNone .uvtPointMissing = none :=
    failWhen_none fun e => h 2 255 (Or.inr (Or.inl ⟨rfl, rfl, Option.isNone_iff_eq_none.mp e⟩))
  have banks : failWhen (s.ownedBanks ch).isEmpty .noBanks = none := by
    refine failWhen_none fun e => h 3 255 (Or.inr (Or.inr (Or.inl ⟨rfl, rfl, fun b hb => ?_⟩)))
    have mem := (s.mem_ownedBanks ch b).mpr hb
    rw [List.isEmpty_iff.mp e] at mem
    cases mem
  have clash : s.clash ch = none :=
    State.clash_none fun b hb => h 4 b.1 (Or.inr (Or.inr (Or.inr (Or.inl ⟨rfl, b, rfl, hb⟩))))
  have incomplete : s.failBank ch .bankIncomplete s.incomplete = none := by
    refine State.failBank_none (bad := s.lacking) (fun b => ?_)
      fun b hb => h 5 b.1 (Or.inr (Or.inr (Or.inr (Or.inr (Or.inl ⟨rfl, b, rfl, hb⟩)))))
    simp [State.incomplete, State.lacking, or_assoc]
  have wiper : s.failBank ch .wiperPointMissing
      (fun b => (s.bank b).wiperStation.isSome && (s.wiperPoint b).isNone) = none := by
    refine State.failBank_none (bad := fun a => (s.bank a).wiperStation ≠ none ∧ s.wiperPoint a = none) (fun b => ?_)
      fun b hb => h 6 b.1 (Or.inr (Or.inr (Or.inr (Or.inr (Or.inr (Or.inl ⟨rfl, b, rfl, hb⟩))))))
    simp [Option.isSome_iff_ne_none]
  have order : failWhen (!curveOrdered (s.chan ch).uvtCurve || !curveOrdered (s.chan ch).ballastCurve) .curveOrder =
      none := by
    have rises := not_not.mp fun e => h 7 255 (Or.inr (Or.inr (Or.inr (Or.inr (Or.inr (Or.inr (Or.inl ⟨rfl, rfl, e⟩)))))))
    exact failWhen_none (by simp [curveRises.curveOrdered rises.1, curveRises.curveOrdered rises.2])
  have span : failWhen (!curveSpans (s.chan ch).ballastCurve ((s.chan ch).get .pmin)) .curveSpan = none := by
    refine failWhen_none fun e => h 8 255
      (Or.inr (Or.inr (Or.inr (Or.inr (Or.inr (Or.inr (Or.inr (Or.inl ⟨rfl, rfl, ?_⟩))))))))
    simp only [curveSpans, curveAt, Bool.not_eq_true', Bool.and_eq_false_iff] at e
    exact e.imp (fun e => not_le.mp (of_decide_eq_false e)) of_decide_eq_false
  have shape : s.failBank ch .programShape (fun b => !s.goodShape b) = none := by
    refine State.failBank_none (bad := fun a => ¬ s.shapeGood a) (fun b hb good => ?_)
      fun b hb => h 9 b.1
        (Or.inr (Or.inr (Or.inr (Or.inr (Or.inr (Or.inr (Or.inr (Or.inr (Or.inl ⟨rfl, b, rfl, hb⟩)))))))))
    rw [good.goodShape] at hb
    cases hb
  have limits : failWhen (s.limitsFail ch) .limits = none := by
    refine failWhen_none fun e => h 10 255
      (Or.inr (Or.inr (Or.inr (Or.inr (Or.inr (Or.inr (Or.inr (Or.inr (Or.inr ⟨rfl, rfl, ?_⟩)))))))))
    simp only [State.limitsFail, State.bankCount, Bool.or_eq_true, decide_eq_true_eq, or_assoc] at e
    exact e.imp id (Or.imp id of_decide_eq_true)
  simp only [State.validate, flow, uvt, banks, clash, incomplete, wiper, order, span, shape, limits,
    List.findSome?_cons, List.findSome?_nil, id]

end Sys2Proof.Machine

namespace Sys2Proof.Machine
open Sys2Proof

set_option Elab.async false

/-! ### Arming (05, R84) -/

theorem State.alarmUnitOnly.modBank {s t : State} (h : s.alarmUnitOnly t) (b : BankId) (f : Bank → Bank) :
    (s.modBank b f).alarmUnitOnly (t.modBank b f) := by
  obtain ⟨a, l, d, rfl⟩ := h
  exact ⟨a, l, d, rfl⟩

theorem State.alarmUnitOnly.modLamp {s t : State} (h : s.alarmUnitOnly t) (l : LampId) (f : Lamp → Lamp) :
    (s.modLamp l f).alarmUnitOnly (t.modLamp l f) := by
  obtain ⟨a, m, d, rfl⟩ := h
  exact ⟨a, m, d, rfl⟩

/-- Two repetitions that differ by the alarm unit at each turn differ by it in the end. -/
theorem forEach_alarmUnitOnly {α : Type} {f g : α → State → State}
    (turn : ∀ x {s t : State}, s.alarmUnitOnly t → (f x s).alarmUnitOnly (g x t)) (l : List α) {s t : State}
    (h : s.alarmUnitOnly t) : (forEach l f s).alarmUnitOnly (forEach l g t) := by
  induction l generalizing s t with
  | nil => exact h
  | cons x l ih => exact ih (turn x h)

theorem modBank_congr {s : State} {b : BankId} {f g : Bank → Bank} (h : f (s.bank b) = g (s.bank b)) :
    s.modBank b f = s.modBank b g := by
  simp only [State.modBank, h]

/-- A bank takes a state (05, Table 5-2; 03, R54). -/
def Bank.entered (st : BankState) (x : Bank) : Bank :=
  if x.state = st then x
  else { x with
    state := st
    tracker := x.tracker.onState x.state st
    wipeInterval := if x.state = .run then none else x.wipeInterval
    wipeDue := if x.state = .run then false else x.wipeDue }

theorem setBankState_alarmUnitOnly (b : BankId) (st : BankState) (s : State) :
    (s.modBank b (Bank.entered st)).alarmUnitOnly (setBankState b st s) := by
  unfold setBankState
  dsimp only
  split
  · next h =>
    have same : s.modBank b (Bank.entered st) = s := by
      rw [show s.modBank b (Bank.entered st) = s.modBank b fun x => x from modBank_congr (if_pos h), State.modBank_id]
    rw [same]
    exact .refl s
  · next h =>
    have entered : s.modBank b (Bank.entered st) = s.modBank b fun x => { x with
        state := st
        tracker := x.tracker.onState (s.bank b).state st
        wipeInterval := if (s.bank b).state = .run then none else x.wipeInterval
        wipeDue := if (s.bank b).state = .run then false else x.wipeDue } := modBank_congr (if_neg h)
    rw [entered]
    refine State.alarmUnitOnly.trans ?_ (judgeBank_alarmUnitOnly b _)
    split
    · exact (judgeSag_alarmUnitOnly b _).trans (report_alarmUnitOnly _ _ _ _)
    · exact .refl _

/-- A bank at its channel's arming (05, R84; 03, R58). -/
def Bank.armed (x : Bank) : Bank :=
  if x.state = .locked then { x with tracker := Tracker.reset }
  else { x with
    state := .dark
    tracker := Tracker.reset
    running := none
    stepTimer := none
    wipeDue := false
    supervision := .idle
    wipeLimit := none
    wiperSlot := none
    warmTimer := none
    faultTimer := none
    wipeInterval := none }

theorem armBank_alarmUnitOnly (b : BankId) (s : State) :
    (s.modBank b Bank.armed).alarmUnitOnly (resetTracker b (darkenBank b s)) := by
  unfold resetTracker darkenBank
  split
  · next h =>
    have kept : s.modBank b Bank.armed = s.modBank b fun x => { x with tracker := Tracker.reset } :=
      modBank_congr (if_pos h)
    rw [kept]
    exact .refl _
  · next h =>
    have dark := ((setBankState_alarmUnitOnly b .dark s).modBank b fun x =>
      { x.abandon.stopWiper with warmTimer := none, faultTimer := none, wipeInterval := none }).modBank b fun x =>
      { x with tracker := Tracker.reset }
    have armed : s.modBank b Bank.armed = ((s.modBank b (Bank.entered .dark)).modBank b fun x =>
        { x.abandon.stopWiper with warmTimer := none, faultTimer := none, wipeInterval := none }).modBank b fun x =>
        { x with tracker := Tracker.reset } := by
      rw [State.modBank_modBank, State.modBank_modBank]
      refine modBank_congr ?_
      unfold Bank.armed Bank.entered
      rw [if_neg h]
      split
      · next e => simp [Bank.abandon, Bank.stopWiper, e]
      · rfl
    rw [armed]
    exact dark

theorem Bank.armed_owner (p : Prop) [Decidable p] (x : Bank) : (if p then x.armed else x).owner = x.owner := by
  unfold Bank.armed
  split
  · split <;> rfl
  · rfl

theorem State.alarmUnitOnly.channelLamps {s t : State} (h : s.alarmUnitOnly t) (ch : ChanId) :
    t.channelLamps ch = s.channelLamps ch := by
  obtain ⟨_, _, _, rfl⟩ := h
  rfl

/-- The banks and lamps of a channel that arms, `t` being the state with its own items taken. -/
def armedMachines (ch : ChanId) (t : State) : State :=
  let u := forEach (t.ownedBanks ch) (fun b s => resetTracker b (darkenBank b s)) t
  forEach (u.channelLamps ch) (fun l s => s.modLamp l Lamp.armed) u

/-- The banks of a channel that arms. -/
def armedBanks (ch : ChanId) (t : State) : State :=
  { t with banks := build fun b => if (t.bank b).owner = some ch then (t.bank b).armed else t.bank b }

theorem armedBanks_owner (ch : ChanId) (t : State) (b : BankId) : ((armedBanks ch t).bank b).owner = (t.bank b).owner := by
  simp only [armedBanks, State.bank, build_get]
  exact Bank.armed_owner _ _

theorem armedBanks_alarmUnitOnly (ch : ChanId) (t : State) : (armedBanks ch t).alarmUnitOnly
    (forEach (t.ownedBanks ch) (fun b s => resetTracker b (darkenBank b s)) t) := by
  have turn : ∀ b {s u : State}, s.alarmUnitOnly u →
      (s.modBank b Bank.armed).alarmUnitOnly (resetTracker b (darkenBank b u)) :=
    fun b _ u h => (h.modBank b Bank.armed).trans (armBank_alarmUnitOnly b u)
  have banks := forEach_alarmUnitOnly turn (t.ownedBanks ch) (State.alarmUnitOnly.refl t)
  rw [forEach_ownedBanks] at banks
  exact banks

theorem armedMachines_alarmUnitOnly (ch : ChanId) (t : State) : State.alarmUnitOnly
    { armedBanks ch t with
      lamps := build fun l => (t.lamp l).map fun x => if (t.bank x.bank).owner = some ch then x.armed else x }
    (armedMachines ch t) := by
  have banks := armedBanks_alarmUnitOnly ch t
  have turn : ∀ l {s u : State}, s.alarmUnitOnly u → (s.modLamp l Lamp.armed).alarmUnitOnly (u.modLamp l Lamp.armed) :=
    fun l _ _ h => h.modLamp l Lamp.armed
  have lamps := forEach_alarmUnitOnly turn ((armedBanks ch t).channelLamps ch) banks
  rw [forEach_channelLamps, ← banks.channelLamps ch] at lamps
  simp only [armedBanks_owner] at lamps
  exact lamps

theorem arm_eq (ch : ChanId) (m : Mode) (s : State) : arm ch m s = judgeChannel ch (fallbackIfStale ch (stopFallback ch
    (clearAccounting ch (calmStaging ch (armedMachines ch (s.modChan ch fun c =>
      c.armed m (s.timer adoptionPeriod))))))) := rfl

theorem armedMachines_notesSound {t : State} (h : t.notesSound) (ch : ChanId) : (armedMachines ch t).notesSound := by
  have banks : (forEach (t.ownedBanks ch) (fun b s => resetTracker b (darkenBank b s)) t).notesSound :=
    forEach_keeps (P := State.notesSound) (fun b _ u hu => (hu.moves (.darkenBank .refl b)).bank b _) h
  exact forEach_keeps (P := State.notesSound) (fun l _ u hu => hu.lamp l _) banks

/-- A channel's own items at arming, `fresh` saying whether its flow point is FRESH (01, R4, R23; 04, R74; 05, R84). -/
def Channel.armedAt (c : Channel) (m : Mode) (fresh : Bool) (now : Nat) : Channel :=
  { (c.armed m (some (now + adoptionPeriod))).settled with
    acct := { c.acct.clear with fallback := if fresh = true then none else some (now + c.get .passFallback) } }

/-- The state at arming but for what the alarm unit has taken (01, R4, R23; 03, R58; 04, R74; 05, R84; 07, R133). -/
def armedState (ch : ChanId) (m : Mode) (s : State) : State :=
  { armedBanks ch (s.modChan ch fun c => c.armedAt m (s.freshPoint (s.flowPoint ch)) s.now) with
    lamps := build fun l => (s.lamp l).map fun x => if (s.bank x.bank).owner = some ch then x.armed else x }

theorem arm_alarmUnitOnly (ch : ChanId) (m : Mode) (s : State) :
    (armedState ch m s).alarmUnitOnly (arm ch m s) := by
  have machines := armedMachines_alarmUnitOnly ch (s.modChan ch fun c => c.armed m (s.timer adoptionPeriod))
  have settled := ((machines.modChan ch Channel.settled).trans (settle_alarmUnitOnly ch _)).fallbackIfStale ch
  have armed := settled.judgeChannel ch
  rw [fallbackIfStale_eq, State.modChan_modChan] at armed
  have base : armedState ch m s = State.modChan
      { armedBanks ch (s.modChan ch fun c => c.armed m (s.timer adoptionPeriod)) with
        lamps := build fun l => (s.lamp l).map fun x => if (s.bank x.bank).owner = some ch then x.armed else x } ch
      fun c => (c.settled).setAcct fun a =>
        { a with fallback :=
          if s.freshPoint (s.flowPoint ch) = false then some (s.now + c.settled.get .passFallback) else a.fallback } := by
    unfold armedState
    have twice := State.modChan_modChan s ch (fun c => c.armed m (s.timer adoptionPeriod))
      fun c => (c.settled).setAcct fun a =>
        { a with fallback :=
          if s.freshPoint (s.flowPoint ch) = false then some (s.now + c.settled.get .passFallback) else a.fallback }
    have one : (s.modChan ch fun c => c.armedAt m (s.freshPoint (s.flowPoint ch)) s.now) = _ :=
      (modChan_congr ?_).trans twice.symm
    · rw [one]
      rfl
    · unfold Channel.armedAt
      cases h : s.freshPoint (s.flowPoint ch) <;> rfl
  rw [base, arm_eq]
  exact armed

theorem arm_notesSound {s : State} (h : s.notesSound) (ch : ChanId) (m : Mode) : (arm ch m s).notesSound := by
  have settled := settle_notesSound (armedMachines_notesSound (h.chan ch fun c => c.armed m (s.timer adoptionPeriod)) ch) ch
  have fallback : (fallbackIfStale ch (stopFallback ch (clearAccounting ch (calmStaging ch (armedMachines ch
      (s.modChan ch fun c => c.armed m (s.timer adoptionPeriod))))))).notesSound := by
    rw [fallbackIfStale_eq]
    exact settled.chan ch _
  rw [arm_eq]
  exact fallback.moves (.judgeChannel .refl ch)

/-- An event of the alarm unit alone ends with its ALERT frames, whatever the rest of the state. -/
theorem State.alarmUnitOnly.endEvent {s t : State} (h : s.alarmUnitOnly t) (hs : s.slotsMade = []) (ht : t.notesSound) :
    ∃ made a l sl, s.areAlerts made ∧ endEvent t =
      { s with alarms := a, alertLine := l, alertSlot := sl, alertsDue := [],
               north := { s.north with queue := s.north.queue ++ made } } := by
  obtain ⟨made, a, hm, e⟩ := State.gainsAlerts.endEvent ht (h.slotsMade.trans hs)
  obtain ⟨a', l', d', rfl⟩ := h
  exact ⟨made, a', l', a, hm, e⟩

/-- ALERT frames name the part's address, its destination and its priorities. -/
theorem State.areAlerts_congr {s t : State} {made : List QFrame} (h : t.areAlerts made) (ha : t.address = s.address)
    (hd : t.alertDest = s.alertDest) (hp : t.priorities = s.priorities) : s.areAlerts made := by
  simpa only [State.areAlerts, State.ownFrame, State.priority, ha, hd, hp] using h

/-- The lock of a valid profile given back, before the channel departs from EDIT (05, R78). -/
def givenBack (ch : ChanId) (s : State) : State :=
  s.modChan ch fun c => { c with profileValid := true, holder := none, editLease := none }

theorem givenBack_eq (ch : ChanId) (s : State) : giveBack ch s = departEdit ch (givenBack ch s) := by
  unfold giveBack freeLock givenBack
  rw [State.modChan_modChan]

theorem armedState_slotsMade (ch : ChanId) (m : Mode) (s : State) : (armedState ch m s).slotsMade = s.slotsMade := rfl

theorem armedState_chan (ch : ChanId) (m : Mode) (s : State) : (armedState ch m s).chan ch =
    (s.chan ch).armedAt m (s.freshPoint (s.flowPoint ch)) s.now :=
  State.modChan_chan_self s ch fun c => c.armedAt m (s.freshPoint (s.flowPoint ch)) s.now

theorem armedState_bank (ch : ChanId) (m : Mode) (s : State) (b : BankId) :
    (armedState ch m s).bank b = if (s.bank b).owner = some ch then (s.bank b).armed else s.bank b :=
  build_get _ b

theorem armedState_lamp (ch : ChanId) (m : Mode) (s : State) (l : LampId) : (armedState ch m s).lamp l =
    (s.lamp l).map fun x => if (s.bank x.bank).owner = some ch then x.armed else x :=
  build_get _ l

/-- A channel armed with its lock given back, in figures (01, R4, R23; 04, R74; 05, R78, R84). -/
theorem givenBack_armed (ch : ChanId) (s : State) (fresh : Bool) :
    ((givenBack ch s).modChan ch fun c => c.armedAt .auto fresh s.now) = s.modChan ch fun c => { c with
      mode := .auto
      holder := none
      editLease := none
      profileValid := true
      adoption := some (s.now + 10000)
      startList := []
      pendingUp := 0
      upCount := 0
      downCount := 0
      power := { pd := 1000, ePrev := 0, applied := 1000, code := (c.ballastCurve.get 7).y }
      acct := { c.acct with
        lastDose := 0
        bankDoses := Vector.replicate 4 0
        lastPass := none
        outOfRange := false
        offSpec := false
        doseLow := 0
        fallback := if fresh = true then none else some (s.now + c.get .passFallback) } } := by
  unfold givenBack
  rw [State.modChan_modChan]
  exact modChan_congr rfl

/-- Arming from EDIT ends with the adoption window open, in which the review takes no action (05, R84, R88). -/
theorem departEdit_unarmed {ch : ChanId} {s : State} (h : (s.chan ch).prevMode = .unarmed) :
    departEdit ch s = arm ch .auto s := by
  have window : ((arm ch .auto s).chan ch).adoption.isSome = true := by
    rw [(arm_alarmUnitOnly ch .auto s).chan ch, armedState_chan]
    rfl
  unfold departEdit
  dsimp only
  rw [if_pos h]
  exact if_pos window

/-- Settles O47: a valid profile departs from EDIT by arming, which differs from one update of the channel, its banks and
its lamps by the alarm unit alone. -/
theorem giveEditArmsTheChannel : Obligations.GiveEditArmsTheChannel := by
  intro r ch s hs held valid prev
  have prevKept : ((givenBack ch s).chan ch).prevMode = .unarmed := by
    rw [givenBack, State.modChan_chan_self]
    exact prev
  have lock : s.lockTest (stationOf r.src) [ch] = none := lockTest_holder held
  have handled : handleGiveEdit (stationOf r.src) (BitVec.ofNat 8 ch.1) s = (arm ch .auto (givenBack ch s), .ok) := by
    rw [handleGiveEdit, forChannel_ofNat, lock, State.validate_none valid]
    exact congrArg (·, Answer.ok) ((givenBack_eq ch s).trans (departEdit_unarmed prevKept))
  have armed := arm_alarmUnitOnly ch .auto (givenBack ch s)
  have sound : (givenBack ch s).notesSound := (State.notesSound.atRest hs.2.2.2).chan ch _
  have slots : (armedState ch .auto (givenBack ch s)).slotsMade = [] := by
    have none : s.slotsMade = [] := hs.2.2.2.2
    rw [armedState_slotsMade, givenBack, State.modChan, none]
  obtain ⟨made, a, l, sl, alerts, e⟩ := armed.endEvent slots (arm_notesSound sound ch .auto)
  refine ⟨endEvent (arm ch .auto (givenBack ch s)), ?_, ?_⟩
  · have address : (arm ch .auto (givenBack ch s)).address = s.address := armed.address
    have row := requestRow_event r (.giveEdit (BitVec.ofNat 8 ch.1)) _ hs handled address
    exact congrArg Host.Outcome.next row
  have banks : ∀ b, (endEvent (arm ch .auto (givenBack ch s))).bank b = if (s.bank b).owner = some ch then (s.bank b).armed
      else s.bank b := by
    intro b
    rw [e]
    exact armedState_bank ch .auto (givenBack ch s) b
  have channels : (endEvent (arm ch .auto (givenBack ch s))).channels = ((givenBack ch s).modChan ch fun c =>
      c.armedAt .auto (s.freshPoint (s.flowPoint ch)) s.now).channels := by
    rw [e]
    rfl
  have lamps : ∀ l, (endEvent (arm ch .auto (givenBack ch s))).lamp l = (s.lamp l).map fun x =>
      if (s.bank x.bank).owner = some ch then x.armed else x := by
    intro l
    rw [e]
    exact armedState_lamp ch .auto (givenBack ch s) l
  refine ⟨?_, ?_, ?_, ?_, ⟨made, State.areAlerts_congr alerts rfl rfl rfl, ?_⟩, fun b hb => ?_, fun b hb => ?_, fun l x hx => ?_⟩
  · exact (congrArg State.channels (givenBack_armed ch s (s.freshPoint (s.flowPoint ch)))).symm.trans channels.symm
  · rw [e]; rfl
  · rw [e]; rfl
  · rw [e]; rfl
  · rw [e]; rfl
  · rw [banks, if_neg hb]
  · rw [banks, if_pos hb, Bank.armed]
    split
    · next locked => exact ⟨locked, rfl, fun free => absurd locked free⟩
    · next free => exact ⟨rfl, rfl, fun _ => ⟨rfl, rfl, rfl, rfl, rfl, rfl, rfl, rfl, rfl⟩⟩
  · rw [lamps, hx, Option.map_some, ite_not]
    rfl

end Sys2Proof.Machine

namespace Sys2Proof.Machine
open Sys2Proof

set_option Elab.async false

/-! ### What a staging review moves (05, R88 to R93) -/

/-- `t` follows from `s` by stage actions of channel `ch`: start lists, the channel's own counters and pending count,
banks that start or abandon programs or enter a state other than LOCKED, and reports of STAGE_EXHAUSTED. -/
inductive State.stages (ch : ChanId) (s : State) : State → Prop
  | refl : s.stages ch s
  | list {t : State} {f : Channel → Channel} (h : s.stages ch t) (c : ChanId)
      (hf : ∀ x, (f x).butList = x.butList := by intro _; rfl) : s.stages ch (t.modChan c f)
  | counts {t : State} {f : Channel → Channel} (h : s.stages ch t)
      (hf : ∀ x, (f x).butStaging = x.butStaging := by intro _; rfl) : s.stages ch (t.modChan ch f)
  | bank {t : State} {f : Bank → Bank} (h : s.stages ch t) (b : BankId)
      (hf : ∀ x, (f x).record = x.record := by intro _; rfl)
      (hs : ∀ x, (f x).state = x.state := by intro _; rfl) : s.stages ch (t.modBank b f)
  | enter {t : State} (h : s.stages ch t) (b : BankId) {st : BankState} (hst : st ≠ .locked := by decide) :
      s.stages ch (setBankState b st t)
  | exhausted {t : State} (h : s.stages ch t) (c : ChanId) (holds : Bool) :
      s.stages ch (report .stageExhausted c.1 holds t)

namespace State.stages

variable {s t : State} {ch : ChanId}

theorem startProgram (h : s.stages ch t) (b : BankId) (k : ProgKind) : s.stages ch (startProgram b k t) := h.bank b

theorem enterQuenching (h : s.stages ch t) (b : BankId) : s.stages ch (enterQuenching b t) := by
  have left := (h.enter b (st := .quenching)).bank b (f := fun x => { x.abandon with warmTimer := none })
    (by intro x; simp [Bank.record, Bank.abandon])
  have unlisted : s.stages ch (unlist b ((setBankState b .quenching t).modBank b
      fun x => { x.abandon with warmTimer := none })) := by
    unfold unlist
    split
    · exact left.list _
    · exact left
  exact unlisted.startProgram b .quench

theorem zeroCounters (h : s.stages ch t) : s.stages ch (zeroCounters ch t) := h.counts

theorem stageUp (h : s.stages ch t) (c : ChanId) : s.stages ch (stageUp c t) := by
  unfold Machine.stageUp
  split
  · exact h
  · next b _ =>
    exact ((((h.enter b).bank b (by intro x; simp [Bank.record, Bank.abandon])).list c).startProgram b
      .strike).exhausted c false

theorem stageDown (h : s.stages ch t) (c : ChanId) : s.stages ch (stageDown c t) := by
  unfold Machine.stageDown
  split
  · exact h
  · exact h.enterQuenching _

theorem servePending (h : s.stages ch t) (n : Nat) : s.stages ch (servePending ch n t) := by
  induction n generalizing t with
  | zero => exact h
  | succ n ih =>
    unfold Machine.servePending
    split
    · exact ih (h.stageUp ch).counts.zeroCounters
    · exact h

theorem stageUpIf (h : s.stages ch t) (called : Bool) : s.stages ch (stageUpIf ch called t) := by
  unfold Machine.stageUpIf
  split
  · exact (h.stageUp ch).zeroCounters
  · exact h

theorem autoSteps (h : s.stages ch t) : s.stages ch (autoSteps ch t) := by
  have up := ((h.servePending 12).stageUpIf ((Machine.servePending ch 12 t).belowFloor ch)).stageUpIf
    ((Machine.stageUpIf ch ((Machine.servePending ch 12 t).belowFloor ch) (Machine.servePending ch 12 t)).saturated ch)
  unfold Machine.autoSteps
  dsimp only
  split
  · exact (up.counts.stageDown ch).zeroCounters
  · exact up

theorem manualSteps (h : s.stages ch t) (c : ChanId) : s.stages ch (manualSteps c t) := by
  unfold Machine.manualSteps
  dsimp only
  split
  · split
    · exact h.stageUp c
    · exact h
  · split
    · exact h.stageDown c
    · exact h

/-- Outside AUTO a review moves no counters of its channel: it is a chain of stage actions of any other (05, R93). -/
theorem reviewOther (h : s.stages ch t) (c : ChanId) (hc : (t.chan c).mode ≠ .auto ∨ (t.chan c).adoption ≠ none) :
    s.stages ch (Machine.review c t) := by
  unfold Machine.review
  split
  · exact h
  · next closed =>
    split
    case h_1 hm => exact absurd hm (hc.resolve_right fun ha => closed (Option.isSome_iff_ne_none.mpr ha))
    case h_2 => exact (h.manualSteps c).exhausted c _
    case h_3 =>
      refine State.stages.exhausted ?_ c false
      split
      · exact h.stageUp c
      · exact h
    case h_4 =>
      exact State.stages.exhausted (forEach_keeps (P := s.stages ch) (fun b _ _ g => g.enterQuenching b) h) c false
    case h_5 => exact h
    case h_6 => exact h

theorem review (h : s.stages ch t) : s.stages ch (review ch t) := by
  by_cases hc : (t.chan ch).mode ≠ .auto ∨ (t.chan ch).adoption ≠ none
  · exact h.reviewOther ch hc
  · rw [not_or, not_not, not_not] at hc
    have auto : Machine.review ch t = report .stageExhausted ch.1 ((Machine.autoSteps ch t).autoExhausted ch)
        (Machine.autoSteps ch t) := by
      simp [Machine.review, hc.1, hc.2]
    rw [auto]
    exact h.autoSteps.exhausted ch _

theorem moves (h : s.stages ch t) : s.moves t := by
  induction h with
  | refl => exact .refl
  | @list t f _ c hf ih =>
    have kept : ∀ x, (f x).butList.butStaging = x.butList.butStaging := fun x => congrArg Channel.butStaging (hf x)
    exact ih.chan c kept
  | counts _ hf ih => exact ih.chan ch hf
  | bank _ b hf _ ih => exact ih.bank b (hf _)
  | enter _ b _ ih => exact ih.setBankState b _
  | exhausted _ c _ ih => exact ih.report c.isLt

theorem staging (h : s.stages ch t) : s.stagingOnly t := by
  induction h with
  | refl => exact .refl s
  | list _ c _ ih => exact ih.trans (modChan_stagingOnly c _ _)
  | counts _ _ ih => exact ih.trans (modChan_stagingOnly ch _ _)
  | bank _ b _ _ ih => exact ih.trans (modBank_stagingOnly b _ _)
  | enter _ b _ ih => exact ih.trans (setBankState_stagingOnly b _ _)
  | exhausted _ c _ ih => exact ih.trans (report_alarmUnitOnly _ _ _ _).staging

theorem setBankState_chan (b : BankId) (st : BankState) (s : State) (c : ChanId) :
    (setBankState b st s).chan c = s.chan c :=
  (setBankState_alarmUnitOnly b st s).chan c

/-- Another channel loses at most a place in its list (05, R87). -/
theorem butList (h : s.stages ch t) {d : ChanId} (hd : d ≠ ch) : (t.chan d).butList = (s.chan d).butList := by
  induction h with
  | refl => rfl
  | list _ c hf ih =>
    rw [State.modChan_chan]
    split
    · next e => rw [hf, ← ih, e]
    · exact ih
  | counts _ _ ih => rwa [State.modChan_chan, if_neg hd]
  | bank _ _ _ _ ih => exact ih
  | enter _ _ _ ih => rw [setBankState_chan, ih]
  | exhausted _ _ _ ih => rw [report_chan, ih]


/-- A bank's change of state reports conditions of the bank alone (03, R53, R55; 02, R38; 05, R96). -/
theorem setBankState_alarm (b : BankId) (st : BankState) (s : State) {k : AlarmKind} (hs : k ≠ .sag) (ho : k ≠ .outputLow)
    (hf : k ≠ .bankFault) (hi : k ≠ .intensityStale) (i : Nat) : (setBankState b st s).alarm k i = s.alarm k i := by
  have judged : ∀ u : State, (judgeBank b u).alarm k i = u.alarm k i := fun u => by
    rw [judgeBank, judgeIntensityStale, report_alarm_ne (alarmSlot_kind hi), judgeBankFault,
      report_alarm_ne (alarmSlot_kind hf)]
  unfold setBankState
  dsimp only
  split
  · rfl
  · rw [judged]
    split
    · rw [report_alarm_ne (alarmSlot_kind ho), judgeSag, report_alarm_ne (alarmSlot_kind hs)]
      rfl
    · rfl

/-- The conditions of points and passes stand through a review. -/
theorem alarm (h : s.stages ch t) {k : AlarmKind} (he : k ≠ .stageExhausted) (hs : k ≠ .sag) (ho : k ≠ .outputLow)
    (hf : k ≠ .bankFault) (hi : k ≠ .intensityStale) (i : Nat) : t.alarm k i = s.alarm k i := by
  induction h with
  | refl => rfl
  | list _ _ _ ih => exact ih
  | counts _ _ ih => exact ih
  | bank _ _ _ _ ih => exact ih
  | enter _ b _ ih => rw [setBankState_alarm b _ _ hs ho hf hi, ih]
  | exhausted _ c _ ih => rw [report_alarm_ne (alarmSlot_kind he), ih]

end State.stages

/-- INTENSITY_STALE of a bank that is not LOCKED stands as judged (02, R38). -/
def State.staleJudged (s : State) (b : BankId) : Prop :=
  (s.bank b).state ≠ .locked ∧
    (s.alarm .intensityStale b.1).cause = (s.bankWatched b && !s.freshPoint (s.intensityPoint b))

namespace State.staleJudged

variable {s t : State} {b : BankId}

/-- What the judgment of a bank's point reads: its owner, the modes and the points. -/
theorem of_eq (h : s.staleJudged b) (hs : (t.bank b).state ≠ .locked) (ho : (t.bank b).owner = (s.bank b).owner)
    (hm : ∀ c, (t.chan c).mode = (s.chan c).mode) (hp : t.points = s.points)
    (ha : t.alarm .intensityStale b.1 = s.alarm .intensityStale b.1) : t.staleJudged b := by
  refine ⟨hs, ?_⟩
  have point : t.intensityPoint b = s.intensityPoint b := State.servingPoint_congr hp _
  rw [ha, h.2, point, State.freshPoint_congr hp]
  simp only [State.bankWatched, ho, hm]

theorem judged {s : State} {b : BankId} (h : (s.bank b).state ≠ .locked) : (judgeIntensityStale b s).staleJudged b := by
  have alarms := judgeIntensityStale_alarmUnitOnly b s
  have bank := alarms.bank b
  have point : (judgeIntensityStale b s).intensityPoint b = s.intensityPoint b :=
    State.servingPoint_congr alarms.points _
  refine ⟨by rwa [bank], ?_⟩
  rw [alarms.bankWatched, point, State.freshPoint_congr alarms.points, judgeIntensityStale, report_cause]
  simp [h]

theorem setBankState (h : s.staleJudged b) (c : BankId) {st : BankState} (hst : st ≠ .locked) :
    (setBankState c st s).staleJudged b := by
  by_cases e : b = c
  · subst e
    by_cases same : (s.bank b).state = st
    · have kept : Machine.setBankState b st s = s := if_pos same
      rwa [kept]
    · obtain ⟨u, hu, eq⟩ : ∃ u : State, (u.bank b).state = st ∧ Machine.setBankState b st s = judgeBank b u := by
        refine ⟨_, ?_, if_neg same⟩
        split
        · rw [report_bank, judgeSag, report_bank, State.modBank_bank_self]
        · rw [State.modBank_bank_self]
      rw [eq]
      refine judged ?_
      rwa [(judgeBankFault_alarmUnitOnly b u).bank b, hu]
  · have frame := setBankState_alarmUnitOnly c st s
    have bank : (Machine.setBankState c st s).bank b = s.bank b := by
      rw [frame.bank b, State.modBank_bank, if_neg e]
    refine h.of_eq (bank ▸ h.1) (by rw [bank]) (fun d => by rw [frame.chan d]; rfl) frame.points ?_
    unfold Machine.setBankState
    dsimp only
    split
    · rfl
    · rw [(judgeBank_alarm_other e).2]
      split
      · rw [report_alarm_ne (alarmSlot_kind (by decide)), judgeSag, report_alarm_ne (alarmSlot_kind (by decide))]
        rfl
      · rfl

theorem stages {ch : ChanId} (h : s.staleJudged b) (m : s.stages ch t) : t.staleJudged b := by
  induction m with
  | refl => exact h
  | @list t f _ c hf ih =>
    refine ih.of_eq ih.1 rfl (fun d => ?_) rfl rfl
    rw [State.modChan_chan]
    split
    · next e =>
      subst e
      have kept := congrArg Channel.mode (hf (t.chan d))
      exact kept
    · rfl
  | @counts t f _ hf ih =>
    refine ih.of_eq ih.1 rfl (fun d => ?_) rfl rfl
    rw [State.modChan_chan]
    split
    · next e =>
      subst e
      have kept := congrArg Channel.mode (hf (t.chan d))
      exact kept
    · rfl
  | @bank t f _ c hf hs ih =>
    have state : ((t.modBank c f).bank b).state = (t.bank b).state := by
      rw [State.modBank_bank]
      split
      · next e => rw [hs, e]
      · rfl
    have owner : ((t.modBank c f).bank b).owner = (t.bank b).owner := by
      rw [State.modBank_bank]
      split
      · next e =>
        subst e
        exact congrArg Bank.Record.owner (hf (t.bank b))
      · rfl
    exact ih.of_eq (state ▸ ih.1) owner (fun _ => rfl) rfl rfl
  | enter _ c hst ih => exact ih.setBankState c hst
  | @exhausted t _ c holds ih =>
    have frame := report_alarmUnitOnly .stageExhausted c.1 holds t
    exact ih.of_eq (by rw [report_bank]; exact ih.1) (by rw [report_bank]) (fun d => by rw [report_chan]) frame.points
      (report_alarm_ne (alarmSlot_kind (by decide)) _ _)

end State.staleJudged
end Sys2Proof.Machine

namespace Sys2Proof.Machine
open Sys2Proof

set_option Elab.async false

/-! ### Selection (05, R91) -/

theorem State.installed_all_cooled (s : State) (ch : ChanId) (b : BankId) : s.bankCool ch b = true ↔ s.cooled ch b := by
  unfold State.bankCool State.cooled
  rw [List.all_eq_true]
  constructor
  · intro h l x hl hb
    have := h l ((State.mem_installed s b l).mpr ⟨x, hl, hb⟩)
    rw [hl] at this
    exact of_decide_eq_true this
  · intro h l hl
    obtain ⟨x, hx, hb⟩ := (State.mem_installed s b l).mp hl
    rw [hx]
    exact decide_eq_true (h l x hx hb)

theorem State.mem_darkBanks (s : State) (ch : ChanId) (b : BankId) : b ∈ s.darkBanks ch ↔ s.darkOf ch b := by
  simp [State.darkBanks, State.darkOf, State.mem_ownedBanks]

theorem State.darkBanks_sorted (s : State) (ch : ChanId) : (s.darkBanks ch).Pairwise (· < ·) :=
  (s.ownedBanks_sorted ch).filter _

theorem State.darkBanks_length (s : State) (ch : ChanId) : (s.darkBanks ch).length = s.darkCount ch := by
  unfold State.darkBanks State.darkCount State.ownedBanks allBanks
  rw [List.filter_filter, ← List.countP_eq_length_filter]
  exact List.countP_congr fun b _ => by simp [and_comm]

theorem State.noDark_iff (s : State) (ch : ChanId) : s.noDark ch = true ↔ s.darkCount ch = 0 := by
  rw [State.noDark, List.isEmpty_iff, ← List.length_eq_zero_iff, State.darkBanks_length]

/-- The bank a stage-up selects is DARK and goes before every other DARK bank (05, R91). -/
theorem State.selectBank_some {s : State} {ch : ChanId} {b : BankId} (h : s.selectBank ch = some b) :
    s.darkOf ch b ∧ ∀ c, s.darkOf ch c → c ≠ b → s.goesBefore ch b c := by
  unfold State.selectBank at h
  split at h
  · next a ha =>
    obtain rfl := Option.some.inj h
    obtain ⟨hm, first⟩ := State.firstPlaced_some ((s.darkBanks_sorted ch).filter _) ha
    obtain ⟨dark, cool⟩ := List.mem_filter.mp hm
    rw [State.installed_all_cooled] at cool
    refine ⟨(s.mem_darkBanks ch a).mp dark, fun c hc hne => ⟨fun _ => cool, fun same => ?_⟩⟩
    exact first c (List.mem_filter.mpr ⟨(s.mem_darkBanks ch c).mpr hc,
      (s.installed_all_cooled ch c).mpr (same.mp cool)⟩) hne
  · next none =>
    have warm : ∀ c, s.darkOf ch c → ¬ s.cooled ch c := by
      intro c hc cool
      have hm : c ∈ (s.darkBanks ch).filter (s.bankCool ch) :=
        List.mem_filter.mpr ⟨(s.mem_darkBanks ch c).mpr hc, (s.installed_all_cooled ch c).mpr cool⟩
      rw [State.firstPlaced_none ((s.darkBanks_sorted ch).filter _) none] at hm
      cases hm
    obtain ⟨hm, first⟩ := State.firstPlaced_some (s.darkBanks_sorted ch) h
    refine ⟨(s.mem_darkBanks ch b).mp hm, fun c hc hne => ⟨fun cool => absurd cool (warm c hc), fun _ => ?_⟩⟩
    exact first c ((s.mem_darkBanks ch c).mpr hc) hne

theorem State.selectBank_isSome {s : State} {ch : ChanId} (h : s.darkCount ch ≠ 0) : ∃ b, s.selectBank ch = some b := by
  cases e : s.selectBank ch with
  | some b => exact ⟨b, rfl⟩
  | none =>
    exfalso
    unfold State.selectBank at e
    split at e
    · cases e
    · have := State.firstPlaced_none (s.darkBanks_sorted ch) e
      rw [← State.darkBanks_length, this] at h
      exact h rfl

/-! ### Stage actions in figures (05, R91, R92, R97) -/

theorem startProgram_eq (b : BankId) (k : ProgKind) (s : State) : startProgram b k s = s.modBank b fun x =>
    { x with running := some k, stepIdx := 0, stepTimer := some (s.now + 10 * 2 ^ ((x.program k).get 0).k) } := rfl

theorem State.alarmUnitOnly.startProgram {s t : State} (h : s.alarmUnitOnly t) (b : BankId) (k : ProgKind) :
    (startProgram b k s).alarmUnitOnly (startProgram b k t) := by
  obtain ⟨a, l, d, rfl⟩ := h
  exact ⟨a, l, d, rfl⟩

theorem Tracker.clearBlank_eq (t : Tracker) :
    t.clearBlank = if t.blank then { t with blank := false, sf := none, sn := none, warm := false } else t := rfl

theorem stageUp_alarmUnitOnly {s : State} {ch : ChanId} {b : BankId} (h : s.selectBank ch = some b) :
    (s.stagedUp ch b).alarmUnitOnly (stageUp ch s) := by
  obtain ⟨⟨_, dark⟩, _⟩ := State.selectBank_some h
  have entered := (setBankState_alarmUnitOnly b .striking s).modBank b Bank.abandon
  have started := (entered.modChan ch fun c => { c with startList := c.startList ++ [b] }).startProgram b .strike
  have base : s.stagedUp ch b = (startProgram b .strike ((s.modBank b (Bank.entered .striking)).modBank b
      Bank.abandon)).modChan ch fun c => { c with startList := c.startList ++ [b] } := by
    rw [startProgram_eq, State.modBank_modBank, State.modBank_modBank]
    refine congrArg (fun t : State => t.modChan ch fun c => { c with startList := c.startList ++ [b] })
      (modBank_congr ?_)
    simp [Bank.entered, dark, Bank.abandon, Tracker.onState, BankState.warmOrRun, Tracker.clearBlank_eq, Bank.program]
  rw [base]
  unfold stageUp
  rw [h]
  exact started.report _ _ _

theorem unlist_owned {s : State} {b : BankId} {ch : ChanId} (h : (s.bank b).owner = some ch) :
    unlist b s = s.modChan ch fun c => { c with startList := c.startList.filter (· ≠ b) } := by
  unfold unlist
  rw [h]

/-- The tracker of a bank that enters QUENCHING (05, R97; 03, R44, R54). -/
def Bank.quenchedTracker (x : Bank) : Tracker :=
  (x.entered .quenching).tracker.clearBlank

theorem Bank.quenchedTracker_left (x : Bank) : Tracker.left x.tracker x.quenchedTracker x.state := by
  unfold Bank.quenchedTracker Bank.entered
  cases h : x.state <;> cases hb : x.tracker.blank <;>
    simp [Tracker.left, Tracker.onState, BankState.warmOrRun, Tracker.clearBlank_eq, hb]

/-- A bank staged down, its tracker in figures (05, R92, R97). -/
def Bank.quenched (now : Nat) (x : Bank) : Bank :=
  { x with
    state := .quenching
    running := some .quench
    stepIdx := 0
    stepTimer := some (now + 10 * 2 ^ (x.quench.get 0).k)
    wipeDue := false
    wipeInterval := if x.state = .run then none else x.wipeInterval
    warmTimer := none
    tracker := x.quenchedTracker }

/-- The bank leaves its channel's list for QUENCHING. -/
def State.quenched (s : State) (ch : ChanId) (b : BankId) : State :=
  (s.modBank b (Bank.quenched s.now)).modChan ch fun c => { c with startList := c.startList.filter (· ≠ b) }

theorem enterQuenching_alarmUnitOnly {s : State} {ch : ChanId} {b : BankId} (own : (s.bank b).owner = some ch) :
    (s.quenched ch b).alarmUnitOnly (enterQuenching b s) := by
  have entered := (setBankState_alarmUnitOnly b .quenching s).modBank b fun x => { x.abandon with warmTimer := none }
  have owned : (((setBankState b .quenching s).modBank b fun x => { x.abandon with warmTimer := none }).bank b).owner =
      some ch := by
    have owner : (Bank.entered .quenching (s.bank b)).owner = some ch := by
      unfold Bank.entered
      split <;> exact own
    rw [entered.bank b, State.modBank_bank_self, State.modBank_bank_self]
    exact owner
  have started := (entered.modChan ch fun c => { c with startList := c.startList.filter (· ≠ b) }).startProgram b .quench
  have base : s.quenched ch b = (startProgram b .quench ((s.modBank b (Bank.entered .quenching)).modBank b
      fun x => { x.abandon with warmTimer := none })).modChan ch fun c =>
        { c with startList := c.startList.filter (· ≠ b) } := by
    rw [startProgram_eq, State.modBank_modBank, State.modBank_modBank]
    refine congrArg (fun t : State => t.modChan ch fun c => { c with startList := c.startList.filter (· ≠ b) })
      (modBank_congr ?_)
    unfold Bank.quenched Bank.quenchedTracker Bank.entered
    split
    · next e => simp [Bank.abandon, Bank.program, e]
    · simp [Bank.abandon, Bank.program]
  rw [base]
  unfold enterQuenching
  rw [unlist_owned owned]
  exact started

/-- A listed bank that its channel owns is staged down (05, R92, R97). -/
theorem stageDown_alarmUnitOnly {s : State} {ch : ChanId} {b : BankId} (h : (s.chan ch).startList.getLast? = some b)
    (own : (s.bank b).owner = some ch) : (s.quenched ch b).alarmUnitOnly (stageDown ch s) := by
  unfold stageDown
  rw [h]
  exact enterQuenching_alarmUnitOnly own

/-! ### The AUTO review (05, R92) -/

/-- A bank staged up: STRIKING at the start of its STRIKE program (05, R91; 06, R101, R105). -/
def Bank.struck (now : Nat) (x : Bank) : Bank :=
  { x with
    state := .striking
    running := some .strike
    stepIdx := 0
    stepTimer := some (now + 10 * 2 ^ (x.strike.get 0).k)
    wipeDue := false
    tracker := if x.tracker.blank then { x.tracker with blank := false, sf := none, sn := none, warm := false }
      else x.tracker }

/-- A channel that has staged up the banks of a list, in this order, one for each of its pending requests. -/
def Channel.served (staged : List BankId) (c : Channel) : Channel :=
  { c with
    startList := c.startList ++ staged
    pendingUp := c.pendingUp - staged.length
    upCount := 0
    downCount := 0 }

/-- The banks of a list staged up, one for each pending request of the channel (05, R91, R92). -/
def State.served (s : State) (ch : ChanId) (staged : List BankId) : State :=
  { s.modChan ch (Channel.served staged) with
    banks := build fun b => if b ∈ staged then (s.bank b).struck s.now else s.bank b }

theorem State.stagedUp_eq (s : State) (ch : ChanId) (b : BankId) : s.stagedUp ch b =
    (s.modBank b (Bank.struck s.now)).modChan ch fun c => { c with startList := c.startList ++ [b] } := rfl

theorem State.stagedUp_bank (s : State) (ch : ChanId) (b : BankId) :
    (s.stagedUp ch b).bank b = (s.bank b).struck s.now :=
  State.modBank_bank_self s b (Bank.struck s.now)

theorem State.served_chan (s : State) (ch : ChanId) (staged : List BankId) :
    (s.served ch staged).chan ch = (s.chan ch).served staged :=
  State.modChan_chan_self s ch (Channel.served staged)

theorem State.served_bank (s : State) (ch : ChanId) (staged : List BankId) (b : BankId) :
    (s.served ch staged).bank b = if b ∈ staged then (s.bank b).struck s.now else s.bank b :=
  build_get _ b

/-- The banks of a longer list are staged up one after the other. -/
theorem State.served_cons {b : BankId} {l : List BankId} (hb : b ∉ l) (s : State) (ch : ChanId) :
    (s.served ch [b]).served ch l = s.served ch (b :: l) := by
  have banks : (build fun c => if c ∈ l then ((s.served ch [b]).bank c).struck s.now else (s.served ch [b]).bank c) =
      build fun c => if c ∈ b :: l then (s.bank c).struck s.now else s.bank c := by
    refine congrArg build (funext fun c => ?_)
    rw [State.served_bank]
    by_cases e : c = b
    · simp [e, hb]
    · simp [e]
  have chans : ((s.modChan ch (Channel.served [b])).modChan ch (Channel.served l)) =
      s.modChan ch (Channel.served (b :: l)) := by
    rw [State.modChan_modChan]
    refine modChan_congr ?_
    simp [Channel.served, Nat.sub_sub, Nat.add_comm]
  have eq : (s.served ch [b]).served ch l = { (s.modChan ch (Channel.served [b])).modChan ch (Channel.served l) with
      banks := build fun c => if c ∈ l then ((s.served ch [b]).bank c).struck s.now else (s.served ch [b]).bank c } := rfl
  rw [eq, banks, chans]
  rfl

/-- One stage-up with its count is the service of one request. -/
theorem stageUp_served {s : State} {ch : ChanId} {b : BankId} (h : s.selectBank ch = some b) :
    (s.served ch [b]).alarmUnitOnly
      (zeroCounters ch ((stageUp ch s).modChan ch fun c => { c with pendingUp := c.pendingUp - 1 })) := by
  have up := ((stageUp_alarmUnitOnly h).modChan ch fun c => { c with pendingUp := c.pendingUp - 1 }).modChan ch
    fun c => { c with upCount := 0, downCount := 0 }
  rw [State.stagedUp_eq, State.modChan_modChan, State.modChan_modChan] at up
  have banks : (s.served ch [b]).banks = (s.modBank b (Bank.struck s.now)).banks := vector_ext_get fun c => by
    refine (s.served_bank ch [b] c).trans (.trans ?_ (s.modBank_bank b c _).symm)
    by_cases e : c = b <;> simp [e]
  have base : s.served ch [b] = (s.modBank b (Bank.struck s.now)).modChan ch (Channel.served [b]) :=
    congrArg (fun v => { s.modChan ch (Channel.served [b]) with banks := v }) banks
  rw [base]
  exact up

theorem State.alarmUnitOnly.served {s t : State} (h : s.alarmUnitOnly t) (ch : ChanId) (l : List BankId) :
    (s.served ch l).alarmUnitOnly (t.served ch l) := by
  obtain ⟨a, m, d, rfl⟩ := h
  exact ⟨a, m, d, rfl⟩

/-- `t` is `s` with one bank staged up, as far as selection sees it. -/
structure State.OneUp (s t : State) (ch : ChanId) (b : BankId) : Prop where
  chan : t.chan ch = (s.chan ch).served [b]
  bank : ∀ c, t.bank c = if c = b then (s.bank b).struck s.now else s.bank c
  lamp : ∀ l, t.lamp l = s.lamp l

namespace State.OneUp

variable {s t : State} {ch : ChanId} {b : BankId}

theorem of_served (h : (s.served ch [b]).alarmUnitOnly t) : s.OneUp t ch b where
  chan := by rw [h.chan, State.served_chan]
  bank c := by
    rw [h.bank, State.served_bank]
    by_cases e : c = b <;> simp [e]
  lamp l := h.lamp l

theorem owner (h : s.OneUp t ch b) (c : BankId) : (t.bank c).owner = (s.bank c).owner := by
  rw [h.bank]
  split
  · next e => rw [e]; rfl
  · rfl

theorem get (h : s.OneUp t ch b) (c : BankId) (x : BankSetting) : (t.bank c).get x = (s.bank c).get x := by
  rw [h.bank]
  split
  · next e => rw [e]; rfl
  · rfl

theorem darkOf (h : s.OneUp t ch b) (c : BankId) : t.darkOf ch c ↔ s.darkOf ch c ∧ c ≠ b := by
  rw [State.darkOf, State.darkOf, h.owner, h.bank]
  by_cases e : c = b
  · simp [e, Bank.struck]
  · simp [e]

theorem cooled (h : s.OneUp t ch b) (c : BankId) : t.cooled ch c ↔ s.cooled ch c := by
  have level : (t.chan ch).get .restrikeLevel = (s.chan ch).get .restrikeLevel := by rw [h.chan]; rfl
  simp only [State.cooled, h.lamp, level]

theorem goesBefore (h : s.OneUp t ch b) (c d : BankId) : t.goesBefore ch c d ↔ s.goesBefore ch c d := by
  simp only [State.goesBefore, h.cooled, State.before, h.get]

theorem darkCount (h : s.OneUp t ch b) (dark : s.darkOf ch b) : t.darkCount ch + 1 = s.darkCount ch := by
  have less : t.darkBanks ch = (s.darkBanks ch).erase b := by
    rw [List.Nodup.erase_eq_filter ((s.darkBanks_sorted ch).imp Fin.ne_of_lt) b]
    unfold State.darkBanks State.ownedBanks
    rw [List.filter_filter, List.filter_filter, List.filter_filter]
    refine List.filter_congr fun c _ => ?_
    have hc := h.darkOf c
    unfold State.darkOf at hc
    rw [Bool.eq_iff_iff]
    simp only [Bool.and_eq_true, decide_eq_true_eq, bne_iff_ne]
    rw [and_comm, hc]
    tauto
  have mem := (s.mem_darkBanks ch b).mpr dark
  have pos := List.length_pos_of_mem mem
  rw [← State.darkBanks_length, ← State.darkBanks_length, less, List.length_erase_of_mem mem]
  omega

end State.OneUp

/-- Step 1 of the AUTO review serves the pending requests while DARK banks last, in the order of selection (05, R92). -/
theorem servePending_served {ch : ChanId} (n : Nat) {s : State} (hp : 0 < (s.chan ch).pendingUp) (hd : s.darkCount ch ≠ 0)
    (hn : s.darkCount ch ≤ n) :
    ∃ staged : List BankId, staged.length = min (s.chan ch).pendingUp (s.darkCount ch) ∧ (∀ b ∈ staged, s.darkOf ch b) ∧
      staged.Pairwise (fun b c => b ≠ c ∧ s.goesBefore ch b c) ∧
      (∀ b c, b ∈ staged → c ∉ staged → s.darkOf ch c → s.goesBefore ch b c) ∧
      (s.served ch staged).alarmUnitOnly (servePending ch n s) ∧
      (servePending ch n s).darkCount ch + staged.length = s.darkCount ch := by
  induction n generalizing s with
  | zero => omega
  | succ n ih =>
    obtain ⟨b, hb⟩ := State.selectBank_isSome hd
    obtain ⟨dark, first⟩ := State.selectBank_some hb
    have one := stageUp_served hb
    obtain ⟨u, hu⟩ : ∃ u, u = zeroCounters ch ((stageUp ch s).modChan ch fun c => { c with pendingUp := c.pendingUp - 1 }) :=
      ⟨_, rfl⟩
    rw [← hu] at one
    have up := State.OneUp.of_served one
    have pending : (u.chan ch).pendingUp = (s.chan ch).pendingUp - 1 := by rw [up.chan]; rfl
    have count := up.darkCount dark
    have light : s.noDark ch = false := by
      rw [← Bool.not_eq_true, State.noDark_iff]
      exact hd
    have step : servePending ch (n + 1) s = servePending ch n u := by
      rw [hu]
      exact if_pos ⟨hp, by rw [light]; rfl⟩
    rw [step]
    by_cases more : 0 < (u.chan ch).pendingUp ∧ u.darkCount ch ≠ 0
    · obtain ⟨staged, len, own, pair, least, served, left⟩ := ih more.1 more.2 (by omega)
      have fresh : b ∉ staged := fun hm => ((up.darkOf b).mp (own b hm)).2 rfl
      refine ⟨b :: staged, ?_, ?_, ?_, ?_, ?_, ?_⟩
      · rw [List.length_cons, len]
        omega
      · intro c hc
        rcases List.mem_cons.mp hc with rfl | hc
        · exact dark
        · exact ((up.darkOf c).mp (own c hc)).1
      · refine List.pairwise_cons.mpr ⟨fun c hc => ?_, pair.imp fun hc => ⟨hc.1, (up.goesBefore _ _).mp hc.2⟩⟩
        obtain ⟨darkc, ne⟩ := (up.darkOf c).mp (own c hc)
        exact ⟨ne.symm, first c darkc ne⟩
      · intro c d hc hd dd
        have ne : d ≠ b := fun e => hd (List.mem_cons.mpr (.inl e))
        have hd : d ∉ staged := fun hm => hd (List.mem_cons_of_mem b hm)
        rcases List.mem_cons.mp hc with rfl | hc
        · exact first d dd ne
        · exact (up.goesBefore c d).mp (least c d hc hd ((up.darkOf d).mpr ⟨dd, ne⟩))
      · rw [← State.served_cons fresh]
        exact (one.served ch staged).trans served
      · rw [List.length_cons]
        omega
    · have stop : servePending ch n u = u := by
        cases n with
        | zero => rfl
        | succ n =>
          refine if_neg fun h => more ⟨h.1, fun hz => ?_⟩
          rw [(State.noDark_iff u ch).mpr hz] at h
          exact absurd h.2 (by decide)
      refine ⟨[b], ?_, ?_, List.pairwise_singleton _ _, ?_, ?_, ?_⟩
      · rw [List.length_singleton]
        omega
      · intro c hc
        rwa [List.mem_singleton.mp hc]
      · intro c d hc hd dd
        rw [List.mem_singleton.mp hc]
        exact first d dd fun e => hd (by simp [e])
      · rw [stop]
        exact one
      · rw [stop]
        exact count

theorem State.lighting_iff (s : State) (ch : ChanId) : s.lighting ch = true ↔ s.listLighting ch := by
  simp [State.lighting, State.listLighting]

/-- A list bank that is STRIKING or WARMING ends the AUTO review after its first step (05, R92). -/
theorem autoSteps_lighting {ch : ChanId} {s : State} (h : (servePending ch 12 s).lighting ch = true) :
    autoSteps ch s = servePending ch 12 s := by
  simp [autoSteps, stageUpIf, State.belowFloor, State.saturated, State.surplus, h]

/-- Without a DARK bank the AUTO review stages down at most (05, R92). -/
theorem autoSteps_noDark {ch : ChanId} {s : State} (h : s.darkCount ch = 0) : autoSteps ch s =
    if s.surplus ch then zeroCounters ch (stageDown ch (s.modChan ch fun c => { c with pendingUp := 0 })) else s := by
  have dark := (s.noDark_iff ch).mpr h
  simp [autoSteps, stageUpIf, servePending, dark]

theorem State.served_lighting {s : State} {ch : ChanId} {staged : List BankId} (h : staged ≠ []) :
    (s.served ch staged).lighting ch = true := by
  obtain ⟨b, hb⟩ := List.exists_mem_of_ne_nil staged h
  rw [State.lighting_iff]
  refine ⟨b, ?_, .inl ?_⟩
  · rw [State.served_chan]
    exact List.mem_append_right _ hb
  · rw [State.served_bank, if_pos hb]
    rfl

theorem State.alarmUnitOnly.lighting {s t : State} (h : s.alarmUnitOnly t) (ch : ChanId) :
    t.lighting ch = s.lighting ch := by
  obtain ⟨_, _, _, rfl⟩ := h
  rfl

theorem State.alarmUnitOnly.darkCount {s t : State} (h : s.alarmUnitOnly t) (ch : ChanId) :
    t.darkCount ch = s.darkCount ch := by
  obtain ⟨_, _, _, rfl⟩ := h
  rfl

theorem review_auto {ch : ChanId} {s : State} (hm : (s.chan ch).mode = .auto) (ha : (s.chan ch).adoption = none) :
    review ch s = report .stageExhausted ch.1 ((autoSteps ch s).autoExhausted ch) (autoSteps ch s) := by
  simp [review, hm, ha]

theorem review_idle {ch : ChanId} {s : State} (h : (s.chan ch).mode = .edit ∨ (s.chan ch).adoption ≠ none) :
    review ch s = s := by
  unfold review
  rcases h with h | h
  · simp [h]
  · simp [Option.isSome_iff_ne_none.mpr h]

/-- The banks `servePending_served` names are in number at most 12, its fuel. -/
theorem State.darkCount_le (s : State) (ch : ChanId) : s.darkCount ch ≤ 12 :=
  List.countP_le_length

/-- The AUTO review with requests and DARK banks serves the requests and takes no further step (05, R92). -/
theorem autoSteps_served {ch : ChanId} {s : State} (hp : 0 < (s.chan ch).pendingUp) (hd : s.darkCount ch ≠ 0) :
    ∃ staged : List BankId, staged.length = min (s.chan ch).pendingUp (s.darkCount ch) ∧ (∀ b ∈ staged, s.darkOf ch b) ∧
      staged.Pairwise (fun b c => b ≠ c ∧ s.goesBefore ch b c) ∧
      (∀ b c, b ∈ staged → c ∉ staged → s.darkOf ch c → s.goesBefore ch b c) ∧
      (s.served ch staged).alarmUnitOnly (autoSteps ch s) ∧
      (autoSteps ch s).darkCount ch + staged.length = s.darkCount ch ∧ (autoSteps ch s).lighting ch = true := by
  obtain ⟨staged, len, own, pair, least, served, left⟩ := servePending_served 12 hp hd (s.darkCount_le ch)
  have some : staged ≠ [] := by
    rw [← List.length_pos_iff, len]
    omega
  have lit : (servePending ch 12 s).lighting ch = true := (served.lighting ch).trans (State.served_lighting some)
  rw [autoSteps_lighting lit]
  exact ⟨staged, len, own, pair, least, served, left, lit⟩

end Sys2Proof.Machine

namespace Sys2Proof.Machine
open Sys2Proof

set_option Elab.async false

/-! ### Stage-up requests (05, R90) -/

theorem State.served_eq (s : State) (ch : ChanId) (staged : List BankId) : s.served ch staged =
    { (s.modChan ch fun c => { c with
        startList := c.startList ++ staged
        pendingUp := c.pendingUp - staged.length
        upCount := 0
        downCount := 0 }) with
      banks := build fun b => if b ∈ staged then (s.stagedUp ch b).bank b else s.bank b } := by
  simp only [State.stagedUp_bank]
  rfl

/-- A channel that serves its requests ends its event as `State.requestsServed` says. -/
theorem requestsServed_of {s u : State} {ch : ChanId} (hs : s.atRest) (h : s.alarmUnitOnly u) (hu : u.notesSound)
    (hm : (s.chan ch).mode = .auto) (ha : (s.chan ch).adoption = none) (hp : 0 < (s.chan ch).pendingUp)
    (hd : s.darkCount ch ≠ 0) : s.requestsServed (endEvent (review ch u)) ch := by
  have chan := h.chan ch
  obtain ⟨staged, len, own, pair, least, served, dark, lit⟩ :=
    autoSteps_served (ch := ch) (s := u) (by rwa [chan]) (by rwa [h.darkCount])
  have reviewed := review_auto (ch := ch) (s := u) (by rw [chan, hm]) (by rw [chan, ha])
  rw [chan, h.darkCount] at len
  have same : (∀ b, u.darkOf ch b ↔ s.darkOf ch b) ∧ ∀ b c, u.goesBefore ch b c ↔ s.goesBefore ch b c := by
    obtain ⟨_, _, _, rfl⟩ := h
    exact ⟨fun _ => .rfl, fun _ _ => .rfl⟩
  simp only [same.1] at own least
  simp only [same.2] at pair least
  refine ⟨staged, len, own, pair, least, ?_, ?_⟩
  · rw [← State.served_eq, reviewed]
    have rest : (s.served ch staged).atRest := hs.of_eq rfl rfl
    refine State.alarmUnitOnly.onlyAlarms ?_ rest ?_
    · exact ((h.served ch staged).trans served).report _ _ _
    · exact (hu.moves (.autoSteps .refl ch)).report ch.isLt _
  · rw [endEvent_alarm, reviewed, report_cause]
    have pending : ((autoSteps ch u).chan ch).pendingUp = (s.chan ch).pendingUp - staged.length := by
      rw [served.chan, State.served_chan, chan]
      rfl
    have exhausted : (autoSteps ch u).autoExhausted ch = true ↔
        (autoSteps ch u).darkCount ch = 0 ∧ 0 < ((autoSteps ch u).chan ch).pendingUp := by
      simp [State.autoExhausted, State.belowFloor, State.saturated, lit, State.noDark_iff]
    rw [exhausted, pending]
    rw [h.darkCount] at dark
    omega

theorem State.surplus_iff (s : State) (ch : ChanId) : s.surplus ch = true ↔
    (s.chan ch).get .stageDownPasses ≤ (s.chan ch).downCount ∧ ¬ s.listLighting ch ∧
      (s.chan ch).get .minBanks < (s.chan ch).startList.length := by
  rw [← State.lighting_iff]
  simp [State.surplus, and_assoc]

theorem State.stagedDown_eq {s t : State} {ch : ChanId} {b : BankId}
    (h : (t.bank b).tracker = (s.bank b).quenchedTracker) : s.stagedDown t ch b = s.quenched ch b := by
  unfold State.stagedDown State.quenched
  rw [h]
  exact congrArg (fun u : State => u.modChan ch fun c => { c with startList := c.startList.filter (· ≠ b) })
    (modBank_congr rfl)

theorem State.onlyAlarms.bank {s t : State} {f : Option Frame} (h : s.onlyAlarms t f) (b : BankId) :
    t.bank b = s.bank b := by
  have kept := congrArg (fun v : State => v.bank b) h.1
  exact kept

theorem State.quenched_tracker (s : State) (ch : ChanId) (b : BankId) :
    ((s.quenched ch b).bank b).tracker = (s.bank b).quenchedTracker := by
  unfold State.quenched
  rw [State.modChan_bank, State.modBank_bank_self]
  rfl

theorem State.alarmUnitOnly.quenched {s t : State} (h : s.alarmUnitOnly t) (ch : ChanId) (b : BankId) :
    (s.quenched ch b).alarmUnitOnly (t.quenched ch b) := by
  obtain ⟨a, m, d, rfl⟩ := h
  exact ⟨a, m, d, rfl⟩

/-- A channel without DARK banks that is above its floor stages down its last bank (05, R92). -/
theorem surplusServed_of {s u : State} {ch : ChanId} (hs : s.atRest) (h : s.alarmUnitOnly u) (hu : u.notesSound)
    (hm : (s.chan ch).mode = .auto) (ha : (s.chan ch).adoption = none) (hd : s.darkCount ch = 0)
    (own : ∀ b ∈ (s.chan ch).startList, (s.bank b).owner = some ch) (hc : s.surplus ch = true) :
    s.surplusServed (endEvent (review ch u)) ch := by
  intro b hb
  have chan := h.chan ch
  have reviewed := review_auto (ch := ch) (s := u) (by rw [chan, hm]) (by rw [chan, ha])
  have surplus : u.surplus ch = true := by
    obtain ⟨_, _, _, rfl⟩ := h
    exact hc
  rw [autoSteps_noDark (by rwa [h.darkCount]), if_pos surplus] at reviewed
  have owner := own b (List.mem_of_getLast? hb)
  have calm := h.modChan ch fun c => { c with pendingUp := 0 }
  have last : ((u.modChan ch fun c => { c with pendingUp := 0 }).chan ch).startList.getLast? = some b := by
    rw [State.modChan_chan_self, chan]
    exact hb
  have down := ((calm.quenched ch b).trans (stageDown_alarmUnitOnly last (by rwa [calm.bank]))).modChan ch
    fun c => { c with upCount := 0, downCount := 0 }
  have base : (((s.modChan ch fun c => { c with pendingUp := 0 }).quenched ch b).modChan ch
      fun c => { c with upCount := 0, downCount := 0 }) =
      (s.quenched ch b).modChan ch fun c => { c with pendingUp := 0, upCount := 0, downCount := 0 } := by
    have moved : (s.modChan ch fun c => { c with pendingUp := 0 }).quenched ch b =
        ((s.modBank b (Bank.quenched s.now)).modChan ch fun c => { c with pendingUp := 0 }).modChan ch
          fun c => { c with startList := c.startList.filter (· ≠ b) } := rfl
    rw [moved, State.quenched, State.modChan_modChan, State.modChan_modChan, State.modChan_modChan]
  rw [base] at down
  have only : ((s.quenched ch b).modChan ch fun c => { c with pendingUp := 0, upCount := 0, downCount := 0 }).onlyAlarms
      (endEvent (review ch u)) := by
    rw [reviewed]
    refine (down.report _ _ _).onlyAlarms (hs.of_eq rfl rfl) (State.notesSound.report ?_ ch.isLt _)
    exact (hu.chan ch _).moves (.zeroCounters (.stageDown .refl ch) ch)
  have tracker : ((endEvent (review ch u)).bank b).tracker = (s.bank b).quenchedTracker := by
    rw [only.bank]
    exact State.quenched_tracker s ch b
  rw [State.stagedDown_eq tracker, tracker]
  exact ⟨only, Bank.quenchedTracker_left _⟩

/-- A channel with requests, no DARK bank and no surplus takes no action, and STAGE_EXHAUSTED holds (05, R91, R92). -/
theorem noAction_of {s u : State} {ch : ChanId} (hs : s.atRest) (h : s.alarmUnitOnly u) (hu : u.notesSound)
    (hm : (s.chan ch).mode = .auto) (ha : (s.chan ch).adoption = none) (hd : s.darkCount ch = 0)
    (hp : 0 < (s.chan ch).pendingUp) (hc : ¬ s.surplus ch = true) :
    s.onlyAlarms (endEvent (review ch u)) ∧
      ((endEvent (review ch u)).alarm .stageExhausted ch.1).cause = true := by
  have chan := h.chan ch
  have reviewed := review_auto (ch := ch) (s := u) (by rw [chan, hm]) (by rw [chan, ha])
  have surplus : ¬ u.surplus ch = true := by
    obtain ⟨_, _, _, rfl⟩ := h
    exact hc
  have dark : u.darkCount ch = 0 := by rwa [h.darkCount]
  rw [autoSteps_noDark dark, if_neg surplus] at reviewed
  rw [reviewed]
  refine ⟨(h.report _ _ _).onlyAlarms hs (hu.report ch.isLt _), ?_⟩
  rw [endEvent_alarm, report_cause]
  simp [State.autoExhausted, (u.noDark_iff ch).mpr dark, chan, hp]

/-- A channel that counts a stage-up request (05, R90). -/
def Channel.requested (c : Channel) : Channel :=
  { c with pendingUp := min 4 (c.pendingUp + 1) }

/-- A stage-up request reaches a channel as `State.requested` says (05, R90). -/
theorem requested_of {s u : State} {ch : ChanId} (hs : s.atRest) (h : s.alarmUnitOnly u) (hu : u.notesSound) :
    s.requested (endEvent (requestStageUp ch u)) ch := by
  intro c v hc hv
  change v = s.modChan ch Channel.requested at hv
  subst hc hv
  have chan := h.chan ch
  have counted := h.modChan ch Channel.requested
  have rest : (s.modChan ch Channel.requested).atRest := hs.of_eq rfl rfl
  have sound := hu.chan ch Channel.requested
  have request : (s.chan ch).mode = .auto ∨ (s.chan ch).mode = .edit ∨
      ((s.chan ch).adoption ≠ none ∧ (s.chan ch).mode ≠ .unarmed) →
      requestStageUp ch u = review ch (u.modChan ch Channel.requested) := by
    intro hc
    unfold requestStageUp
    rw [chan]
    exact if_pos (by simpa only [Option.isSome_iff_ne_none] using hc)
  have own : (s.modChan ch Channel.requested).chan ch = (s.chan ch).requested := State.modChan_chan_self s ch _
  have lit : (s.modChan ch Channel.requested).listLighting ch ↔ s.listLighting ch := by
    unfold State.listLighting
    rw [own]
    rfl
  refine ⟨fun hc => ?_, fun hc => ?_, fun auto window => ⟨fun hd => ?_, fun hd lists => ⟨fun hc => ?_, fun hp hl hb => ?_⟩⟩⟩
  · have discarded : requestStageUp ch u = u := by
      unfold requestStageUp
      rw [chan]
      refine if_neg ?_
      rcases hc with hm | ⟨ha, hm, hm'⟩
      · simp [hm]
      · simp [ha, hm, hm']
    rw [discarded]
    exact h.onlyAlarms hs hu
  · rw [request (by tauto), review_idle (by rw [counted.chan, own]; tauto)]
    exact counted.onlyAlarms rest sound
  · rw [request (.inl auto)]
    exact requestsServed_of rest counted sound (by rw [own]; exact auto) (by rw [own]; exact window)
      (by rw [own]; exact Nat.lt_min.mpr ⟨by decide, Nat.succ_pos _⟩) hd
  · rw [request (.inl auto)]
    exact noAction_of rest counted sound (by rw [own]; exact auto) (by rw [own]; exact window) hd
      (by rw [own]; exact Nat.lt_min.mpr ⟨by decide, Nat.succ_pos _⟩)
      (by
        rw [State.surplus_iff, own, lit]
        rintro ⟨hp, hl, hb⟩
        rcases hc with hc | hc | hc
        · exact absurd hp (Nat.not_le.mpr hc)
        · exact hl hc
        · exact absurd hb (Nat.not_lt.mpr hc))
  · rw [request (.inl auto)]
    refine surplusServed_of rest counted sound (by rw [own]; exact auto) (by rw [own]; exact window) hd ?_ ?_
    · rw [own]
      exact fun b hb => (((lists ch).2 b).mp hb).1
    · rw [State.surplus_iff, own, lit]
      exact ⟨hp, hl, hb⟩

end Sys2Proof.Machine

namespace Sys2Proof.Machine
open Sys2Proof

set_option Elab.async false

/-! ### A point goes STALE (02, R33) -/

/-- A point that keeps its entry serves what it served. -/
theorem State.setPoint_servingPoint {s : State} {p : PointId} {x y : Point} (hx : s.point p = some x)
    (hy : y.cfg = x.cfg) (q : Targets → Bool) : (s.setPoint p (some y)).servingPoint q = s.servingPoint q := by
  unfold State.servingPoint
  congr 1
  funext r
  rw [State.setPoint_point]
  by_cases e : r = p
  · subst e
    simp [hx, hy]
  · simp [e]

theorem exec_freshnessTimerExpiry {s : State} {p : PointId} {x : Point} {d : Nat} (hx : s.point p = some x)
    (ht : x.timer = some d) (hd : d ≤ s.now) : exec (.freshnessTimerExpiry p) s =
      .next (endEvent (tellStale p { x with fresh := false, timer := none }
        (s.setPoint p (some { x with fresh := false, timer := none })))) := by
  have due : s.due x.timer = true := (s.due_iff _).mpr ⟨d, ht, hd⟩
  have ends : freshnessEnds p s = goStale p s := by
    rw [freshnessEnds, hx]
    exact if_pos due
  have stale : goStale p s = tellStale p { x with fresh := false, timer := none }
      (s.setPoint p (some { x with fresh := false, timer := none })) := by
    rw [goStale, hx]
  rw [← stale, ← ends]
  rfl

section Stale

variable {u : State} {p : PointId} {y : Point}

/-! ### A flow point (01, R4; 02, R36) -/

theorem tellStale_flow {ch : ChanId} (h : y.cfg.targets = .flow ch) :
    tellStale p y u = if u.flowPoint ch = some p then flowStale ch u else u := by
  rw [tellStale, h]

theorem flowStale_armed {ch : ChanId} (hm : (u.chan ch).mode ≠ .unarmed) :
    flowStale ch u = judgeFlowStale ch (startFallback ch u) := by
  rw [flowStale, if_pos hm]

theorem flowStale_unarmed {ch : ChanId} (hm : (u.chan ch).mode = .unarmed) :
    flowStale ch u = judgeFlowStale ch u := by
  rw [flowStale, if_neg (not_not_intro hm)]

/-! ### A UVT point (02, R34, R37) -/

/-- The UVT in use of a channel whose FRESH point has gone STALE with this value (02, R34). -/
def Channel.loseUvt (value : Option Nat) (now : Nat) (c : Channel) : Channel :=
  match value with
  | some n => if c.get .uvtHold = 0 then { c with uvtUse := .failsafe, uvtHold := none }
    else { c with uvtUse := .held n, uvtHold := some (now + 1000 * c.get .uvtHold) }
  | none => { c with uvtUse := .failsafe, uvtHold := none }

theorem Channel.loseUvt_uvtUse (value : Option Nat) (now : Nat) (c : Channel) :
    (c.loseUvt value now).uvtUse ≠ .fresh := by
  unfold Channel.loseUvt
  split
  · split <;> simp
  · simp

theorem Channel.loseUvt_mode (value : Option Nat) (now : Nat) (c : Channel) : (c.loseUvt value now).mode = c.mode := by
  unfold Channel.loseUvt
  split
  · split <;> rfl
  · rfl

theorem uvtStale_fresh {ch : ChanId} (value : Option Nat) (h : (u.chan ch).uvtUse = .fresh) :
    uvtStale ch value u = judgeUvtStale ch (u.modChan ch (Channel.loseUvt value u.now)) := by
  unfold uvtStale
  dsimp only
  rw [h]
  cases value with
  | none => rfl
  | some n =>
    dsimp only
    split
    · next hold =>
      exact congrArg (judgeUvtStale ch) (modChan_congr (if_pos hold).symm)
    · next hold =>
      exact congrArg (judgeUvtStale ch) (modChan_congr (if_neg hold).symm)

theorem uvtStale_other {ch : ChanId} (value : Option Nat) (h : (u.chan ch).uvtUse ≠ .fresh) :
    uvtStale ch value u = u := by
  unfold uvtStale
  dsimp only
  split
  · next e => exact absurd e h
  · next e => exact absurd e h
  · rfl
  · rfl

/-- Each listed channel that the point serves FRESH loses it (02, R34). -/
def State.uvtsLost (s : State) (p : PointId) (chs : List ChanId) : State :=
  { s with channels := build fun ch =>
      if ch ∈ chs ∧ s.uvtPoint ch = some p ∧ (s.chan ch).uvtUse = .fresh then
        (s.chan ch).loseUvt (s.pointNum (some p)) s.now
      else s.chan ch }

theorem State.uvtsLost_chan (s : State) (p : PointId) (chs : List ChanId) (ch : ChanId) : (s.uvtsLost p chs).chan ch =
    if ch ∈ chs ∧ s.uvtPoint ch = some p ∧ (s.chan ch).uvtUse = .fresh then
      (s.chan ch).loseUvt (s.pointNum (some p)) s.now
    else s.chan ch :=
  build_get _ ch

/-- One channel is told that its UVT point has gone STALE (02, R33). -/
def tellUvtStale (p : PointId) (ch : ChanId) (s : State) : State :=
  if s.uvtPoint ch = some p then uvtStale ch (s.pointNum (some p)) s else s

theorem tellStale_uvt {chs : List ChanId} (h : y.cfg.targets = .uvt chs) :
    tellStale p y u = forEach chs (tellUvtStale p) u := by
  rw [tellStale, h]
  rfl

theorem tellUvtStale_serves {ch : ChanId} (h : u.uvtPoint ch = some p) (hf : (u.chan ch).uvtUse = .fresh) :
    tellUvtStale p ch u = judgeUvtStale ch (u.modChan ch (Channel.loseUvt (u.pointNum (some p)) u.now)) := by
  rw [tellUvtStale, if_pos h, uvtStale_fresh _ hf]

theorem tellUvtStale_other {ch : ChanId} (h : ¬ (u.uvtPoint ch = some p ∧ (u.chan ch).uvtUse = .fresh)) :
    tellUvtStale p ch u = u := by
  unfold tellUvtStale
  split
  · next hp => exact uvtStale_other _ fun hf => h ⟨hp, hf⟩
  · rfl

theorem tellUvtStale_alarmUnitOnly (ch : ChanId) : (u.uvtsLost p [ch]).alarmUnitOnly (tellUvtStale p ch u) := by
  by_cases h : u.uvtPoint ch = some p ∧ (u.chan ch).uvtUse = .fresh
  · have one : u.uvtsLost p [ch] = u.modChan ch (Channel.loseUvt (u.pointNum (some p)) u.now) := by
      refine congrArg (fun v => { u with channels := v }) (vector_ext_get fun c => ?_)
      refine (u.uvtsLost_chan p [ch] c).trans (.trans ?_ (u.modChan_chan ch c _).symm)
      by_cases e : c = ch
      · subst e
        simp [h]
      · simp [e]
    rw [tellUvtStale_serves h.1 h.2, one]
    exact judgeUvtStale_alarmUnitOnly ch _
  · have none : u.uvtsLost p [ch] = u := by
      refine congrArg (fun v => { u with channels := v }) (vector_ext_get fun c => ?_)
      refine (u.uvtsLost_chan p [ch] c).trans (if_neg ?_)
      rintro ⟨hc, hl⟩
      rw [List.mem_singleton.mp hc] at hl
      exact h hl
    rw [tellUvtStale_other h, none]
    exact .refl u

theorem State.alarmUnitOnly.uvtsLost {s t : State} (h : s.alarmUnitOnly t) (p : PointId) (chs : List ChanId) :
    (s.uvtsLost p chs).alarmUnitOnly (t.uvtsLost p chs) := by
  obtain ⟨a, m, d, rfl⟩ := h
  exact ⟨a, m, d, rfl⟩

/-- A channel that has lost its UVT point is not told again. -/
theorem State.uvtsLost_cons (s : State) (p : PointId) (ch : ChanId) (chs : List ChanId) :
    (s.uvtsLost p [ch]).uvtsLost p chs = s.uvtsLost p (ch :: chs) := by
  refine congrArg (fun v => { s with channels := v }) (vector_ext_get fun c => ?_)
  refine ((s.uvtsLost p [ch]).uvtsLost_chan p chs c).trans (.trans ?_ (s.uvtsLost_chan p (ch :: chs) c).symm)
  have point : (s.uvtsLost p [ch]).uvtPoint c = s.uvtPoint c := State.servingPoint_congr rfl _
  rw [point, State.uvtsLost_chan]
  by_cases e : c = ch
  · subst e
    by_cases h : s.uvtPoint c = some p ∧ (s.chan c).uvtUse = .fresh
    · simp [h, Channel.loseUvt_uvtUse]
    · simp [h]
  · simp [e]
    rfl

theorem tellUvtsStale_alarmUnitOnly (chs : List ChanId) :
    (u.uvtsLost p chs).alarmUnitOnly (forEach chs (tellUvtStale p) u) := by
  induction chs generalizing u with
  | nil =>
    have same : u.uvtsLost p [] = u :=
      congrArg (fun v => { u with channels := v }) (vector_ext_get fun c => (u.uvtsLost_chan p [] c).trans (by simp; rfl))
    rw [same]
    exact .refl u
  | cons ch chs ih =>
    rw [← State.uvtsLost_cons]
    exact ((tellUvtStale_alarmUnitOnly ch).uvtsLost p chs).trans ih

/-- UVT_STALE holds of a channel that has lost its UVT point, unless it is UNARMED (02, R37), and is not judged for any
other channel. -/
theorem tellUvtsStale_alarm (chs : List ChanId) (ch : ChanId) :
    (ch ∈ chs ∧ u.uvtPoint ch = some p ∧ (u.chan ch).uvtUse = .fresh →
      ((forEach chs (tellUvtStale p) u).alarm .uvtStale ch.1).cause = decide ((u.chan ch).mode ≠ .unarmed)) ∧
    (¬ (ch ∈ chs ∧ u.uvtPoint ch = some p ∧ (u.chan ch).uvtUse = .fresh) →
      (forEach chs (tellUvtStale p) u).alarm .uvtStale ch.1 = u.alarm .uvtStale ch.1) := by
  induction chs generalizing u with
  | nil => exact ⟨fun h => absurd h.1 List.not_mem_nil, fun _ => rfl⟩
  | cons c chs ih =>
    rw [forEach_cons]
    have frame := tellUvtStale_alarmUnitOnly (u := u) (p := p) c
    have point : (tellUvtStale p c u).uvtPoint ch = u.uvtPoint ch := State.servingPoint_congr frame.points _
    have chan : (tellUvtStale p c u).chan ch = (u.uvtsLost p [c]).chan ch := frame.chan ch
    rw [State.uvtsLost_chan] at chan
    obtain ⟨told, untold⟩ := ih (u := tellUvtStale p c u)
    rw [point, chan] at told untold
    by_cases e : ch = c
    · subst e
      by_cases h : u.uvtPoint ch = some p ∧ (u.chan ch).uvtUse = .fresh
      · refine ⟨fun _ => ?_, fun hn => absurd ⟨List.mem_cons_self, h⟩ hn⟩
        have lost : ((u.chan ch).loseUvt (u.pointNum (some p)) u.now).uvtUse ≠ .fresh := Channel.loseUvt_uvtUse _ _ _
        rw [untold (by simp [h, lost]), tellUvtStale_serves h.1 h.2, judgeUvtStale, report_cause, State.modChan_chan_self,
          Channel.loseUvt_mode]
        simp [lost]
      · refine ⟨fun hc => absurd hc.2 h, fun _ => ?_⟩
        rw [untold (by simp [h]), tellUvtStale_other h]
    · have alarm : (tellUvtStale p c u).alarm .uvtStale ch.1 = u.alarm .uvtStale ch.1 := by
        by_cases h : u.uvtPoint c = some p ∧ (u.chan c).uvtUse = .fresh
        · rw [tellUvtStale_serves h.1 h.2, judgeUvtStale,
            report_alarm_ne (alarmSlot_inst ch.isLt c.isLt fun hv => e (Fin.ext hv))]
          rfl
        · rw [tellUvtStale_other h]
      rw [alarm] at untold
      simpa [e] using And.intro told untold

theorem tellUvtsStale_notesSound (h : u.notesSound) (chs : List ChanId) :
    (forEach chs (tellUvtStale p) u).notesSound := by
  refine forEach_keeps (P := State.notesSound) (fun ch _ t ht => ?_) h
  by_cases serves : t.uvtPoint ch = some p ∧ (t.chan ch).uvtUse = .fresh
  · rw [tellUvtStale_serves serves.1 serves.2]
    exact (ht.chan ch _).report ch.isLt _
  · rwa [tellUvtStale_other serves]

/-! ### An intensity point (02, R38; 03, R45; 05, R90) -/

theorem tellStale_intensity {b : BankId} (h : y.cfg.targets = .intensity b) :
    tellStale p y u = if u.intensityPoint b = some p then intensityStale b (judgeIntensityStale b u) else u := by
  rw [tellStale, h]

theorem tellStale_wiper {b : BankId} (h : y.cfg.targets = .wiper b) : tellStale p y u = u := by
  rw [tellStale, h]

/-- The bank without its filtered intensity, its condition judged (02, R38; 03, R45). -/
def unseeded (b : BankId) (u : State) : State :=
  unseedBank b (judgeIntensityStale b u)

theorem unseeded_alarmUnitOnly (b : BankId) : (u.modBank b fun x =>
    { x with tracker := { x.tracker with sf := none, sn := none, warm := false } }).alarmUnitOnly (unseeded b u) :=
  (judgeIntensityStale_alarmUnitOnly b u).modBank b _

theorem unseeded_state (b : BankId) : ((unseeded b u).bank b).state = (u.bank b).state := by
  rw [(unseeded_alarmUnitOnly b).bank, State.modBank_bank_self]

theorem unseeded_owner (b : BankId) : ((unseeded b u).bank b).owner = (u.bank b).owner := by
  rw [(unseeded_alarmUnitOnly b).bank, State.modBank_bank_self]

theorem unseeded_notesSound (h : u.notesSound) (b : BankId) : (unseeded b u).notesSound :=
  (h.report b.isLt _).bank b _

theorem intensityStale_run {b : BankId} {ch : ChanId} (hs : (u.bank b).state = .run) (ho : (u.bank b).owner = some ch) :
    intensityStale b (judgeIntensityStale b u) = requestStageUp ch (unseeded b u) := by
  have state := (unseeded_state (u := u) b).trans hs
  have owner := (unseeded_owner (u := u) b).trans ho
  have request : intensityStale b (judgeIntensityStale b u) = requestForBank b (unseeded b u) := if_pos state
  rw [request, requestForBank, owner]

theorem intensityStale_calm {b : BankId} (h : (u.bank b).state ≠ .run ∨ (u.bank b).owner = none) :
    intensityStale b (judgeIntensityStale b u) = unseeded b u := by
  by_cases hs : (u.bank b).state = .run
  · have state := (unseeded_state (u := u) b).trans hs
    have owner := (unseeded_owner (u := u) b).trans (h.resolve_left (not_not_intro hs))
    have request : intensityStale b (judgeIntensityStale b u) = requestForBank b (unseeded b u) := if_pos state
    rw [request, requestForBank, owner]
  · have state : ((unseeded b u).bank b).state ≠ .run := by rwa [unseeded_state]
    exact if_neg state

/-- Reviews keep INTENSITY_STALE of a bank that is not LOCKED as its judgment left it (02, R38; 05, R90). -/
theorem requestStageUp_stages (ch : ChanId) : u.stages ch (requestStageUp ch u) := by
  unfold requestStageUp
  split
  · exact (State.stages.refl.counts).review
  · exact .refl

theorem unseeded_staleJudged {b : BankId} (h : (u.bank b).state ≠ .locked) : (unseeded b u).staleJudged b := by
  have judged := State.staleJudged.judged h
  have bank := (judgeIntensityStale_alarmUnitOnly b u).bank b
  refine judged.of_eq (by rwa [unseeded_state]) ?_ (fun _ => rfl) rfl rfl
  rw [unseeded_owner, bank]

theorem State.bankWatched_congr {s t : State} {b : BankId} (ho : (t.bank b).owner = (s.bank b).owner)
    (hm : ∀ c, (t.chan c).mode = (s.chan c).mode) : t.bankWatched b = s.bankWatched b := by
  simp only [State.bankWatched, ho, hm]

theorem State.stagingOnly.points {s t : State} (h : s.stagingOnly t) : t.points = s.points := by
  obtain ⟨_, _, _, _, _, rfl⟩ := h
  rfl

theorem bankWatched_iff (s : State) (b : BankId) :
    s.bankWatched b = true ↔ ∃ ch, (s.bank b).owner = some ch ∧ (s.chan ch).mode ≠ .unarmed := by
  unfold State.bankWatched
  cases (s.bank b).owner <;> simp

theorem intensityStale_stages (b : BankId) :
    ∃ ch, (unseeded b u).stages ch (intensityStale b (judgeIntensityStale b u)) := by
  by_cases hs : (u.bank b).state = .run
  · cases ho : (u.bank b).owner with
    | some ch => exact ⟨ch, by rw [intensityStale_run hs ho]; exact requestStageUp_stages ch⟩
    | none => exact ⟨0, by rw [intensityStale_calm (.inr ho)]; exact .refl⟩
  · exact ⟨0, by rw [intensityStale_calm (.inl hs)]; exact .refl⟩

/-- INTENSITY_STALE after the bank is told holds of a bank that is watched and not LOCKED (02, R38). -/
theorem intensityStale_alarm {b : BankId} (hf : u.freshPoint (u.intensityPoint b) = false) :
    ((intensityStale b (judgeIntensityStale b u)).alarm .intensityStale b.1).cause = true ↔
      (u.bank b).state ≠ .locked ∧ ∃ ch, (u.bank b).owner = some ch ∧ (u.chan ch).mode ≠ .unarmed := by
  rw [← bankWatched_iff]
  by_cases locked : (u.bank b).state = .locked
  · rw [intensityStale_calm (.inl (by rw [locked]; decide))]
    have cause : ((unseeded b u).alarm .intensityStale b.1).cause =
        ((judgeIntensityStale b u).alarm .intensityStale b.1).cause := rfl
    rw [cause, judgeIntensityStale, report_cause]
    simp [locked]
  · obtain ⟨ch, stages⟩ := intensityStale_stages (u := u) b
    obtain ⟨_, cause⟩ := (unseeded_staleJudged locked).stages stages
    have points : (intensityStale b (judgeIntensityStale b u)).points = u.points :=
      stages.staging.points.trans (unseeded_alarmUnitOnly b).points
    have watched : (intensityStale b (judgeIntensityStale b u)).bankWatched b = u.bankWatched b := by
      have owner := congrArg Bank.Record.owner (stages.moves.record b)
      have mode : ∀ c, ((intensityStale b (judgeIntensityStale b u)).chan c).mode = (u.chan c).mode := fun c =>
        (stages.moves.keeps Channel.mode c).trans (congrArg Channel.mode ((unseeded_alarmUnitOnly b).chan c))
      have own := owner.trans (unseeded_owner b)
      exact State.bankWatched_congr (owner.trans (unseeded_owner b)) mode
    have point : (intensityStale b (judgeIntensityStale b u)).intensityPoint b = u.intensityPoint b :=
      State.servingPoint_congr points _
    rw [cause, watched, point, State.freshPoint_congr points, hf]
    simp [locked]

end Stale

theorem State.pointNum_eq {s : State} {p : PointId} {x : Point} (h : s.point p = some x) :
    s.pointNum (some p) = match x.value with
      | some (.num n) => some n
      | _ => none := by
  rw [State.pointNum, h] <;> rfl

/-- Settles O54: each consumer is told by its role, and every end but a staging review moves the alarm unit alone. -/
theorem freshnessAndHoldTimersEnd : Obligations.FreshnessAndHoldTimersEnd := by
  refine ⟨fun p x d s u hs hx ht hd hu => ?_, fun ch d s hs ht hd => ?_⟩
  · have ends := exec_freshnessTimerExpiry hx ht hd
    obtain ⟨y, hy⟩ : ∃ y : Point, y = { x with fresh := false, timer := none } := ⟨_, rfl⟩
    rw [← hy] at hu ends
    rw [← hu] at ends
    have cfg : y.cfg = x.cfg := by rw [hy]
    have value : y.value = x.value := by rw [hy]
    have rest : u.atRest := by
      rw [hu]
      exact hs.of_eq rfl rfl
    have serving : ∀ q, u.servingPoint q = s.servingPoint q := fun q => by
      rw [hu]
      exact State.setPoint_servingPoint hx cfg q
    have point : u.point p = some y := by
      rw [hu]
      exact State.setPoint_point_self s p _
    have stale : u.freshPoint (some p) = false := by
      rw [State.freshPoint_some point, hy]
    have chan : ∀ ch, u.chan ch = s.chan ch := fun ch => by rw [hu]; rfl
    have bank : ∀ b, u.bank b = s.bank b := fun b => by rw [hu]; rfl
    have now : u.now = s.now := by rw [hu]; rfl
    rw [← cfg, ← value]
    refine ⟨fun b hb => ?_, fun ch hc => ⟨fun other => ?_, fun serves armed => ?_, fun serves unarmed => ?_⟩,
      fun chs hc => ?_, fun b hb => ⟨fun other => ?_, fun serves => ?_⟩⟩
    · rw [ends, tellStale_wiper hb, endEvent_atRest rest]
    · rw [ends, tellStale_flow hc, if_neg (by rwa [State.flowPoint, serving]), endEvent_atRest rest]
    · have told : tellStale p y u = judgeFlowStale ch (startFallback ch u) := by
        rw [tellStale_flow hc, if_pos (by rwa [State.flowPoint, serving]), flowStale_armed (by rwa [chan])]
      rw [ends, told]
      refine ⟨_, rfl, ?_, ?_⟩
      · have served : (startFallback ch u).flowPoint ch = some p := (serving _).trans serves
        have mode : ((startFallback ch u).chan ch).mode = (s.chan ch).mode := by
          rw [startFallback, State.modChan_chan_self, chan]
          rfl
        rw [endEvent_alarm, judgeFlowStale, report_cause, served, mode,
          State.freshPoint_congr (s := u) (t := startFallback ch u) rfl, stale]
        simp [armed]
      · rw [← now]
        exact (judgeFlowStale_alarmUnitOnly ch (startFallback ch u)).onlyAlarms (rest.of_eq rfl rfl)
          (((State.notesSound.atRest rest).chan ch _).report ch.isLt _)
    · have told : tellStale p y u = judgeFlowStale ch u := by
        rw [tellStale_flow hc, if_pos (by rwa [State.flowPoint, serving]), flowStale_unarmed (by rwa [chan])]
      rw [ends, told]
      refine ⟨_, rfl, ?_, ?_⟩
      · rw [endEvent_alarm, judgeFlowStale, report_cause, chan, unarmed]
        rfl
      · exact (judgeFlowStale_alarmUnitOnly ch u).onlyAlarms rest ((State.notesSound.atRest rest).report ch.isLt _)
    · rw [ends, tellStale_uvt hc]
      refine ⟨_, rfl, ?_, fun ch => ?_⟩
      · have only := (tellUvtsStale_alarmUnitOnly (u := u) (p := p) chs).onlyAlarms (rest.of_eq rfl rfl)
          (tellUvtsStale_notesSound (State.notesSound.atRest rest) chs)
        refine (congrArg (fun v : State => v.onlyAlarms _) ?_).mpr only
        refine congrArg (fun v => { u with channels := v }) (congrArg build (funext fun ch => ?_))
        have uvt : u.uvtPoint ch = s.uvtPoint ch := serving _
        rw [chan, uvt, State.pointNum_eq point, now]
        refine if_congr Iff.rfl ?_ rfl
        unfold Channel.loseUvt
        rcases y.value with _ | (n | w) <;> rfl
      · rw [endEvent_alarm]
        obtain ⟨told, untold⟩ := tellUvtsStale_alarm (u := u) (p := p) chs ch
        rw [State.uvtPoint, serving, chan] at told untold
        refine ⟨fun h => by rw [told h, decide_eq_true_eq], fun h => (untold h).trans ?_⟩
        rw [hu]
        rfl
    · rw [ends, tellStale_intensity hb, if_neg (by rwa [State.intensityPoint, serving]),
        endEvent_atRest rest]
    · rw [ends, tellStale_intensity hb, if_pos (by rwa [State.intensityPoint, serving])]
      have served : u.intensityPoint b = some p := (serving _).trans serves
      refine ⟨_, rfl, ?_, ?_⟩
      · rw [endEvent_alarm, intensityStale_alarm (by rw [served, stale]), bank]
        simp only [chan]
      · rintro v rfl
        have lost := unseeded_alarmUnitOnly (u := u) b
        refine ⟨fun calm => ?_, fun run ch owner => ?_⟩
        · rw [intensityStale_calm (by rwa [bank])]
          exact lost.onlyAlarms (rest.of_eq rfl rfl) (unseeded_notesSound (.atRest rest) b)
        · rw [intensityStale_run (by rwa [bank]) (by rwa [bank])]
          exact requested_of (rest.of_eq rfl rfl) lost (unseeded_notesSound (.atRest rest) b)
  · have due : s.due (s.chan ch).uvtHold = true := (s.due_iff _).mpr ⟨d, ht, hd⟩
    have ends : exec (.uvtHoldTimerExpiry ch) s = .next (endEvent (uvtFailsafe ch s)) := by
      rw [← show uvtHoldEnds ch s = uvtFailsafe ch s from if_pos due]
      rfl
    have only := (judgeUvtStale_alarmUnitOnly ch (s.modChan ch fun c =>
      { c with uvtUse := .failsafe, uvtHold := none })).onlyAlarms (hs.of_eq rfl rfl)
        (((State.notesSound.atRest hs).chan ch _).report ch.isLt _)
    refine ⟨_, ends, only, ?_⟩
    rw [endEvent_alarm, uvtFailsafe, setUvt, judgeUvtStale, report_cause, State.modChan_chan_self]
    simp

end Sys2Proof.Machine

namespace Sys2Proof.Machine
open Sys2Proof

set_option Elab.async false

/-! ### Commands that try the south queue at the end of an event (08, R144) -/

/-- `t` is `s` but for commands that have entered the south queue. -/
def State.sendsSouth (s t : State) : Prop :=
  ∃ made x b, s.areCommands made ∧ t = { s with
    south := { s.south with queue := s.south.queue ++ made }, lamps := x, banks := b }

namespace State.sendsSouth

variable {s t u : State}

theorem refl (s : State) : s.sendsSouth s :=
  ⟨[], s.lamps, s.banks, by simp [State.areCommands], by simp⟩

theorem trans (h : s.sendsSouth t) (g : t.sendsSouth u) : s.sendsSouth u := by
  obtain ⟨m, _, _, hm, rfl⟩ := h
  obtain ⟨n, x, b, hn, rfl⟩ := g
  refine ⟨m ++ n, x, b, fun q hq => ?_, by simp⟩
  rcases List.mem_append.mp hq with hq | hq
  · exact hm q hq
  · exact hn q hq

/-- A full south queue stays full. -/
theorem southFull (h : s.sendsSouth t) (hs : s.southFull) : t.southFull := by
  obtain ⟨m, _, _, _, rfl⟩ := h
  rcases hs with hs | hs | hs
  · exact .inl hs
  · refine .inr (.inl ?_)
    simp only [List.length_append]
    omega
  · refine .inr (.inr ?_)
    unfold PortState.ownCount at hs ⊢
    rw [List.countP_append]
    omega

theorem sent_then (g : t.sendsSouth u) {f : Frame} (h : s.sentSouth t f) : s.sentSouth u f := by
  obtain ⟨n, _, _, _, rfl⟩ := g
  obtain ⟨hr, m, hq, hf⟩ := h
  exact ⟨hr, m ++ n, by simp [hq], List.mem_append_left n hf⟩

theorem then_sent (h : s.sendsSouth t) {f : Frame} (g : t.sentSouth u f) : s.sentSouth u f := by
  obtain ⟨m, _, _, _, rfl⟩ := h
  obtain ⟨hr, n, hq, hf⟩ := g
  exact ⟨hr, m ++ n, by simp [hq], List.mem_append_right m hf⟩

theorem ownFrame (h : s.sendsSouth t) (station : Nat) (k : Byte) (payload : List Byte) :
    t.ownFrame station k payload = s.ownFrame station k payload := by
  obtain ⟨_, _, _, _, rfl⟩ := h
  rfl

end State.sendsSouth

/-- The slot of a lamp keeps its command for want of room, or has sent it (08, R144). -/
def State.slotTried (s t : State) (tried : Prop) (k : LampId) : Prop :=
  (t.lamp k = s.lamp k ∧ (tried → ∀ y, s.lamp k = some y → y.cmd ≠ none → t.southFull)) ∨
    ∃ y c, s.lamp k = some y ∧ y.cmd = some c ∧ t.lamp k = some { y with cmd := none } ∧
      s.sentSouth t (s.ownFrame y.station 0x03 c.payload) ∧ tried

/-- `t` is `s` after the commands of the slots listed have tried direct entry. -/
structure State.Flushed (s t : State) (l : List SlotId) : Prop where
  sends : s.sendsSouth t
  lamp  : ∀ k, s.slotTried t (lampPos k ∈ l) k
  bank  : ∀ b, t.bank b = s.bank b ∨ t.bank b = { s.bank b with wiperSlot := none }

theorem slotOwner_inl {pos : SlotId} {l : LampId} (h : slotOwner pos = .inl l) : pos = lampPos l := by
  unfold slotOwner at h
  split at h
  · obtain rfl := Sum.inl.inj h
    rfl
  · cases h

theorem slotOwner_lampPos (l : LampId) : slotOwner (lampPos l) = .inl l := by
  unfold slotOwner
  exact dif_pos l.isLt

theorem lampPos_injective {k l : LampId} (h : lampPos k = lampPos l) : k = l :=
  Fin.ext (congrArg (fun p : SlotId => p.1) h)

theorem southFull_of_closed {s : State} (h : ¬ s.directEntry .south = true) : s.southFull := by
  unfold State.directEntry at h
  rw [Bool.and_eq_true, Bool.not_eq_true', PortState.ownRoom_iff] at h
  by_cases hr : s.repeater = true
  · exact .inl hr
  · have room : ¬ (s.south.queue.length < 16 ∧ s.south.ownCount < 8) := fun g => h ⟨Bool.eq_false_iff.mpr hr, g⟩
    unfold State.southFull
    omega

theorem State.directEntry_repeater {s : State} {p : Port} (h : s.directEntry p = true) : s.repeater = false := by
  unfold State.directEntry at h
  simp only [Bool.and_eq_true, Bool.not_eq_true'] at h
  exact h.1

namespace State.Flushed

variable {s t u : State}

/-- A state whose slots stay as they are. -/
theorem stays {l : List SlotId} (h : ∀ k y, lampPos k ∈ l → s.lamp k = some y → y.cmd ≠ none → s.southFull) :
    s.Flushed s l where
  sends := .refl s
  lamp k := .inl ⟨rfl, fun hk y hy hc => h k y hk hy hc⟩
  bank _ := .inl rfl

theorem lamp_sent {l : LampId} {y : Lamp} {c : LampCmd} (hr : s.repeater = false) (hy : s.lamp l = some y)
    (hc : y.cmd = some c) : s.Flushed ((pushFrame .south ⟨s.ownFrame y.station 0x03 c.payload, true, false⟩ s).modLamp l
      fun x => { x with cmd := none }) [lampPos l] where
  sends := ⟨[_], _, s.banks, fun q hq => ⟨y.station, .inl ⟨c, List.mem_singleton.mp hq⟩⟩, rfl⟩
  lamp k := by
    by_cases e : k = l
    · subst e
      refine .inr ⟨y, c, hy, hc, ?_, ⟨hr, [_], rfl, List.mem_singleton_self _⟩, List.mem_singleton_self _⟩
      rw [State.modLamp_lamp, if_pos rfl]
      exact congrArg (Option.map _) hy
    · refine .inl ⟨?_, fun hk => absurd (lampPos_injective (List.mem_singleton.mp hk)) e⟩
      rw [State.modLamp_lamp, if_neg e]
      rfl
  bank _ := .inl rfl

theorem wiper_sent {pos : SlotId} {b : BankId} (station : Nat) (hp : slotOwner pos = .inr b) :
    s.Flushed ((pushFrame .south ⟨s.ownFrame station 0x04 [1], true, false⟩ s).modBank b
      fun x => { x with wiperSlot := none }) [pos] where
  sends := ⟨[_], s.lamps, _, fun q hq => ⟨station, .inr (List.mem_singleton.mp hq)⟩, rfl⟩
  lamp k := by
    refine .inl ⟨rfl, fun hk => ?_⟩
    rw [← List.mem_singleton.mp hk, slotOwner_lampPos] at hp
    cases hp
  bank c := by
    rw [State.modBank_bank]
    by_cases e : c = b
    · subst e
      exact .inr (if_pos rfl)
    · exact .inl (if_neg e)

theorem tryDirect (pos : SlotId) (s : State) : s.Flushed (tryDirect pos s) [pos] := by
  unfold Machine.tryDirect
  split
  · next open' =>
    have normal := State.directEntry_repeater open'
    unfold enterSouth State.slotFrame clearSlot
    cases owner : slotOwner pos with
    | inl l =>
      obtain rfl := slotOwner_inl owner
      dsimp only
      cases hy : s.lamp l with
      | none =>
        refine stays fun k y hk hy' _ => ?_
        rw [lampPos_injective (List.mem_singleton.mp hk), hy] at hy'
        cases hy'
      | some y =>
        dsimp only
        cases hc : y.cmd with
        | none =>
          refine stays fun k z hk hz hc' => ?_
          rw [lampPos_injective (List.mem_singleton.mp hk), hy] at hz
          obtain rfl := Option.some.inj hz
          exact absurd hc hc'
        | some c => exact lamp_sent normal hy hc
    | inr b =>
      dsimp only
      cases slot : (s.bank b).wiperSlot with
      | none =>
        refine stays fun k y hk _ _ => ?_
        rw [← List.mem_singleton.mp hk, slotOwner_lampPos] at owner
        cases owner
      | some station => exact wiper_sent station owner
  · next closed => exact stays fun _ _ _ _ _ => southFull_of_closed closed

theorem trans {l m : List SlotId} (h : s.Flushed t l) (g : t.Flushed u m) : s.Flushed u (l ++ m) where
  sends := h.sends.trans g.sends
  lamp k := by
    rcases h.lamp k with ⟨e, full⟩ | ⟨y, c, hy, hc, ht, sent, tried⟩
    · rcases g.lamp k with ⟨e', full'⟩ | ⟨y, c, hy, hc, ht, sent, tried⟩
      · refine .inl ⟨e'.trans e, fun hk y hy hc => ?_⟩
        rcases List.mem_append.mp hk with hk | hk
        · exact g.sends.southFull (full hk y hy hc)
        · exact full' hk y (e.trans hy) hc
      · rw [h.sends.ownFrame] at sent
        exact .inr ⟨y, c, e.symm.trans hy, hc, ht, h.sends.then_sent sent, List.mem_append_right l tried⟩
    · rcases g.lamp k with ⟨e', _⟩ | ⟨z, d, hz, hd, _⟩
      · exact .inr ⟨y, c, hy, hc, e'.trans ht, g.sends.sent_then sent, List.mem_append_left m tried⟩
      · rw [ht] at hz
        obtain rfl := Option.some.inj hz
        cases hd
  bank b := by
    rcases h.bank b with hb | hb <;> rcases g.bank b with gb | gb <;> rw [hb] at gb
    · exact .inl gb
    · exact .inr gb
    · exact .inr gb
    · exact .inr gb

theorem forEach (l : List SlotId) (s : State) : s.Flushed (forEach l Machine.tryDirect s) l := by
  induction l generalizing s with
  | nil => exact stays fun _ _ h => absurd h List.not_mem_nil
  | cons p l ih => exact (tryDirect p s).trans (ih _)

end State.Flushed

/-! ### The end of an event that made commands (08, R144; 10, R175) -/

/-- `t` is the state at the end of the event that led to `s`. -/
structure State.Ends (s t : State) : Prop where
  frame : ({ s with alertsDue := [], slotsMade := [] } : State).framesOnly t
  north : ∃ made, s.areAlerts made ∧ t.north.queue = s.north.queue ++ made
  south : ∃ made, s.areCommands made ∧ t.south.queue = s.south.queue ++ made
  lamp  : ∀ k, s.slotTried t (lampPos k ∈ s.slotsMade) k
  bank  : ∀ b, t.bank b = s.bank b ∨ t.bank b = { s.bank b with wiperSlot := none }
  still : s.slotsMade = [] → t.lamps = s.lamps ∧ t.south = s.south

theorem endEvent_ends {s : State} (h : s.notesSound) : s.Ends (endEvent s) := by
  obtain ⟨made, slot, alerts, e⟩ := State.gainsAlerts.flushAlerts h
  have slots : (flushAlerts s).slotsMade = s.slotsMade := by rw [e]
  have flushed := State.Flushed.forEach s.slotsMade { flushAlerts s with slotsMade := [] }
  rw [e] at flushed
  have ends : endEvent s = forEach s.slotsMade tryDirect { flushAlerts s with slotsMade := [] } := by
    rw [endEvent, flushSlots, slots]
  rw [e] at ends
  obtain ⟨cmds, x, b, commands, sent⟩ := flushed.sends
  refine ⟨endEvent_framesOnly s, ⟨made, alerts, ?_⟩, ⟨cmds, commands, ?_⟩, ?_, ?_, ?_⟩
  · rw [ends, sent]
  · rw [ends, sent]
  · rw [ends]
    exact flushed.lamp
  · rw [ends]
    exact flushed.bank
  · intro none
    rw [ends, none]
    exact ⟨rfl, rfl⟩

end Sys2Proof.Machine

namespace Sys2Proof.Machine
open Sys2Proof

set_option Elab.async false

/-! ### The volume of a pass (01, R14 to R17) -/

/-- What a pass that counts `v` millilitres makes of its channel (01, R15 to R17; 10, R179). -/
def Channel.counted (v : Nat) (offSpec : Bool) (now : Nat) (c : Channel) : Channel :=
  let d := c.setAcct fun a => { a.addTotal v with lastPass := some now }
  if offSpec then (d.setAcct fun a => a.addOff v).accrued ((c.acct.offMl + v) / 1000) now else d

theorem volumeStage_eq (ch : ChanId) (qm : Nat) (offSpec : Bool) (s : State) :
    volumeStage ch qm offSpec s = s.modChan ch (Channel.counted (qm * s.elapsed ch) offSpec s.now) := by
  unfold volumeStage
  cases offSpec with
  | false => rfl
  | true =>
    dsimp only
    rw [if_pos rfl, accrue_eq, State.modChan_modChan, State.modChan_modChan]
    exact modChan_congr rfl

/-- What the volume stage moves of a channel: its counts, its pulse remainder and backlog, and its pulse line. -/
structure Channel.Volumes where
  totalL     : Nat
  totalMl    : Nat
  offL       : Nat
  offMl      : Nat
  pulseRem   : Nat
  backlog    : Nat
  pulsePhase : PulsePhase
  pulseTimer : Timer

def Channel.volumes (c : Channel) : Channel.Volumes :=
  ⟨c.acct.totalL, c.acct.totalMl, c.acct.offL, c.acct.offMl, c.acct.pulseRem, c.acct.backlog, c.pulsePhase, c.pulseTimer⟩

/-- The pulse remainder and the backlog after a pass that counts `v` off-spec millilitres (01, R17). -/
def Channel.pulsed (v : Nat) (c : Channel) : Accounting :=
  { (((c.acct.addTotal v).addOff v)) with
    pulseRem := c.acct.pulseRem + (c.acct.offMl + v) / 1000 }.toBacklog (c.get .pulseVolume)

theorem Channel.counted_volumes (v now : Nat) (c : Channel) : (c.counted v true now).volumes =
    if c.acct.backlog = 0 ∧ 0 < (c.pulsed v).backlog ∧ c.pulsePhase = .idle then
      ⟨(c.pulsed v).totalL, (c.pulsed v).totalMl, (c.pulsed v).offL, (c.pulsed v).offMl, (c.pulsed v).pulseRem,
        (c.pulsed v).backlog - 1, .high, some (now + c.get .pulseWidth)⟩
    else ⟨(c.pulsed v).totalL, (c.pulsed v).totalMl, (c.pulsed v).offL, (c.pulsed v).offMl, (c.pulsed v).pulseRem,
        (c.pulsed v).backlog, c.pulsePhase, c.pulseTimer⟩ := by
  by_cases h : c.acct.backlog = 0 ∧ 0 < (c.pulsed v).backlog ∧ c.pulsePhase = .idle
  · exact (congrArg Channel.volumes (if_pos h)).trans (if_pos h).symm
  · exact (congrArg Channel.volumes (if_neg h)).trans (if_neg h).symm

/-- A channel with the volumes of the volume stage has counted as `State.volumeCounted` says. -/
theorem volumeCounted_of {s t : State} {ch : ChanId} {v : Nat} {offSpec : Bool}
    (h : (t.chan ch).volumes = ((s.chan ch).counted v offSpec s.now).volumes) : s.volumeCounted t ch v offSpec := by
  unfold State.volumeCounted
  cases offSpec with
  | false =>
    simp only [Channel.volumes, Channel.Volumes.mk.injEq] at h
    exact h
  | true =>
    rw [Channel.counted_volumes] at h
    dsimp only
    rw [if_pos rfl]
    split at h
    · next started =>
      simp only [Channel.volumes, Channel.Volumes.mk.injEq] at h
      obtain ⟨hl, hm, ol, om, rem, line⟩ := h
      exact ⟨hl, hm, ol, om, rem, (if_pos started).mpr line⟩
    · next idle =>
      simp only [Channel.volumes, Channel.Volumes.mk.injEq] at h
      obtain ⟨hl, hm, ol, om, rem, line⟩ := h
      exact ⟨hl, hm, ol, om, rem, (if_neg idle).mpr line⟩

/-! ### The code change (04, R69; 03, R47) -/

theorem mem_insertSlot {p q : SlotId} {l : List SlotId} : p ∈ insertSlot q l ↔ p = q ∨ p ∈ l := by
  induction l with
  | nil => simp [insertSlot]
  | cons x l ih =>
    unfold insertSlot
    split
    · simp
    · split
      · next e => simp [e]
      · simp [ih, or_left_comm]

/-- The settle timer of a bank restarted at the instant `now` (03, R47). -/
def Bank.resettled (now : Nat) (x : Bank) : Bank :=
  x.setTracker fun t => { t with settleTimer := if x.get .settleTime = 0 then none else some (now + x.get .settleTime) }

theorem forEach_restartSettle (l : List BankId) (s : State) :
    forEach l restartSettle s = forEach l (fun b t => t.modBank b (Bank.resettled s.now)) s := by
  induction l generalizing s with
  | nil => rfl
  | cons b l ih => exact ih (restartSettle b s)

/-- A code change reaches the lamp: it is LIT, or has a STRIKE waiting, and its bank is lit (04, R69). -/
def State.codeReaches (s : State) (x : Lamp) : Bool :=
  (s.bank x.bank).state.takesSet && x.takesSet

/-- A lamp whose slot has taken a new code (07, R131). -/
def Lamp.coded (code : Nat) (x : Lamp) : Lamp :=
  { x with cmd := some (mergeCmd x.cmd (.set code)) }

/-- A code change has reached the lamps that `reaches` holds of: they have it in their slots, and the slots that were
empty are noted. -/
structure State.CodedAt (s t : State) (code : Nat) (reaches : LampId → Lamp → Prop) : Prop where
  lamp  : ∀ k x, s.lamp k = some x → (reaches k x → t.lamp k = some (x.coded code)) ∧ (¬ reaches k x → t.lamp k = some x)
  empty : ∀ k, s.lamp k = none → t.lamp k = none
  slots : ∀ k, lampPos k ∈ t.slotsMade ↔
    lampPos k ∈ s.slotsMade ∨ ∃ x, s.lamp k = some x ∧ reaches k x ∧ x.cmd = none

theorem State.CodedAt.none {s : State} {code : Nat} {reaches : LampId → Lamp → Prop}
    (h : ∀ k x, s.lamp k = some x → ¬ reaches k x) : s.CodedAt s code reaches where
  lamp k x hx := ⟨fun hr => absurd hr (h k x hx), fun _ => hx⟩
  empty _ hk := hk
  slots k := ⟨.inl, fun hk => hk.resolve_right fun ⟨x, hx, hr, _⟩ => h k x hx hr⟩

theorem placeLamp_codedAt {code : Nat} {l : LampId} {s : State} {x : Lamp} (hx : s.lamp l = some x)
    (hr : s.codeReaches x = true) :
    s.CodedAt (placeLamp l (.set code) s) code fun k y => k = l ∧ s.codeReaches y = true := by
  have placed : placeLamp l (.set code) s = { s.modLamp l (Lamp.coded code) with
      slotsMade := if x.cmd = .none then insertSlot (lampPos l) s.slotsMade else s.slotsMade } := by
    unfold placeLamp
    rw [hx]
    dsimp only
    split <;> rfl
  have lamps : ∀ k, (placeLamp l (.set code) s).lamp k = if k = l then some (x.coded code) else s.lamp k := by
    intro k
    rw [placed]
    refine (s.modLamp_lamp l k (Lamp.coded code)).trans ?_
    rw [hx]
    rfl
  refine ⟨fun k y hy => ⟨fun hk => ?_, fun hk => ?_⟩, fun k hk => ?_, fun k => ?_⟩
  · rw [lamps, if_pos hk.1]
    rw [hk.1, hx] at hy
    rw [Option.some.inj hy]
  · rw [lamps, if_neg, hy]
    rintro rfl
    rw [hx] at hy
    exact hk ⟨rfl, Option.some.inj hy ▸ hr⟩
  · rw [lamps, if_neg, hk]
    rintro rfl
    rw [hx] at hk
    cases hk
  · rw [placed]
    dsimp only
    constructor
    · intro hk
      split at hk
      · next empty =>
        rcases mem_insertSlot.mp hk with e | hk
        · obtain rfl := lampPos_injective e
          exact .inr ⟨x, hx, ⟨rfl, hr⟩, empty⟩
        · exact .inl hk
      · exact .inl hk
    · rintro (hk | ⟨y, hy, ⟨rfl, _⟩, empty⟩)
      · split
        · exact mem_insertSlot.mpr (.inr hk)
        · exact hk
      · rw [hx] at hy
        rw [if_pos (Option.some.inj hy ▸ empty)]
        exact mem_insertSlot.mpr (.inl rfl)

theorem setLampCode_codedAt (code : Nat) (l : LampId) (s : State) :
    s.CodedAt (setLampCode code l s) code fun k x => k = l ∧ s.codeReaches x = true := by
  unfold setLampCode
  cases hx : s.lamp l with
  | none =>
    refine .none fun k y hy hk => ?_
    rw [hk.1, hx] at hy
    cases hy
  | some x =>
    dsimp only
    split
    · next hr => exact placeLamp_codedAt hx hr
    · next hr =>
      refine .none fun k y hy hk => ?_
      rw [hk.1, hx] at hy
      exact hr (Option.some.inj hy ▸ hk.2)

/-- `t` is `s` but for lamps and the notes of slots filled. -/
def State.lampsOnly (s t : State) : Prop :=
  ∃ x m, t = { s with lamps := x, slotsMade := m }

theorem State.lampsOnly.refl (s : State) : s.lampsOnly s := ⟨_, _, rfl⟩

theorem State.lampsOnly.trans {s t u : State} (h : s.lampsOnly t) (g : t.lampsOnly u) : s.lampsOnly u := by
  obtain ⟨_, _, rfl⟩ := h
  obtain ⟨x, m, rfl⟩ := g
  exact ⟨x, m, rfl⟩

theorem setLampCode_lampsOnly (code : Nat) (l : LampId) (s : State) : s.lampsOnly (setLampCode code l s) := by
  unfold setLampCode placeLamp
  cases hx : s.lamp l with
  | none => exact ⟨_, _, rfl⟩
  | some x =>
    dsimp only
    split
    · split <;> exact ⟨_, _, rfl⟩
    · exact ⟨_, _, rfl⟩

theorem setLampCodes_lampsOnly (code : Nat) (l : List LampId) (s : State) :
    s.lampsOnly (forEach l (setLampCode code) s) :=
  forEach_relates State.lampsOnly.refl State.lampsOnly.trans (fun k _ t => setLampCode_lampsOnly code k t) s

theorem setLampCodes_codedAt (code : Nat) {l : List LampId} (h : l.Nodup) (s : State) :
    s.CodedAt (forEach l (setLampCode code) s) code fun k x => k ∈ l ∧ s.codeReaches x = true := by
  induction l generalizing s with
  | nil => exact .none fun _ _ _ hk => List.not_mem_nil hk.1
  | cons l rest ih =>
    obtain ⟨hl, hrest⟩ := List.nodup_cons.mp h
    have one := setLampCode_codedAt code l s
    have more := ih hrest (setLampCode code l s)
    have reach : ∀ x, (setLampCode code l s).codeReaches x = s.codeReaches x := by
      obtain ⟨_, _, e⟩ := setLampCode_lampsOnly code l s
      rw [e]
      exact fun _ => rfl
    simp only [reach] at more
    rw [forEach_cons]
    refine ⟨fun k x hx => ⟨?_, ?_⟩, fun k hk => more.empty k (one.empty k hk), fun k => ?_⟩
    · rintro ⟨hk, hr⟩
      rcases List.mem_cons.mp hk with rfl | hk
      · exact (more.lamp k _ ((one.lamp k x hx).1 ⟨rfl, hr⟩)).2 fun hk => hl hk.1
      · have ne : k ≠ l := fun e => hl (e ▸ hk)
        exact (more.lamp k x ((one.lamp k x hx).2 fun h => ne h.1)).1 ⟨hk, hr⟩
    · intro hk
      have kept := (one.lamp k x hx).2 fun h => hk ⟨h.1 ▸ List.mem_cons_self, h.2⟩
      exact (more.lamp k x kept).2 fun h => hk ⟨List.mem_cons_of_mem l h.1, h.2⟩
    · rw [more.slots, one.slots]
      constructor
      · rintro ((hk | ⟨x, hx, ⟨rfl, hr⟩, empty⟩) | ⟨x, hx, ⟨hk, hr⟩, empty⟩)
        · exact .inl hk
        · exact .inr ⟨x, hx, ⟨List.mem_cons_self, hr⟩, empty⟩
        · have ne : k ≠ l := fun e => hl (e ▸ hk)
          cases hy : s.lamp k with
          | none =>
            rw [one.empty k hy] at hx
            cases hx
          | some y =>
            rw [(one.lamp k y hy).2 fun h => ne h.1] at hx
            obtain rfl := Option.some.inj hx
            exact .inr ⟨y, rfl, ⟨List.mem_cons_of_mem l hk, hr⟩, empty⟩
      · rintro (hk | ⟨x, hx, ⟨hk, hr⟩, empty⟩)
        · exact .inl (.inl hk)
        · rcases List.mem_cons.mp hk with rfl | hk
          · exact .inl (.inr ⟨x, hx, ⟨rfl, hr⟩, empty⟩)
          · have ne : k ≠ l := fun e => hl (e ▸ hk)
            exact .inr ⟨x, (one.lamp k x hx).2 fun h => ne h.1, ⟨hk, hr⟩, empty⟩

/-- The code change reaches the lamps of the channel's lit banks that are LIT or have a STRIKE waiting (04, R69). -/
def State.takesCode (s : State) (ch : ChanId) (x : Lamp) : Prop :=
  (s.bank x.bank).owner = some ch ∧ s.codeReaches x = true

/-- `t` is `s` with the channel updated by `f` and, where `changed` says so, a code change made (04, R67, R69). -/
structure State.Recoded (s t : State) (ch : ChanId) (f : Channel → Channel) (changed : Prop) (code : Nat) : Prop where
  event : s.eventOnly t
  alarms : t.alarms = s.alarms
  chan  : t.chan ch = f (s.chan ch)
  other : ∀ d, d ≠ ch → t.chan d = s.chan d
  bank  : ∀ b, (changed ∧ (s.bank b).owner = some ch → t.bank b = (s.bank b).resettled s.now) ∧
    (¬ (changed ∧ (s.bank b).owner = some ch) → t.bank b = s.bank b)
  coded : s.CodedAt t code fun _ x => changed ∧ s.takesCode ch x
  still : ¬ changed → t.lamps = s.lamps ∧ t.slotsMade = s.slotsMade

/-- A channel that takes a new ballast code (04, R69). -/
def Channel.coded (code : Nat) (c : Channel) : Channel :=
  c.setPower fun p => { p with code := code, applied := p.pd }

theorem changeCode_recoded (ch : ChanId) (code : Nat) (s : State) :
    s.Recoded (changeCode ch code s) ch (Channel.coded code) True code := by
  have coded := setLampCodes_codedAt code ((s.modChan ch (Channel.coded code)).channelLamps_nodup ch)
    (s.modChan ch (Channel.coded code))
  have frame := setLampCodes_lampsOnly code ((s.modChan ch (Channel.coded code)).channelLamps ch)
    (s.modChan ch (Channel.coded code))
  obtain ⟨u, hu⟩ : ∃ u, u = forEach ((s.modChan ch (Channel.coded code)).channelLamps ch) (setLampCode code)
      (s.modChan ch (Channel.coded code)) := ⟨_, rfl⟩
  rw [← hu] at coded frame
  have owned : u.ownedBanks ch = (s.modChan ch (Channel.coded code)).ownedBanks ch := by
    obtain ⟨_, _, rfl⟩ := frame
    rfl
  have changed : changeCode ch code s = { u with
      banks := build fun b => if (u.bank b).owner = some ch then (u.bank b).resettled u.now else u.bank b } := by
    rw [← forEach_ownedBanks, ← forEach_restartSettle, owned, hu]
    rfl
  have reach : ∀ k x, s.lamp k = some x → ((k ∈ (s.modChan ch (Channel.coded code)).channelLamps ch ∧
      (s.modChan ch (Channel.coded code)).codeReaches x = true) ↔ True ∧ s.takesCode ch x) := by
    intro k x hx
    rw [State.mem_channelLamps, true_and]
    constructor
    · rintro ⟨⟨y, hy, own⟩, hr⟩
      obtain rfl : x = y := Option.some.inj (hx.symm.trans hy)
      exact ⟨own, hr⟩
    · exact fun h => ⟨⟨x, hx, h.1⟩, h.2⟩
  rw [changed]
  obtain ⟨x, m, rfl⟩ := frame
  refine ⟨⟨_, _, _, _, _, _, _, rfl⟩, rfl, State.modChan_chan_self s ch _, fun d hd => ?_, fun b => ⟨fun h => ?_, fun h => ?_⟩,
    ⟨fun k y hy => ?_, coded.empty, fun k => (coded.slots k).trans (or_congr Iff.rfl ?_)⟩, fun h => absurd trivial h⟩
  · exact (s.modChan_chan ch d _).trans (if_neg hd)
  · exact (build_get _ b).trans (if_pos h.2)
  · exact (build_get _ b).trans (if_neg fun own => h ⟨trivial, own⟩)
  · obtain ⟨reached, unreached⟩ := coded.lamp k y hy
    exact ⟨fun h => reached ((reach k y hy).mpr h), fun h => unreached (mt (reach k y hy).mp h)⟩
  · refine exists_congr fun y => and_congr_right fun hy => and_congr_left fun _ => reach k y hy

/-- The code for the demand is worked out, and a code change made where it differs (04, R61, R67, R69). -/
def Channel.recoded (c : Channel) : Channel :=
  c.setPower fun p => { p with
    code := ballastCode c.ballastCurve p.pd
    applied := if ballastCode c.ballastCurve p.pd = p.code then p.applied else p.pd }

theorem recode_recoded (ch : ChanId) (s : State) : s.Recoded (recode ch s) ch Channel.recoded
    (ballastCode (s.chan ch).ballastCurve (s.chan ch).power.pd ≠ (s.chan ch).power.code)
    (ballastCode (s.chan ch).ballastCurve (s.chan ch).power.pd) := by
  unfold recode
  dsimp only
  split
  · next same =>
    refine ⟨.refl s, rfl, ?_, fun _ _ => rfl, fun b => ⟨fun h => absurd same h.1, fun _ => rfl⟩,
      .none fun _ _ _ h => h.1 same, fun _ => ⟨rfl, rfl⟩⟩
    simp only [Channel.recoded, Channel.setPower, same, if_true]
  · next differs =>
    have changed := changeCode_recoded ch (ballastCode (s.chan ch).ballastCurve (s.chan ch).power.pd) s
    refine ⟨changed.event, changed.alarms, changed.chan.trans ?_, changed.other, ?_, ?_, fun h => absurd differs h⟩
    · simp only [Channel.recoded, Channel.coded, Channel.setPower, differs, if_false]
    · simpa [differs] using changed.bank
    · simpa [differs] using changed.coded

end Sys2Proof.Machine

namespace Sys2Proof.Machine
open Sys2Proof

set_option Elab.async false

/-! ### A full pass in figures (01, R5 to R20) -/

/-- A channel without what the volume stage moves. -/
def Channel.butVolumes (c : Channel) : Channel :=
  { c with
    acct := { c.acct with totalL := 0, totalMl := 0, offL := 0, offMl := 0, pulseRem := 0, backlog := 0 }
    pulsePhase := .idle
    pulseTimer := none }

theorem Channel.counted_butVolumes (v now : Nat) (offSpec : Bool) (c : Channel) :
    (c.counted v offSpec now).butVolumes = (c.setAcct fun a => { a with lastPass := some now }).butVolumes := by
  cases offSpec with
  | false => rfl
  | true =>
    unfold Channel.counted Channel.accrued
    dsimp only
    rw [if_pos rfl]
    split <;> rfl

/-- The volume stage keeps whatever of a channel is not a volume or its pulse line, the instant of the pass apart. -/
theorem Channel.counted_keeps {α : Type} (f : Channel → α) (v now : Nat) (offSpec : Bool) (c : Channel)
    (hf : ∀ x : Channel, f x.butVolumes = f x := by intro _; rfl) :
    f (c.counted v offSpec now) = f (c.setAcct fun a => { a with lastPass := some now }) := by
  rw [← hf, Channel.counted_butVolumes, hf]

/-- A channel that a full pass has judged, counted and given its demand, before its code is worked out (01, R9 to R17;
04, R61 to R66). -/
def Channel.passing (r : PassResult) (v now : Nat) (c : Channel) : Channel :=
  let d := (c.setAcct fun a => a.judged r (c.get .dtarget)).counted v r.offSpec now
  { d with power := { d.power with
      pd := d.nextDemand (doseError (c.get .dtarget) r.dose), ePrev := doseError (c.get .dtarget) r.dose } }

/-- A channel but for its fallback timer and for what staging moves. -/
def Channel.passed (c : Channel) : Channel :=
  { c.butStaging with acct := { c.acct with fallback := none } }

/-- The judgment does not reach the volumes. -/
theorem Channel.counted_judged_volumes (r : PassResult) (v now dtarget : Nat) (offSpec : Bool) (c : Channel) :
    ((c.setAcct fun a => a.judged r dtarget).counted v offSpec now).volumes = (c.counted v offSpec now).volumes := by
  cases offSpec with
  | false => rfl
  | true =>
    rw [Channel.counted_volumes, Channel.counted_volumes]
    rfl

/-- The power stage of a channel passing: the demand by its own law, the rest as it was (04, R61 to R66). -/
theorem Channel.passing_power (r : PassResult) (v now : Nat) (c : Channel) : (c.passing r v now).power = { c.power with
    pd := c.nextDemand (doseError (c.get .dtarget) r.dose), ePrev := doseError (c.get .dtarget) r.dose } := by
  have power := Channel.counted_keeps Channel.power v now r.offSpec (c.setAcct fun a => a.judged r (c.get .dtarget))
  have demand := Channel.counted_keeps (Channel.nextDemand · (doseError (c.get .dtarget) r.dose)) v now r.offSpec
    (c.setAcct fun a => a.judged r (c.get .dtarget))
  unfold Channel.passing
  dsimp only at demand ⊢
  rw [power, demand]
  rfl

/-- A pass keeps of its channel what is neither of its accounts, its power stage nor its pulse line. -/
theorem Channel.passing_keeps {α : Type} (f : Channel → α) (r : PassResult) (v now : Nat) (c : Channel)
    (hf : ∀ x : Channel, f x.butVolumes = f x := by intro _; rfl)
    (ha : ∀ (x : Channel) (a : Accounting), f { x with acct := a } = f x := by intro _ _; rfl)
    (hp : ∀ (x : Channel) (p : Power), f { x with power := p } = f x := by intro _ _; rfl) :
    f (c.passing r v now) = f c := by
  have counted := Channel.counted_keeps f v now r.offSpec (c.setAcct fun a => a.judged r (c.get .dtarget)) hf
  have judged := ha c { c.acct.judged r (c.get .dtarget) with lastPass := some now }
  exact (hp _ _).trans (counted.trans judged)

/-- A channel that a full pass leaves so, staging and the fallback timer apart, has taken the pass. -/
theorem passTaken_of {s t : State} {ch : ChanId} {r : PassResult}
    (h : (t.chan ch).passed = ((s.chan ch).passing r (r.qm * s.elapsed ch) s.now).recoded.passed) :
    s.passTaken t ch r := by
  have part : ∀ {α : Type} (f : Channel → α), (∀ x, f x.passed = f x) →
      f (t.chan ch) = f ((s.chan ch).passing r (r.qm * s.elapsed ch) s.now).recoded :=
    fun f hf => by rw [← hf, h, hf]
  have acct : ∀ {α : Type} (f : Accounting → α), (∀ x : Channel, f x.passed.acct = f x.acct) →
      (∀ x : Channel, f x.butVolumes.acct = f x.acct) → f (t.chan ch).acct =
        f { (s.chan ch).acct.judged r ((s.chan ch).get .dtarget) with lastPass := some s.now } :=
    fun f hf hv => (part (fun c => f c.acct) hf).trans (Channel.counted_keeps (fun c => f c.acct) _ _ _ _ hv)
  have power := part Channel.power fun _ => rfl
  have recoded : ((s.chan ch).passing r (r.qm * s.elapsed ch) s.now).recoded.power = { (s.chan ch).power with
      pd := (s.chan ch).nextDemand (doseError ((s.chan ch).get .dtarget) r.dose)
      ePrev := doseError ((s.chan ch).get .dtarget) r.dose
      code := ballastCode (s.chan ch).ballastCurve ((s.chan ch).nextDemand (doseError ((s.chan ch).get .dtarget) r.dose))
      applied := if ballastCode (s.chan ch).ballastCurve ((s.chan ch).nextDemand
            (doseError ((s.chan ch).get .dtarget) r.dose)) = (s.chan ch).power.code then
          (s.chan ch).power.applied
        else (s.chan ch).nextDemand (doseError ((s.chan ch).get .dtarget) r.dose) } := by
    unfold Channel.recoded Channel.setPower
    dsimp only
    rw [Channel.passing_power, Channel.passing_keeps Channel.ballastCurve]
  rw [recoded] at power
  unfold State.passTaken
  dsimp only
  refine ⟨acct _ (fun _ => rfl) fun _ => rfl, acct _ (fun _ => rfl) fun _ => rfl, acct _ (fun _ => rfl) fun _ => rfl,
    acct _ (fun _ => rfl) fun _ => rfl, acct _ (fun _ => rfl) fun _ => rfl, acct _ (fun _ => rfl) fun _ => rfl, ?_, ?_, ?_,
    ?_, ?_, (part Channel.mode fun _ => rfl).trans (Channel.passing_keeps Channel.mode _ _ _ _),
    (part Channel.prevMode fun _ => rfl).trans (Channel.passing_keeps Channel.prevMode _ _ _ _),
    (part Channel.settings fun _ => rfl).trans (Channel.passing_keeps Channel.settings _ _ _ _)⟩
  · refine volumeCounted_of ((part Channel.volumes fun _ => rfl).trans ?_)
    exact Channel.counted_judged_volumes r _ s.now ((s.chan ch).get .dtarget) r.offSpec (s.chan ch)
  · rw [power]
    rfl
  · rw [power]
    rfl
  · rw [power]
  · rw [power]

/-! ### The stages of a full pass (01, R5 to R20) -/

/-- The channel update of a full pass with the results `r` on the state `s`. -/
def State.pass (s : State) (ch : ChanId) (r : PassResult) : Channel → Channel :=
  Channel.passing r (r.qm * s.elapsed ch) s.now

/-- The state in which a full pass judges its conditions. -/
def judgedState (ch : ChanId) (r : PassResult) (s : State) : State :=
  s.modChan ch fun c => c.setAcct fun a => a.judged r ((s.chan ch).get .dtarget)

/-- The state of a full pass before its code is worked out: judged, counted, and the demand set. -/
def demanded (ch : ChanId) (r : PassResult) (s : State) : State :=
  (volumeStage ch r.qm r.offSpec (judgeOutOfRange ch (judgeDoseLow ch (judgedState ch r s)))).modChan ch fun c =>
      { c with power := { c.power with
          pd := c.nextDemand (doseError ((s.chan ch).get .dtarget) r.dose)
          ePrev := doseError ((s.chan ch).get .dtarget) r.dose } }

theorem fullPass_eq (ch : ChanId) (s : State) : fullPass ch s =
    review ch ((recode ch (demanded ch (s.fullResult ch) s)).modChan ch fun c =>
      c.moveCounters (doseError ((s.chan ch).get .dtarget) (s.fullResult ch).dose)) := rfl

theorem judgeDoseLow_alarmUnitOnly (ch : ChanId) (s : State) : s.alarmUnitOnly (judgeDoseLow ch s) :=
  report_alarmUnitOnly _ _ _ s

theorem judgeOutOfRange_alarmUnitOnly (ch : ChanId) (s : State) : s.alarmUnitOnly (judgeOutOfRange ch s) :=
  report_alarmUnitOnly _ _ _ s

theorem State.alarmUnitOnly.volumeStage {s t : State} (h : s.alarmUnitOnly t) (ch : ChanId) (qm : Nat) (offSpec : Bool) :
    (s.modChan ch (Channel.counted (qm * s.elapsed ch) offSpec s.now)).alarmUnitOnly (volumeStage ch qm offSpec t) := by
  rw [volumeStage_eq]
  obtain ⟨a, l, d, rfl⟩ := h
  exact ⟨a, l, d, rfl⟩

theorem judgedState_elapsed (ch : ChanId) (r : PassResult) (s : State) :
    (judgedState ch r s).elapsed ch = s.elapsed ch := by
  unfold State.elapsed judgedState
  rw [State.modChan_chan_self]
  rfl

theorem demanded_alarmUnitOnly (ch : ChanId) (r : PassResult) (s : State) :
    (s.modChan ch (s.pass ch r)).alarmUnitOnly (demanded ch r s) := by
  have judged := (judgeDoseLow_alarmUnitOnly ch (judgedState ch r s)).trans (judgeOutOfRange_alarmUnitOnly ch _)
  have given := (judged.volumeStage ch r.qm r.offSpec).modChan ch fun c => { c with power := { c.power with
    pd := c.nextDemand (doseError ((s.chan ch).get .dtarget) r.dose)
    ePrev := doseError ((s.chan ch).get .dtarget) r.dose } }
  rw [judgedState_elapsed, judgedState, State.modChan_modChan, State.modChan_modChan] at given
  have base : s.modChan ch (s.pass ch r) = _ := modChan_congr rfl
  rw [base]
  exact given

/-- The conditions of a pass stand as it judged them (01, R12, R13), and no other condition has moved. -/
theorem demanded_alarms (ch : ChanId) (r : PassResult) (s : State) :
    ((demanded ch r s).alarm .outOfRange ch.1).cause = r.outRange ∧
      ((demanded ch r s).alarm .doseLow ch.1).cause =
        decide ((s.chan ch).get .doseLowPasses ≤ ((s.chan ch).acct.judged r ((s.chan ch).get .dtarget)).doseLow) ∧
      ∀ k i, k ≠ .outOfRange → k ≠ .doseLow → (demanded ch r s).alarm k i = s.alarm k i := by
  have kept : ∀ k i, (demanded ch r s).alarm k i =
      (judgeOutOfRange ch (judgeDoseLow ch (judgedState ch r s))).alarm k i := fun k i => by
    unfold demanded
    rw [volumeStage_eq, State.modChan_alarm, State.modChan_alarm]
  have chan : (judgedState ch r s).chan ch = (s.chan ch).setAcct fun a => a.judged r ((s.chan ch).get .dtarget) :=
    State.modChan_chan_self s ch _
  refine ⟨?_, ?_, fun k i ho hd => ?_⟩
  · rw [kept, judgeOutOfRange, report_cause, (judgeDoseLow_alarmUnitOnly ch _).chan, chan]
    rfl
  · rw [kept, judgeOutOfRange, report_alarm_ne (alarmSlot_kind (by decide)), judgeDoseLow, report_cause, chan]
    rfl
  · rw [kept, judgeOutOfRange, report_alarm_ne (alarmSlot_kind ho), judgeDoseLow, report_alarm_ne (alarmSlot_kind hd)]
    rfl

theorem demanded_notesSound {s : State} (h : s.notesSound) (ch : ChanId) (r : PassResult) :
    (demanded ch r s).notesSound := by
  have judged : (judgeOutOfRange ch (judgeDoseLow ch (judgedState ch r s))).notesSound :=
    ((h.chan ch _).report ch.isLt _).report ch.isLt _
  unfold demanded
  rw [volumeStage_eq]
  exact (judged.chan ch _).chan ch _

theorem recode_notesSound {s : State} (h : s.notesSound) (ch : ChanId) : (recode ch s).notesSound := by
  unfold recode changeCode
  dsimp only
  split
  · exact h
  · refine forEach_keeps (P := State.notesSound) (fun b _ _ hu => hu.bank b _)
      (forEach_keeps (P := State.notesSound) (fun l _ u hu => ?_) (h.chan ch _))
    unfold setLampCode
    split
    · split
      · exact hu.moves (.placeLamp .refl l _)
      · exact hu
    · exact hu

/-! ### What a full pass leaves (01, R5 to R20; 04, R61, R67 to R69; 03, R47) -/

theorem State.CodedAt.of_eq {s t s' t' : State} {code : Nat} {P Q : LampId → Lamp → Prop} (h : s.CodedAt t code P)
    (hl : s'.lamps = s.lamps) (hm : s'.slotsMade = s.slotsMade) (hl' : t'.lamps = t.lamps)
    (hm' : t'.slotsMade = t.slotsMade) (hP : ∀ k x, P k x ↔ Q k x) : s'.CodedAt t' code Q := by
  have before : ∀ k, s'.lamp k = s.lamp k := fun k => by rw [State.lamp, hl]; rfl
  have after : ∀ k, t'.lamp k = t.lamp k := fun k => by rw [State.lamp, hl']; rfl
  refine ⟨fun k x hx => ?_, fun k hk => ?_, fun k => ?_⟩
  · rw [before] at hx
    rw [after, ← hP]
    exact h.lamp k x hx
  · rw [after]
    exact h.empty k (by rwa [before] at hk)
  · simp only [hm', hm, before, ← hP]
    exact h.slots k

/-- A bank's record but for its settle timer. -/
def Bank.entryPart (x : Bank) : Bank.Record :=
  { x.record with settle := none }

/-- `t` is the state after a full pass of the channel with the results `r`. -/
structure State.FullyPassed (s t : State) (ch : ChanId) (r : PassResult) : Prop where
  event  : s.eventOnly t
  passed : (t.chan ch).passed = (s.pass ch r (s.chan ch)).recoded.passed
  other  : ∀ d, d ≠ ch → (t.chan d).butList = (s.chan d).butList
  entry  : ∀ b, (t.bank b).entryPart = (s.bank b).entryPart
  settle : ∀ b, (t.bank b).tracker.settleTimer =
    if (t.chan ch).power.code ≠ (s.chan ch).power.code ∧ (s.bank b).owner = some ch then
      (if (s.bank b).get .settleTime = 0 then none else some (s.now + (s.bank b).get .settleTime))
    else (s.bank b).tracker.settleTimer
  coded  : s.CodedAt t (t.chan ch).power.code fun _ x =>
    (t.chan ch).power.code ≠ (s.chan ch).power.code ∧ s.takesCode ch x
  still  : (t.chan ch).power.code = (s.chan ch).power.code → t.lamps = s.lamps ∧ t.slotsMade = s.slotsMade
  range  : (t.alarm .outOfRange ch.1).cause = r.outRange
  low    : (t.alarm .doseLow ch.1).cause = decide ((s.chan ch).get .doseLowPasses ≤ (t.chan ch).acct.doseLow)
  stale  : (t.alarm .flowStale ch.1) = s.alarm .flowStale ch.1
  timer  : (t.chan ch).acct.fallback = (s.chan ch).acct.fallback

theorem Channel.moveCounters_butStaging (e : Int) (c : Channel) : (c.moveCounters e).butStaging = c.butStaging := by
  unfold Channel.moveCounters
  split <;> rfl

theorem State.stagingOnly.lamps {s t : State} (h : s.stagingOnly t) :
    t.lamps = s.lamps ∧ t.slotsMade = s.slotsMade := by
  obtain ⟨_, _, _, _, _, rfl⟩ := h
  exact ⟨rfl, rfl⟩

theorem State.alarmUnitOnly.lamps {s t : State} (h : s.alarmUnitOnly t) :
    t.lamps = s.lamps ∧ t.slotsMade = s.slotsMade :=
  h.staging.lamps

theorem Channel.of_butStaging {α : Type} {c d : Channel} (f : Channel → α) (hf : ∀ x : Channel, f x.butStaging = f x)
    (h : c.butStaging = d.butStaging) : f c = f d := by
  rw [← hf, h, hf]

theorem Channel.passed_congr {c d : Channel} (h : c.butStaging = d.butStaging) : c.passed = d.passed :=
  congrArg (fun x : Channel => { x with acct := { x.acct with fallback := none } }) h

theorem State.alarmUnitOnly.now {s t : State} (h : s.alarmUnitOnly t) : t.now = s.now := by
  obtain ⟨_, _, _, rfl⟩ := h
  rfl

/-- The stages of a full pass after the judgment: the code, the counters, the review (04, R67; 05, R88, R89). -/
def handedOn (ch : ChanId) (e : Int) (s : State) : State :=
  review ch ((recode ch s).modChan ch fun c => c.moveCounters e)

section HandedOn

variable {s : State} {ch : ChanId} {e : Int}

theorem handedOn_stages : ((recode ch s).modChan ch fun c => c.moveCounters e).stages ch (handedOn ch e s) :=
  State.stages.refl.review

theorem handedOn_chan : ((handedOn ch e s).chan ch).butStaging = (s.chan ch).recoded.butStaging := by
  rw [handedOn_stages.moves.butStaging ch, State.modChan_chan_self, Channel.moveCounters_butStaging,
    (recode_recoded ch s).chan]

theorem handedOn_code : ((handedOn ch e s).chan ch).power.code =
    ballastCode (s.chan ch).ballastCurve (s.chan ch).power.pd :=
  Channel.of_butStaging (fun c => c.power.code) (fun _ => rfl) handedOn_chan

theorem handedOn_low : ((handedOn ch e s).chan ch).acct.doseLow = (s.chan ch).acct.doseLow :=
  Channel.of_butStaging (d := (s.chan ch).recoded) (fun c => c.acct.doseLow) (fun _ => rfl) handedOn_chan

theorem handedOn_event : s.eventOnly (handedOn ch e s) :=
  ((recode_recoded ch s).event.trans (modChan_stagingOnly ch _ _).event).trans handedOn_stages.staging.event

theorem handedOn_other {d : ChanId} (hd : d ≠ ch) : ((handedOn ch e s).chan d).butList = (s.chan d).butList := by
  rw [handedOn_stages.butList hd, State.modChan_chan, if_neg hd, (recode_recoded ch s).other d hd]

theorem handedOn_record (b : BankId) : ((handedOn ch e s).bank b).record = ((recode ch s).bank b).record :=
  handedOn_stages.moves.record b

theorem handedOn_lamps :
    (handedOn ch e s).lamps = (recode ch s).lamps ∧ (handedOn ch e s).slotsMade = (recode ch s).slotsMade :=
  handedOn_stages.staging.lamps

theorem handedOn_alarm {k : AlarmKind} (he : k ≠ .stageExhausted) (hs : k ≠ .sag) (ho : k ≠ .outputLow)
    (hf : k ≠ .bankFault) (hi : k ≠ .intensityStale) (i : Nat) : (handedOn ch e s).alarm k i = s.alarm k i := by
  rw [handedOn_stages.alarm he hs ho hf hi, State.modChan_alarm, State.alarm, (recode_recoded ch s).alarms]
  rfl

end HandedOn

theorem fullPass_fullyPassed (ch : ChanId) (s : State) : s.FullyPassed (fullPass ch s) ch (s.fullResult ch) := by
  obtain ⟨r, hr⟩ : ∃ r, r = s.fullResult ch := ⟨_, rfl⟩
  obtain ⟨u, hu⟩ : ∃ u, u = demanded ch r s := ⟨_, rfl⟩
  obtain ⟨e, he⟩ : ∃ e, e = doseError ((s.chan ch).get .dtarget) r.dose := ⟨_, rfl⟩
  have handed : fullPass ch s = handedOn ch e u := by rw [fullPass_eq, ← hr, ← hu, ← he, handedOn]
  have demand : (s.modChan ch (s.pass ch r)).alarmUnitOnly u := hu ▸ demanded_alarmUnitOnly ch r s
  obtain ⟨range, low, alarms⟩ := demanded_alarms ch r s
  rw [← hu] at range low alarms
  have recoded := recode_recoded ch u
  have given : u.chan ch = s.pass ch r (s.chan ch) := (demand.chan ch).trans (State.modChan_chan_self s ch _)
  have power := Channel.passing_power r (r.qm * s.elapsed ch) s.now (s.chan ch)
  have bank : ∀ b, u.bank b = s.bank b := demand.bank
  have old : (u.chan ch).power.code = (s.chan ch).power.code := by
    have kept := congrArg Power.code power
    rw [given]
    exact kept
  have code : ((handedOn ch e u).chan ch).power.code = _ := handedOn_code
  rw [← code, old] at recoded
  rw [← hr, handed]
  refine ⟨?_, ?_, fun d hd => ?_, fun b => ?_, fun b => ?_, ?_, fun same => ?_, ?_, ?_, ?_, ?_⟩
  · exact ((modChan_stagingOnly ch _ s).event.trans demand.event).trans handedOn_event
  · exact given ▸ Channel.passed_congr handedOn_chan
  · rw [handedOn_other hd, demand.chan, State.modChan_chan, if_neg hd]
  · rw [Bank.entryPart, handedOn_record]
    obtain ⟨reset, kept⟩ := recoded.bank b
    by_cases h : ((handedOn ch e u).chan ch).power.code ≠ (s.chan ch).power.code ∧ (u.bank b).owner = some ch
    · rw [reset h, bank]
      rfl
    · rw [kept h, bank]
      rfl
  · have settle := congrArg Bank.Record.settle (handedOn_record (s := u) (ch := ch) (e := e) b)
    refine settle.trans ?_
    obtain ⟨reset, kept⟩ := recoded.bank b
    rw [bank, demand.now] at reset
    rw [bank] at kept
    by_cases h : ((handedOn ch e u).chan ch).power.code ≠ (s.chan ch).power.code ∧ (s.bank b).owner = some ch
    · rw [reset h, if_pos h]
      rfl
    · rw [kept h, if_neg h]
      rfl
  · refine recoded.coded.of_eq ?_ ?_ handedOn_lamps.1 handedOn_lamps.2 fun k x => ?_
    · exact demand.lamps.1.symm
    · exact demand.lamps.2.symm
    · simp only [State.takesCode, State.codeReaches, bank]
  · obtain ⟨lamps, slots⟩ := recoded.still (not_not_intro same)
    exact ⟨handedOn_lamps.1.trans (lamps.trans demand.lamps.1), handedOn_lamps.2.trans (slots.trans demand.lamps.2)⟩
  · rw [handedOn_alarm (by decide) (by decide) (by decide) (by decide) (by decide)]
    exact range
  · rw [handedOn_alarm (by decide) (by decide) (by decide) (by decide) (by decide), low, handedOn_low]
    refine congrArg (fun n : Nat => decide ((s.chan ch).get .doseLowPasses ≤ n)) ?_
    rw [given]
    exact (Channel.counted_keeps (fun c => c.acct.doseLow) (r.qm * s.elapsed ch) s.now r.offSpec
      ((s.chan ch).setAcct fun a => a.judged r ((s.chan ch).get .dtarget))).symm
  · rw [handedOn_alarm (by decide) (by decide) (by decide) (by decide) (by decide)]
    exact alarms _ _ (by decide) (by decide)
  · have kept := Channel.of_butStaging (d := (u.chan ch).recoded) (fun c => c.acct.fallback) (fun _ => rfl)
      (handedOn_chan (s := u) (ch := ch) (e := e))
    rw [given] at kept
    exact kept.trans (Channel.counted_keeps (fun c => c.acct.fallback) (r.qm * s.elapsed ch) s.now r.offSpec
      ((s.chan ch).setAcct fun a => a.judged r ((s.chan ch).get .dtarget)))

end Sys2Proof.Machine

namespace Sys2Proof.Machine
open Sys2Proof

set_option Elab.async false

/-! ### What the end of an event keeps -/

/-- The settings of the alarm unit and of the two ports. -/
structure State.Devices where
  priorities : Vector Nat 18
  threshold  : Nat
  alertDest  : Nat
  northLimit : Nat
  southLimit : Nat

def State.devices (s : State) : State.Devices :=
  ⟨s.priorities, s.threshold, s.alertDest, s.north.errorLimit, s.south.errorLimit⟩

namespace State.Ends

variable {s t : State}

theorem chan (h : s.Ends t) (c : ChanId) : t.chan c = s.chan c := by
  obtain ⟨_, _, _, _, _, e⟩ := h.frame
  rw [e]
  rfl

theorem alarm (h : s.Ends t) (k : AlarmKind) (i : Nat) : t.alarm k i = s.alarm k i := by
  obtain ⟨_, _, _, _, _, e⟩ := h.frame
  rw [e]
  rfl

theorem point (h : s.Ends t) (p : PointId) : t.point p = s.point p := by
  obtain ⟨_, _, _, _, _, e⟩ := h.frame
  rw [e]
  rfl

theorem points (h : s.Ends t) : t.points = s.points := by
  obtain ⟨_, _, _, _, _, e⟩ := h.frame
  rw [e]

theorem devices (h : s.Ends t) : t.devices = s.devices := by
  obtain ⟨_, _, _, _, _, e⟩ := h.frame
  rw [e]
  rfl

theorem outer (h : s.Ends t) : t.outer = s.outer := by
  obtain ⟨_, _, _, _, _, e⟩ := h.frame
  rw [e]
  rfl

/-- A bank loses at most the command of its wiper slot. -/
theorem bankKeeps {α : Type} (h : s.Ends t) (f : Bank → α) (b : BankId)
    (hf : ∀ x : Bank, f { x with wiperSlot := none } = f x := by intro _; rfl) : f (t.bank b) = f (s.bank b) := by
  rcases h.bank b with e | e
  · rw [e]
  · rw [e, hf]

/-- A lamp loses at most the command of its slot. -/
theorem entry (h : s.Ends t) (k : LampId) : (t.lamp k).map Lamp.entry = (s.lamp k).map Lamp.entry := by
  rcases h.lamp k with ⟨e, _⟩ | ⟨y, c, hy, _, ht, _⟩
  · rw [e]
  · rw [hy, ht]
    rfl

end State.Ends

theorem State.eventOnly.outer {s t : State} (h : s.eventOnly t) : t.outer = s.outer := by
  obtain ⟨_, _, _, _, _, _, _, rfl⟩ := h
  rfl

theorem State.eventOnly.devices {s t : State} (h : s.eventOnly t) : t.devices = s.devices := by
  obtain ⟨_, _, _, _, _, _, _, rfl⟩ := h
  rfl

theorem State.eventOnly.points {s t : State} (h : s.eventOnly t) : t.points = s.points := by
  obtain ⟨_, _, _, _, _, _, _, rfl⟩ := h
  rfl

/-- From rest an event sends ALERT frames north and lamp and wiper commands south, and nothing else. -/
theorem State.eventOnly.sends {s t u : State} (h : s.eventOnly t) (e : t.Ends u) :
    (∃ made, s.areAlerts made ∧ u.north.queue = s.north.queue ++ made) ∧
      ∃ made, s.areCommands made ∧ u.south.queue = s.south.queue ++ made := by
  obtain ⟨_, _, _, _, _, _, _, rfl⟩ := h
  exact ⟨e.north, e.south⟩

/-- The written part of a channel: its settings and its two curves. -/
def Channel.tables (c : Channel) : Vector Nat 33 × Vector CurvePoint 8 × Vector CurvePoint 8 :=
  (c.settings, c.uvtCurve, c.ballastCurve)

/-- An event whose channels, banks, lamps and points keep their entries keeps the tables. -/
theorem State.tables_eq {s t : State} (hc : ∀ c, (t.chan c).tables = (s.chan c).tables)
    (hb : ∀ b, (t.bank b).entryPart = (s.bank b).entryPart)
    (hl : ∀ l, (t.lamp l).map Lamp.entry = (s.lamp l).map Lamp.entry)
    (hp : ∀ p, (t.point p).map Point.cfg = (s.point p).map Point.cfg)
    (hd : t.devices = s.devices) : t.tables = s.tables := by
  simp only [State.devices, State.Devices.mk.injEq] at hd
  obtain ⟨priorities, threshold, dest, north, south⟩ := hd
  have chanSettings : ∀ c, (t.chan c).settings = (s.chan c).settings := fun c => congrArg Prod.fst (hc c)
  have uvt : ∀ c, (t.chan c).uvtCurve = (s.chan c).uvtCurve := fun c => congrArg (fun x => x.2.1) (hc c)
  have ballast : ∀ c, (t.chan c).ballastCurve = (s.chan c).ballastCurve := fun c => congrArg (fun x => x.2.2) (hc c)
  have bankSettings : ∀ b, (t.bank b).settings = (s.bank b).settings := fun b => congrArg Bank.Record.settings (hb b)
  have owner : ∀ b, (t.bank b).owner = (s.bank b).owner := fun b => congrArg Bank.Record.owner (hb b)
  have station : ∀ b, (t.bank b).wiperStation = (s.bank b).wiperStation := fun b => congrArg Bank.Record.station (hb b)
  have programs : ∀ b, (t.bank b).program = (s.bank b).program := fun b => funext fun k => by
    cases k
    · exact congrArg Bank.Record.strike (hb b)
    · exact congrArg Bank.Record.quench (hb b)
    · exact congrArg Bank.Record.wipe (hb b)
  have lamps : ∀ l, ((t.lamp l).map fun x => (x.station, x.bank, x.slot)) =
      (s.lamp l).map fun x => (x.station, x.bank, x.slot) := hl
  have points : ∀ p, ((t.point p).map fun x => x.cfg) = (s.point p).map fun x => x.cfg := hp
  simp only [State.tables, chanSettings, uvt, ballast, bankSettings, owner, station, programs, lamps, points, priorities,
    threshold, dest, north, south]

/-! ### The end of a full pass -/

namespace State.FullyPassed

variable {s t : State} {ch : ChanId} {r : PassResult}

/-- What a pass keeps of its channel. -/
theorem keeps {α : Type} (h : s.FullyPassed t ch r) (f : Channel → α) (hf : ∀ x : Channel, f x.passed = f x := by intro _; rfl)
    (hv : ∀ x : Channel, f x.butVolumes = f x := by intro _; rfl)
    (ha : ∀ (x : Channel) (a : Accounting), f { x with acct := a } = f x := by intro _ _; rfl)
    (hp : ∀ (x : Channel) (p : Power), f { x with power := p } = f x := by intro _ _; rfl) :
    f (t.chan ch) = f (s.chan ch) := by
  have recoded : f (s.pass ch r (s.chan ch)).recoded = f (s.pass ch r (s.chan ch)) := hp _ _
  rw [← hf, h.passed, hf, recoded]
  exact Channel.passing_keeps f r _ _ _ hv ha hp

theorem chanTables (h : s.FullyPassed t ch r) (c : ChanId) : (t.chan c).tables = (s.chan c).tables := by
  by_cases e : c = ch
  · subst e
    exact h.keeps Channel.tables
  · have kept := congrArg Channel.tables (h.other c e)
    exact kept

theorem lampEntry (h : s.FullyPassed t ch r) (k : LampId) : (t.lamp k).map Lamp.entry = (s.lamp k).map Lamp.entry := by
  cases hx : s.lamp k with
  | none => rw [h.coded.empty k hx]
  | some x =>
    obtain ⟨reached, unreached⟩ := h.coded.lamp k x hx
    by_cases reach : (t.chan ch).power.code ≠ (s.chan ch).power.code ∧ s.takesCode ch x
    · rw [reached reach]
      rfl
    · rw [unreached reach]

end State.FullyPassed

/-! ### The fallback timer (01, R4) -/

theorem takePass_armed {s : State} {ch : ChanId} (h : (s.chan ch).mode.armed = true) : takePass ch s = fullPass ch s := by
  unfold takePass
  cases hm : (s.chan ch).mode with
  | auto => rfl
  | manual => rfl
  | full => rfl
  | standdown => rfl
  | edit => rw [hm] at h; cases h
  | unarmed => rw [hm] at h; cases h

theorem fullPass_notesSound {s : State} (h : s.notesSound) (ch : ChanId) : (fullPass ch s).notesSound := by
  rw [fullPass_eq]
  exact ((recode_notesSound (demanded_notesSound h ch _) ch).chan ch _).moves (.review .refl ch)

/-- What the expiry of its fallback timer makes of a channel in EDIT (01, R4, R22). -/
def Channel.frozen (v now : Nat) (c : Channel) : Channel :=
  let d := (c.setAcct fun a => { a with offSpec := true }).counted v true now
  d.setAcct fun a => { a with fallback := some (now + d.get .passFallback) }

/-- The volume stage of a frozen pass apart, a frozen pass moves its mark and its instant only. -/
theorem Channel.frozen_keeps {α : Type} (f : Channel → α) (v now : Nat) (c : Channel)
    (hf : ∀ x : Channel, f x.butVolumes = f x := by intro _; rfl)
    (ht : ∀ (x : Channel) (d : Timer), f (x.setAcct fun a => { a with fallback := d }) = f x := by intro _ _; rfl) :
    f (c.frozen v now) = f (c.setAcct fun a => { a with offSpec := true, lastPass := some now }) :=
  (ht _ _).trans (Channel.counted_keeps f v now true (c.setAcct fun a => { a with offSpec := true }) hf)

theorem Channel.frozen_volumes (v now : Nat) (c : Channel) :
    (c.frozen v now).volumes = (c.counted v true now).volumes := by
  have counted : (c.frozen v now).volumes = ((c.setAcct fun a => { a with offSpec := true }).counted v true now).volumes :=
    rfl
  rw [counted, Channel.counted_volumes, Channel.counted_volumes]
  rfl

theorem fallbackEnds_edit {s : State} {ch : ChanId} (hd : s.due (s.chan ch).acct.fallback = true)
    (hm : (s.chan ch).mode = .edit) : fallbackEnds ch s =
      s.modChan ch (Channel.frozen (s.measuredFlow ch * s.elapsed ch) s.now) := by
  have elapsed : (s.modChan ch fun c => c.setAcct fun a => { a with offSpec := true }).elapsed ch = s.elapsed ch := by
    unfold State.elapsed
    rw [State.modChan_chan_self]
    rfl
  unfold fallbackEnds takePass
  rw [if_pos hd, hm]
  dsimp only
  rw [frozenPass, volumeStage_eq, elapsed, startFallback, State.modChan_modChan, State.modChan_modChan]
  exact modChan_congr rfl

theorem exec_fallbackTimerExpiry (ch : ChanId) (s : State) :
    exec (.fallbackTimerExpiry ch) s = .next (endEvent (fallbackEnds ch s)) := rfl

theorem Channel.passed_fallback (c : Channel) (d : Timer) :
    (c.setAcct fun a => { a with fallback := d }).passed = c.passed := rfl

/-- The fallback timer restarts after a full pass, and the event ends. -/
theorem State.FullyPassed.restarted {s u : State} {ch : ChanId} {r : PassResult} (h : s.FullyPassed u ch r)
    (hu : u.notesSound) : ∃ t, endEvent (startFallback ch u) = t ∧
      t.outer = s.outer ∧ t.tables = s.tables ∧ t.points = s.points ∧
      (∀ d, d ≠ ch → (t.chan d).butList = (s.chan d).butList) ∧ s.passTaken t ch r ∧
      (∃ made, s.areAlerts made ∧ t.north.queue = s.north.queue ++ made) ∧
      (∃ made, s.areCommands made ∧ t.south.queue = s.south.queue ++ made) ∧
      (t.chan ch).acct.fallback = some (s.now + (s.chan ch).get .passFallback) := by
  obtain ⟨w, hw⟩ : ∃ w, w = startFallback ch u := ⟨_, rfl⟩
  have sound : w.notesSound := hw ▸ hu.chan ch _
  have event : s.eventOnly w := hw ▸ h.event.trans (modChan_stagingOnly ch _ _).event
  have own : w.chan ch = (u.chan ch).setAcct fun a => { a with fallback := u.timer ((u.chan ch).get .passFallback) } := by
    rw [hw]
    exact State.modChan_chan_self u ch _
  have other : ∀ d, d ≠ ch → w.chan d = u.chan d := fun d hd => by
    rw [hw]
    exact (State.modChan_chan u ch d _).trans (if_neg hd)
  have ended := endEvent_ends sound
  obtain ⟨north, south⟩ := event.sends ended
  rw [← hw]
  refine ⟨_, rfl, ended.outer.trans event.outer, ?_, ?_, fun d hd => ?_, ?_, north, south, ?_⟩
  · refine State.tables_eq (fun c => ?_) (fun b => ?_) (fun l => ?_) (fun p => ?_) ?_
    · rw [ended.chan, ← h.chanTables c]
      by_cases e : c = ch
      · rw [e, own]
        rfl
      · rw [other c e]
    · rw [ended.bankKeeps Bank.entryPart, ← h.entry, hw]
      rfl
    · rw [ended.entry, ← h.lampEntry, hw]
      rfl
    · rw [ended.point, State.point, event.points]
      rfl
    · exact ended.devices.trans event.devices
  · exact ended.points.trans event.points
  · rw [ended.chan, other d hd, h.other d hd]
  · refine passTaken_of ?_
    rw [ended.chan, own, Channel.passed_fallback]
    exact h.passed
  · have now : u.now = s.now := congrArg Outer.now h.event.outer
    have setting : (u.chan ch).get .passFallback = (s.chan ch).get .passFallback := h.keeps (Channel.get · .passFallback)
    rw [ended.chan, own, setting, State.timer, now]
    rfl

/-- Settles O21: in EDIT the whole event is one update of the channel; an armed channel's fallback timer restarts after its
full pass. -/
theorem fallbackTakesAPass : Obligations.FallbackTakesAPass := by
  intro ch s d hs hf hd
  have due : s.due (s.chan ch).acct.fallback = true := (s.due_iff _).mpr ⟨d, hf, hd⟩
  refine ⟨fun armed => ?_, fun edit => ?_⟩
  · have ends : fallbackEnds ch s = startFallback ch (fullPass ch s) := by
      rw [fallbackEnds, if_pos due, takePass_armed armed]
    obtain ⟨t, ht, facts⟩ := (fullPass_fullyPassed ch s).restarted (fullPass_notesSound (.atRest hs) ch)
    refine ⟨t, ?_, facts⟩
    rw [exec_fallbackTimerExpiry, ends, ht]
  · have ends := fallbackEnds_edit due edit
    obtain ⟨t, ht⟩ : ∃ t, t = s.modChan ch (Channel.frozen (s.measuredFlow ch * s.elapsed ch) s.now) := ⟨_, rfl⟩
    have own : t.chan ch = (s.chan ch).frozen (s.measuredFlow ch * s.elapsed ch) s.now := by
      rw [ht, State.modChan_chan_self]
    have rest : t.atRest := by
      rw [ht]
      exact hs.of_eq rfl rfl
    have kept : ∀ {α : Type} (f : Accounting → α), (∀ x : Channel, f x.butVolumes.acct = f x.acct) →
        (∀ (x : Accounting) (d : Timer), f { x with fallback := d } = f x) →
        f (t.chan ch).acct = f { (s.chan ch).acct with offSpec := true, lastPass := some s.now } := fun f hv ht => by
      rw [own]
      exact Channel.frozen_keeps (fun c => f c.acct) _ _ _ hv fun x d => ht x.acct d
    refine ⟨t, ?_, ?_, fun d hd => ?_, ?_, ?_, kept _ (fun _ => rfl) fun _ _ => rfl, kept _ (fun _ => rfl) fun _ _ => rfl,
      ?_, kept _ (fun _ => rfl) fun _ _ => rfl, kept _ (fun _ => rfl) fun _ _ => rfl, kept _ (fun _ => rfl) fun _ _ => rfl,
      kept _ (fun _ => rfl) fun _ _ => rfl⟩
    · rw [exec_fallbackTimerExpiry, ends, ← ht, endEvent_atRest rest]
    · rw [ht]
      rfl
    · rw [ht, State.modChan_chan, if_neg hd]
    · refine volumeCounted_of ?_
      rw [own, Channel.frozen_volumes]
    · rw [own]
      exact Channel.frozen_keeps (fun x : Channel => { x with
        acct := (s.chan ch).acct, pulsePhase := (s.chan ch).pulsePhase, pulseTimer := (s.chan ch).pulseTimer }) _ _ _
    · rw [own]
      exact congrArg (fun n => some (s.now + n)) (Channel.counted_keeps (fun c => c.get .passFallback)
        (s.measuredFlow ch * s.elapsed ch) s.now true ((s.chan ch).setAcct fun a => { a with offSpec := true }))

end Sys2Proof.Machine

namespace Sys2Proof.Machine
open Sys2Proof

set_option Elab.async false

/-! ### The staging counters at a full pass (05, R89, R92) -/

/-- A review that acted: the list is another one and both counters are 0. -/
def Channel.acted (c d : Channel) : Prop :=
  d.startList ≠ c.startList ∧ d.upCount = 0 ∧ d.downCount = 0

theorem dark_of_called {ch : ChanId} {s : State} {called : Bool} (h : (called && !s.noDark ch) = true) :
    s.darkCount ch ≠ 0 := fun hz => by
  rw [(s.noDark_iff ch).mpr hz, Bool.not_true, Bool.and_false] at h
  cases h

/-- A stage-up of steps 2 and 3 has acted, and leaves a list bank lighting (05, R92). -/
theorem stageUp_acted {ch : ChanId} {s : State} (hd : s.darkCount ch ≠ 0) :
    Channel.acted (s.chan ch) ((zeroCounters ch (stageUp ch s)).chan ch) ∧
      (zeroCounters ch (stageUp ch s)).lighting ch = true := by
  obtain ⟨b, hb⟩ := State.selectBank_isSome hd
  have up := (stageUp_alarmUnitOnly hb).modChan ch fun c => { c with upCount := 0, downCount := 0 }
  have chan : (zeroCounters ch (stageUp ch s)).chan ch = { s.chan ch with
      startList := (s.chan ch).startList ++ [b], upCount := 0, downCount := 0 } := by
    refine (up.chan ch).trans ?_
    rw [State.stagedUp_eq, State.modChan_modChan, State.modChan_chan_self]
    rfl
  have bank : ((zeroCounters ch (stageUp ch s)).bank b).state = .striking := by
    rw [zeroCounters, up.bank, State.modChan_bank, State.stagedUp_bank]
    rfl
  rw [chan]
  refine ⟨⟨?_, rfl, rfl⟩, ?_⟩
  · simp
  · rw [State.lighting_iff]
    refine ⟨b, ?_, .inl bank⟩
    rw [chan]
    exact List.mem_append_right _ (List.mem_singleton_self b)

/-- A stage-down of step 4 has acted (05, R92). -/
theorem stageDown_acted {ch : ChanId} {s : State} (own : ∀ b ∈ (s.chan ch).startList, (s.bank b).owner = some ch)
    (hs : s.surplus ch = true) : Channel.acted (s.chan ch)
      ((zeroCounters ch (stageDown ch (s.modChan ch fun c => { c with pendingUp := 0 }))).chan ch) := by
  obtain ⟨_, _, above⟩ := (s.surplus_iff ch).mp hs
  obtain ⟨b, last, mem⟩ : ∃ b, (s.chan ch).startList.getLast? = some b ∧ b ∈ (s.chan ch).startList := by
    have listed : (s.chan ch).startList ≠ [] := by
      rw [← List.length_pos_iff]
      omega
    exact ⟨_, List.getLast?_eq_some_getLast listed, List.getLast_mem listed⟩
  have calm : ((s.modChan ch fun c => { c with pendingUp := 0 }).chan ch).startList.getLast? =
      some b := by
    rw [State.modChan_chan_self]
    exact last
  have down := (stageDown_alarmUnitOnly calm (own _ mem)).modChan ch fun c => { c with upCount := 0, downCount := 0 }
  have chan : (zeroCounters ch (stageDown ch (s.modChan ch fun c => { c with pendingUp := 0 }))).chan ch =
      { s.chan ch with
        pendingUp := 0
        startList := (s.chan ch).startList.filter (· ≠ b)
        upCount := 0
        downCount := 0 } := by
    refine (down.chan ch).trans ?_
    rw [State.modChan_chan_self, State.quenched, State.modChan_chan_self]
    exact congrArg (fun c : Channel => { c with
      startList := c.startList.filter (· ≠ b), upCount := 0, downCount := 0 })
      (State.modChan_chan_self s ch fun c => { c with pendingUp := 0 })
  rw [chan]
  refine ⟨fun same => ?_, rfl, rfl⟩
  rw [← same] at mem
  simp at mem

/-- Steps 2 to 4 of the AUTO review act once, or not at all (05, R92). -/
theorem laterSteps_acted {ch : ChanId} {s : State} (own : ∀ b ∈ (s.chan ch).startList, (s.bank b).owner = some ch)
    (hs : servePending ch 12 s = s) : autoSteps ch s = s ∨ Channel.acted (s.chan ch) ((autoSteps ch s).chan ch) := by
  unfold autoSteps
  rw [hs]
  dsimp only
  by_cases floor : (s.belowFloor ch && !s.noDark ch) = true
  · obtain ⟨acted, lit⟩ := stageUp_acted (dark_of_called floor)
    right
    rw [show stageUpIf ch (s.belowFloor ch) s = zeroCounters ch (stageUp ch s) from if_pos floor]
    simpa [stageUpIf, State.saturated, State.surplus, lit] using acted
  rw [show stageUpIf ch (s.belowFloor ch) s = s from if_neg floor]
  by_cases full : (s.saturated ch && !s.noDark ch) = true
  · obtain ⟨acted, lit⟩ := stageUp_acted (dark_of_called full)
    right
    rw [show stageUpIf ch (s.saturated ch) s = zeroCounters ch (stageUp ch s) from if_pos full]
    simpa [State.surplus, lit] using acted
  rw [show stageUpIf ch (s.saturated ch) s = s from if_neg full]
  split
  · next surplus => exact .inr (stageDown_acted own surplus)
  · exact .inl rfl

/-- The AUTO review either leaves the state as it stands or has acted (05, R92). -/
theorem autoSteps_acted {ch : ChanId} {s : State} (own : ∀ b ∈ (s.chan ch).startList, (s.bank b).owner = some ch) :
    autoSteps ch s = s ∨ Channel.acted (s.chan ch) ((autoSteps ch s).chan ch) := by
  by_cases h : 0 < (s.chan ch).pendingUp ∧ s.darkCount ch ≠ 0
  · obtain ⟨staged, len, _, _, _, served, _, _⟩ := autoSteps_served h.1 h.2
    right
    rw [served.chan, State.served_chan]
    refine ⟨fun same => ?_, rfl, rfl⟩
    have grown := congrArg List.length same
    rw [Channel.served, List.length_append, len] at grown
    omega
  · refine laterSteps_acted own (if_neg fun hp => h ⟨hp.1, fun hz => ?_⟩)
    rw [(s.noDark_iff ch).mpr hz] at hp
    exact absurd hp.2 (by decide)

/-- The counters that a full pass with the error `e` gives its channel, before the review (05, R89). -/
theorem Channel.moveCounters_auto {c : Channel} (hm : c.mode = .auto) (ha : c.adoption = none) (e : Int) :
    c.moveCounters e = { c with
      upCount := if c.power.pd = 1000 ∧ 0 < e then min 255 (c.upCount + 1) else 0
      downCount := if c.power.pd ≤ c.get .stageDownLevel ∧ e < 0 then min 255 (c.downCount + 1) else 0 } :=
  if_pos ⟨hm, ha⟩

theorem Channel.moveCounters_other {c : Channel} (h : c.mode ≠ .auto ∨ c.adoption ≠ none) (e : Int) :
    c.moveCounters e = c :=
  if_neg fun ⟨hm, ha⟩ => h.elim (· hm) (· ha)

theorem Channel.moveCounters_startList (e : Int) (c : Channel) : (c.moveCounters e).startList = c.startList := by
  unfold Channel.moveCounters
  split <;> rfl

theorem recode_owner (ch : ChanId) (s : State) (b : BankId) : ((recode ch s).bank b).owner = (s.bank b).owner := by
  obtain ⟨reset, kept⟩ := (recode_recoded ch s).bank b
  by_cases h : ballastCode (s.chan ch).ballastCurve (s.chan ch).power.pd ≠ (s.chan ch).power.code ∧
      (s.bank b).owner = some ch
  · rw [reset h]
    rfl
  · rw [kept h]

theorem Channel.of_butList {α : Type} {c d : Channel} (f : Channel → α) (hf : ∀ x : Channel, f x.butList = f x)
    (h : c.butList = d.butList) : f c = f d := by
  rw [← hf, h, hf]

section HandedOn

variable {s : State} {ch : ChanId} {e : Int}

theorem recode_moveCounters_chan : ((recode ch s).modChan ch fun c => c.moveCounters e).chan ch =
    (s.chan ch).recoded.moveCounters e := by
  rw [State.modChan_chan_self, (recode_recoded ch s).chan]

/-- Outside AUTO and in the adoption window the counters stand (05, R89, R93). -/
theorem handedOn_counters_other (h : (s.chan ch).mode ≠ .auto ∨ (s.chan ch).adoption ≠ none) :
    ((handedOn ch e s).chan ch).upCount = (s.chan ch).upCount ∧
      ((handedOn ch e s).chan ch).downCount = (s.chan ch).downCount := by
  obtain ⟨d, hd⟩ : ∃ d : ChanId, ch ≠ d := ⟨if ch = 0 then 1 else 0, by split <;> simp [*]⟩
  have before := recode_moveCounters_chan (s := s) (ch := ch) (e := e)
  rw [Channel.moveCounters_other (c := (s.chan ch).recoded) h] at before
  have stages : ((recode ch s).modChan ch fun c => c.moveCounters e).stages d (handedOn ch e s) :=
    State.stages.reviewOther (ch := d) (.refl (s := (recode ch s).modChan ch fun c => c.moveCounters e)) ch
    (by rw [before]; exact h)
  have kept := stages.butList hd
  rw [before] at kept
  exact ⟨Channel.of_butList (d := (s.chan ch).recoded) Channel.upCount (fun _ => rfl) kept,
    Channel.of_butList (d := (s.chan ch).recoded) Channel.downCount (fun _ => rfl) kept⟩

/-- In AUTO the counters are 0 after a stage action and as the pass moved them otherwise (05, R89, R92). -/
theorem handedOn_counters_auto (hm : (s.chan ch).mode = .auto) (ha : (s.chan ch).adoption = none)
    (own : ∀ b ∈ (s.chan ch).startList, (s.bank b).owner = some ch) :
    (((handedOn ch e s).chan ch).startList = (s.chan ch).startList ∧
      ((handedOn ch e s).chan ch).upCount = ((s.chan ch).recoded.moveCounters e).upCount ∧
      ((handedOn ch e s).chan ch).downCount = ((s.chan ch).recoded.moveCounters e).downCount) ∨
    Channel.acted (s.chan ch) ((handedOn ch e s).chan ch) := by
  obtain ⟨u, hu⟩ : ∃ u, u = (recode ch s).modChan ch fun c => c.moveCounters e := ⟨_, rfl⟩
  have chan : u.chan ch = (s.chan ch).recoded.moveCounters e := by rw [hu, recode_moveCounters_chan]
  have staged : (u.chan ch).butStaging = (s.chan ch).recoded.butStaging := by
    rw [chan, Channel.moveCounters_butStaging]
  have list : (u.chan ch).startList = (s.chan ch).startList := by
    rw [chan]
    exact Channel.moveCounters_startList e _
  have owners : ∀ b ∈ (u.chan ch).startList, (u.bank b).owner = some ch := by
    intro b hb
    rw [hu, State.modChan_bank, recode_owner]
    exact own b (list ▸ hb)
  have auto : (u.chan ch).mode = .auto := (Channel.of_butStaging Channel.mode (fun _ => rfl) staged).trans hm
  have window : (u.chan ch).adoption = none := (Channel.of_butStaging Channel.adoption (fun _ => rfl) staged).trans ha
  have ended : (handedOn ch e s).chan ch = (autoSteps ch u).chan ch := by
    rw [handedOn, ← hu, review_auto auto window, report_chan]
  rw [ended]
  rcases autoSteps_acted owners with same | acted
  · left
    rw [same, list, chan]
    exact ⟨rfl, rfl, rfl⟩
  · right
    obtain ⟨other, zero⟩ := acted
    rw [list] at other
    exact ⟨other, zero⟩

end HandedOn

end Sys2Proof.Machine

namespace Sys2Proof.Machine
open Sys2Proof

set_option Elab.async false

/-! ### The items of a SAMPLE frame (11, R182) -/

theorem qualityOfCode_code (q : Quality) : qualityOfCode q.code = q := by
  cases q <;> rfl

theorem Quality.code_lt (q : Quality) : q.code < 4 := by
  cases q <;> decide

theorem half_bytes {n : Nat} (h : n < 65536) : (half (BitVec.ofNat 8 (n / 256)) (BitVec.ofNat 8 n)).toNat = n := by
  unfold half
  rw [BitVec.toNat_append, BitVec.toNat_ofNat, BitVec.toNat_ofNat,
    ← Nat.shiftLeft_add_eq_or_of_lt (Nat.mod_lt n (by decide)), Nat.shiftLeft_eq]
  omega

/-- The items of a SAMPLE are read back from their bytes. -/
theorem itemsOf_bytes (items : List SampleItem) (rest : List Byte)
    (h : ∀ i ∈ items, i.index < 16 ∧ i.raw < 65536) :
    itemsOf items.length (items.flatMap SampleItem.toBytes ++ rest) = items := by
  induction items with
  | nil => cases rest <;> rfl
  | cons i items ih =>
    obtain ⟨hi, hr⟩ := h i List.mem_cons_self
    have code := Quality.code_lt i.quality
    have head : (BitVec.ofNat 8 (i.index % 16 + 16 * i.quality.code)).toNat = i.index + 16 * i.quality.code := by
      rw [BitVec.toNat_ofNat]
      omega
    have index : (i.index + 16 * i.quality.code) % 16 = i.index := by omega
    have quality : (i.index + 16 * i.quality.code) / 16 % 4 = i.quality.code := by omega
    have more := ih fun j hj => h j (List.mem_cons_of_mem i hj)
    have one : itemsOf (i :: items).length ((i :: items).flatMap SampleItem.toBytes ++ rest) =
        ⟨(BitVec.ofNat 8 (i.index % 16 + 16 * i.quality.code)).toNat % 16,
          qualityOfCode ((BitVec.ofNat 8 (i.index % 16 + 16 * i.quality.code)).toNat / 16 % 4),
          (half (BitVec.ofNat 8 (i.raw / 256)) (BitVec.ofNat 8 i.raw)).toNat⟩ ::
          itemsOf items.length (items.flatMap SampleItem.toBytes ++ rest) := rfl
    rw [one, more, head, index, quality, qualityOfCode_code, half_bytes hr]

theorem flatMap_toBytes_length (items : List SampleItem) : (items.flatMap SampleItem.toBytes).length = 3 * items.length := by
  induction items with
  | nil => rfl
  | cons i items ih =>
    rw [List.flatMap_cons, List.length_append, ih, List.length_cons]
    simp only [SampleItem.toBytes, bytes2, List.length_cons, List.length_nil]
    omega

/-- The payload of a SAMPLE of these items whose `a` annotation items have the bytes `old`. -/
def sampleBytes (items : List SampleItem) (a : Nat) (old : List Byte) : List Byte :=
  BitVec.ofNat 8 (items.length + 16 * a) :: (items.flatMap SampleItem.toBytes ++ old)

section Payload

variable {items : List SampleItem} {a : Nat} {old : List Byte}

theorem sampleBytes_length (ho : old.length = 6 * a) :
    (sampleBytes items a old).length = 1 + 3 * items.length + 6 * a := by
  rw [sampleBytes, List.length_cons, List.length_append, flatMap_toBytes_length, ho]
  omega

theorem sampleItems_bytes (h1 : 1 ≤ items.length) (h8 : items.length ≤ 8)
    (hi : ∀ i ∈ items, i.index < 16 ∧ i.raw < 65536) (ho : old.length = 6 * a)
    (hl : 1 + 3 * items.length + 6 * a ≤ 48) : sampleItems (sampleBytes items a old) = some items := by
  have head : (BitVec.ofNat 8 (items.length + 16 * a)).toNat = items.length + 16 * a := by
    rw [BitVec.toNat_ofNat]
    omega
  have count : (items.length + 16 * a) % 16 = items.length := by omega
  have marks : (items.length + 16 * a) / 16 = a := by omega
  have length := sampleBytes_length (items := items) ho
  unfold sampleItems
  rw [sampleBytes] at length ⊢
  dsimp only
  rw [head, count, marks, if_pos ⟨h1, h8, length⟩, itemsOf_bytes items old hi]

end Payload

/-! ### Reception (08, R138, R139) -/

theorem kindSample_ne_kindRequest : kindSample ≠ kindRequest := by decide

/-- A SAMPLE that reaches the south port in normal operation is tapped and goes on. -/
theorem exec_sampleFrame {dst src : Byte} {payload : List Byte} {items : List SampleItem} {s : State} (hn : s.normal)
    (hl : payload.length ≤ 48) (hi : sampleItems payload = some items) :
    exec (.sampleFrame dst src payload) s = .next (passOn .south
      (annotate (endEvent (intakeItems (stationOf src) items s).1) (intakeItems (stationOf src) items s).2
        ⟨dst, src, 0x01, payload⟩) (endEvent (intakeItems (stationOf src) items s).1)) := by
  have tapped : tapSample ⟨dst, src, kindSample, payload⟩ s = intakeItems (stationOf src) items s := by
    unfold tapSample
    rw [hi]
  have good : receiveFrame .south ⟨dst, src, kindSample, payload⟩ s = southSample ⟨dst, src, kindSample, payload⟩ s :=
    calc receiveFrame .south ⟨dst, src, kindSample, payload⟩ s
        = receiveGood .south ⟨dst, src, kindSample, payload⟩ s := if_pos hl
      _ = fromSouth ⟨dst, src, kindSample, payload⟩ s := by
        unfold receiveGood
        rw [State.normal_repeater hn, if_neg (by decide), if_neg fun h => kindSample_ne_kindRequest h.2]
      _ = southSample ⟨dst, src, kindSample, payload⟩ s := if_pos rfl
  have row : exec (.sampleFrame dst src payload) s =
      .next (receiveFrame .south ⟨dst, src, kindSample, payload⟩ s) := rfl
  rw [row, good, southSample, tapped]
  rfl

/-! ### Annotation (08, R141; 11, R182) -/

theorem State.annotation_length (s : State) (ch : ChanId) : (s.annotation ch).length = 6 := rfl

theorem appendItem_room {item : List Byte} {f : Frame} {h : Nat} {rest : List Byte}
    (hf : f.payload = BitVec.ofNat 8 h :: rest) (hl : rest.length + 7 ≤ 48) :
    appendItem item f = { f with payload := BitVec.ofNat 8 (h + 16) :: (rest ++ item) } := by
  unfold appendItem
  rw [hf]
  dsimp only
  rw [if_pos (by rw [List.length_cons, Config.payloadBytes]; omega), BitVec.ofNat_add]
  rfl

theorem appendItem_full {item : List Byte} {f : Frame} {h : Nat} {rest : List Byte}
    (hf : f.payload = BitVec.ofNat 8 h :: rest) (hl : ¬ rest.length + 7 ≤ 48) : appendItem item f = f := by
  unfold appendItem
  rw [hf]
  dsimp only
  rw [if_neg (by rw [List.length_cons, Config.payloadBytes]; omega)]

/-- As many annotation items are appended as the payload has room for. -/
theorem appendItems_eq (s : State) (l : List ChanId) {f : Frame} {h : Nat} {rest : List Byte}
    (hf : f.payload = BitVec.ofNat 8 h :: rest) (hr : rest.length ≤ 47) :
    l.foldl (fun f ch => appendItem (s.annotation ch) f) f =
      { f with payload := BitVec.ofNat 8 (h + 16 * min l.length ((47 - rest.length) / 6)) ::
          (rest ++ (l.take (min l.length ((47 - rest.length) / 6))).flatMap s.annotation) } := by
  induction l generalizing f h rest with
  | nil => cases f; simp_all
  | cons ch l ih =>
    rw [List.foldl_cons]
    by_cases room : rest.length + 7 ≤ 48
    · have length : (rest ++ s.annotation ch).length = rest.length + 6 := by
        rw [List.length_append, State.annotation_length]
      have count : min (ch :: l).length ((47 - rest.length) / 6) =
          min l.length ((47 - (rest ++ s.annotation ch).length) / 6) + 1 := by
        rw [length, List.length_cons]
        omega
      rw [appendItem_room hf room, ih rfl (by omega), count, List.take_succ_cons, List.flatMap_cons, List.append_assoc,
        Nat.mul_add, Nat.add_assoc, Nat.add_comm 16]
    · have none : (47 - rest.length) / 6 = 0 := by omega
      rw [appendItem_full hf room, ih hf hr, none, Nat.min_zero, Nat.min_zero, List.take_zero, List.take_zero]

end Sys2Proof.Machine

namespace Sys2Proof.Machine
open Sys2Proof

set_option Elab.async false

/-! ### The items of a SAMPLE taken in their order (02, R28) -/

/-- `t` has the point map, the modes and the address of `s`. -/
structure State.steady (s t : State) : Prop where
  cfg     : ∀ p, (t.point p).map Point.cfg = (s.point p).map Point.cfg
  mode    : ∀ c, (t.chan c).mode = (s.chan c).mode
  address : t.address = s.address

/-- A point that has taken an item at the instant `now` (02, R30 to R33). -/
def Point.taken (x : Point) (i : SampleItem) (now : Nat) : Point :=
  { x with
    value := some (x.cfg.valueOf i.raw)
    fresh := true
    timer := some (now + x.cfg.timeout)
    quality := some i.quality
    accepted := some now }

theorem acceptItem_eq (p : PointId) (x : Point) (i : SampleItem) (s : State) :
    acceptItem p x i s = tellAccepted p x.cfg i.raw (s.setPoint p (some (x.taken i s.now))) := rfl

namespace State.steady

variable {s t u : State}

theorem refl (s : State) : s.steady s := ⟨fun _ => rfl, fun _ => rfl, rfl⟩

theorem trans (h : s.steady t) (g : t.steady u) : s.steady u :=
  ⟨fun p => (g.cfg p).trans (h.cfg p), fun c => (g.mode c).trans (h.mode c), g.address.trans h.address⟩

theorem event (h : s.eventOnly t) (hm : ∀ c, (t.chan c).mode = (s.chan c).mode) : s.steady t :=
  ⟨fun p => by rw [State.point, h.points]; rfl, hm, congrArg Outer.address h.outer⟩

theorem moves (h : s.moves t) : s.steady t := event h.event fun c => h.keeps Channel.mode c

theorem alarm (h : s.alarmUnitOnly t) : s.steady t := event h.event fun c => by rw [h.chan]

theorem chan (s : State) (ch : ChanId) {f : Channel → Channel} (hf : (f (s.chan ch)).mode = (s.chan ch).mode) :
    s.steady (s.modChan ch f) :=
  event (modChan_stagingOnly ch f s).event fun c => by
    rw [State.modChan_chan]
    split
    · next e => rw [hf, e]
    · rfl

theorem setPoint {p : PointId} {x y : Point} (hx : s.point p = some x) (hy : y.cfg = x.cfg) :
    s.steady (s.setPoint p (some y)) := by
  refine ⟨fun q => ?_, fun _ => rfl, rfl⟩
  rw [State.setPoint_point]
  split
  · next e => rw [e, hx, Option.map_some, Option.map_some, hy]
  · rfl

theorem frozenPass (ch : ChanId) (s : State) : s.steady (frozenPass ch s) := by
  unfold Machine.frozenPass
  rw [volumeStage_eq, State.modChan_modChan]
  exact chan s ch (Channel.counted_keeps Channel.mode _ _ _ ((s.chan ch).setAcct fun a => { a with offSpec := true }))

theorem takePass (ch : ChanId) (s : State) : s.steady (takePass ch s) := by
  have full : s.steady (fullPass ch s) := by
    have passed := fullPass_fullyPassed ch s
    refine event passed.event fun c => ?_
    by_cases e : c = ch
    · rw [e]
      exact passed.keeps Channel.mode
    · exact Channel.of_butList Channel.mode (fun _ => rfl) (passed.other c e)
  unfold Machine.takePass
  split
  · exact full
  · exact full
  · exact full
  · exact full
  · exact frozenPass ch s
  · exact .refl s

theorem uvtFresh (ch : ChanId) (s : State) : s.steady (uvtFresh ch s) :=
  (chan s ch (f := fun c => { c with uvtUse := .fresh, uvtHold := none }) rfl).trans
    (alarm (judgeUvtStale_alarmUnitOnly ch _))

theorem tellAccepted (p : PointId) (c : PointCfg) (raw : Nat) (s : State) : s.steady (tellAccepted p c raw s) := by
  unfold Machine.tellAccepted
  split
  · next ch _ =>
    split
    · exact ((chan s ch (f := fun c => c.setAcct fun a => { a with fallback := none }) rfl).trans
        (alarm (judgeFlowStale_alarmUnitOnly ch _))).trans (takePass ch _)
    · exact .refl s
  · refine forEach_relates refl trans (fun ch _ s => ?_) s
    split
    · exact uvtFresh ch s
    · exact .refl s
  · next b _ =>
    split
    · exact (alarm (judgeIntensityStale_alarmUnitOnly b s)).trans (moves (.takeSample .refl b _))
    · exact .refl s
  · next b _ =>
    split
    · exact moves (.wiperReport .refl b _)
    · exact .refl s

theorem intakeItem (src : Nat) (i : SampleItem) (s : State) : s.steady (intakeItem src i s) := by
  unfold Machine.intakeItem
  split
  · exact .refl s
  · next p _ =>
    cases hx : s.point p with
    | none => exact .refl s
    | some x =>
      dsimp only
      split
      · rw [acceptItem_eq]
        exact (setPoint (y := x.taken i s.now) hx rfl).trans (tellAccepted p x.cfg i.raw _)
      · exact .refl s

theorem servingPoint (h : s.steady t) (q : Targets → Bool) : t.servingPoint q = s.servingPoint q := by
  unfold State.servingPoint
  congr 1
  funext p
  have map := h.cfg p
  cases hs : s.point p <;> cases ht : t.point p <;> simp_all

theorem matchPoint (h : s.steady t) (src index : Nat) : t.matchPoint src index = s.matchPoint src index := by
  unfold State.matchPoint
  congr 1
  funext p
  have map := h.cfg p
  cases hs : s.point p <;> cases ht : t.point p <;> simp_all

end State.steady

/-- The pass that an item triggers, by its point's entry (01, R3). -/
theorem State.passOf_iff (s : State) (src : Nat) (i : SampleItem) (ch : ChanId) : s.passOf src i = some ch ↔
    ∃ p c, s.matchPoint src i.index = some p ∧ (s.point p).map Point.cfg = some c ∧ c.targets = .flow ch ∧
      c.accepts i = true ∧ s.flowPoint ch = some p ∧ (s.chan ch).mode ≠ .unarmed := by
  unfold State.passOf
  cases hp : s.matchPoint src i.index with
  | none => simp
  | some p =>
    cases hx : s.point p with
    | none => simp [hx]
    | some x =>
      dsimp only
      rw [hx]
      dsimp only
      split
      · next c ht =>
        simp only [Option.ite_none_right_eq_some, Bool.and_eq_true, decide_eq_true_eq, Option.some.injEq, exists_and_left,
          exists_eq_left', hx, Option.map_some, ht, Targets.flow.injEq]
        constructor
        · rintro ⟨⟨⟨accepts, serves⟩, armed⟩, rfl⟩
          exact ⟨rfl, accepts, serves, armed⟩
        · rintro ⟨rfl, accepts, serves, armed⟩
          exact ⟨⟨⟨accepts, serves⟩, armed⟩, rfl⟩
      · next other =>
        simp only [reduceCtorEq, Option.some.injEq, exists_and_left, exists_eq_left', hx, Option.map_some, false_iff]
        exact fun ⟨ht, _⟩ => other _ ht

theorem State.steady.passOf {s t : State} (h : s.steady t) (src : Nat) (i : SampleItem) :
    t.passOf src i = s.passOf src i := by
  refine Option.ext fun ch => ?_
  rw [State.passOf_iff, State.passOf_iff]
  simp only [h.matchPoint, h.cfg, h.mode, State.flowPoint, h.servingPoint]

theorem intakeItems_fst (src : Nat) (l : List SampleItem) (s : State) :
    (intakeItems src l s).1 = l.foldl (fun u i => intakeItem src i u) s := by
  induction l generalizing s with
  | nil => rfl
  | cons i l ih =>
    rw [List.foldl_cons, ← ih, intakeItems]
    split <;> rfl

theorem intakeItems_steady (src : Nat) (l : List SampleItem) (s : State) :
    s.steady (l.foldl (fun u i => intakeItem src i u) s) := by
  induction l generalizing s with
  | nil => exact .refl s
  | cons i l ih => exact (State.steady.intakeItem src i s).trans (ih _)

theorem mem_intakeItems (src : Nat) (l : List SampleItem) (s : State) (ch : ChanId) :
    ch ∈ (intakeItems src l s).2 ↔ ∃ i ∈ l, s.passOf src i = some ch := by
  induction l generalizing s with
  | nil => simp [intakeItems]
  | cons i l ih =>
    have more := ih (intakeItem src i s)
    simp only [(State.steady.intakeItem src i s).passOf] at more
    rw [intakeItems]
    split
    · next c hc => simp [more, hc, eq_comm]
    · next hc => simp [more, hc]

/-- Whether an entry names a source (02, R26). -/
def Point.names (src index : Nat) (x : Point) : Bool :=
  x.cfg.station = src && x.cfg.index = index

theorem State.matchPoint_eq (s : State) (src index : Nat) :
    s.matchPoint src index = allPoints.find? fun p => (s.point p).any (Point.names src index) := by
  unfold State.matchPoint
  congr 1
  funext p
  cases s.point p <;> rfl

theorem Point.names_iff (src index : Nat) (o : Option Point) : o.any (Point.names src index) = true ↔
    ∃ x, o = some x ∧ x.cfg.station = src ∧ x.cfg.index = index := by
  cases o <;> simp [Point.names]

/-- An entry that alone names a source is the point of its items (02, R26, R28). -/
theorem State.matchPoint_of {s : State} {src index : Nat} {p : PointId} {x : Point} (hx : s.point p = some x)
    (hs : x.cfg.station = src) (hi : x.cfg.index = index)
    (unique : ∀ q y, s.point q = some y → y.cfg.station = x.cfg.station → y.cfg.index = x.cfg.index → q = p) :
    s.matchPoint src index = some p := by
  rw [State.matchPoint_eq]
  obtain ⟨q, hq⟩ : ∃ q, (allPoints.find? fun q => (s.point q).any (Point.names src index)) = some q := by
    rw [← Option.isSome_iff_exists, List.find?_isSome]
    exact ⟨p, List.mem_finRange p, (Point.names_iff _ _ _).mpr ⟨x, hx, hs, hi⟩⟩
  obtain ⟨y, hy, hs', hi'⟩ := (Point.names_iff _ _ _).mp
    (List.find?_some (p := fun p => (s.point p).any (Point.names src index)) hq)
  rw [hq, unique q y hy (hs'.trans hs.symm) (hi'.trans hi.symm)]

theorem State.matchPoint_iff {s : State} (h : s.entriesUnique) (src index : Nat) (p : PointId) :
    s.matchPoint src index = some p ↔ ∃ x, s.point p = some x ∧ x.cfg.station = src ∧ x.cfg.index = index := by
  constructor
  · intro found
    rw [State.matchPoint_eq] at found
    exact (Point.names_iff _ _ _).mp (List.find?_some (p := fun p => (s.point p).any (Point.names src index)) found)
  · rintro ⟨x, hx, hs, hi⟩
    obtain ⟨points, _⟩ := h
    exact State.matchPoint_of hx hs hi fun q y hy => points q p y x hy hx

end Sys2Proof.Machine

namespace Sys2Proof.Machine
open Sys2Proof

set_option Elab.async false

/-! ### A tapped SAMPLE goes on, annotated (08, R138, R141) -/

/-- An item of a flow point is accepted by its quality and its range (02, R29). -/
theorem PointCfg.accepts_flow {c : PointCfg} {ch : ChanId} (h : c.targets = .flow ch) (i : SampleItem) :
    c.accepts i = ((i.quality = .good || i.quality = .suspect) && c.rawMin ≤ i.raw && i.raw ≤ c.rawMax) := by
  rw [PointCfg.accepts, h, Targets.wiperRole, Bool.not_false, Bool.true_or, Bool.and_true]

/-- An item that triggers a pass of the channel, found by its point's entry (01, R3; 02, R28). -/
theorem State.passOf_entry {s : State} (h : s.entriesUnique) (src : Nat) (i : SampleItem) (ch : ChanId) :
    s.passOf src i = some ch ↔ ∃ p x, s.point p = some x ∧ x.cfg.station = src ∧ x.cfg.index = i.index ∧
      x.cfg.targets = .flow ch ∧ (i.quality = .good ∨ i.quality = .suspect) ∧ x.cfg.rawMin ≤ i.raw ∧
      i.raw ≤ x.cfg.rawMax ∧ s.flowPoint ch = some p ∧ (s.chan ch).mode ≠ .unarmed := by
  rw [State.passOf_iff]
  constructor
  · rintro ⟨p, c, found, cfg, flow, accepts, serves, armed⟩
    obtain ⟨x, hx, station, index⟩ := (State.matchPoint_iff h _ _ _).mp found
    rw [hx, Option.map_some, Option.some.injEq] at cfg
    subst cfg
    rw [PointCfg.accepts_flow flow] at accepts
    simp only [Bool.and_eq_true, Bool.or_eq_true, decide_eq_true_eq] at accepts
    obtain ⟨⟨quality, low⟩, high⟩ := accepts
    exact ⟨p, x, hx, station, index, flow, quality, low, high, serves, armed⟩
  · rintro ⟨p, x, hx, station, index, flow, quality, low, high, serves, armed⟩
    refine ⟨p, x.cfg, (State.matchPoint_iff h _ _ _).mpr ⟨x, hx, station, index⟩, by rw [hx]; rfl, flow, ?_,
      serves, armed⟩
    rw [PointCfg.accepts_flow flow]
    simp only [Bool.and_eq_true, Bool.or_eq_true, decide_eq_true_eq]
    exact ⟨⟨quality, low⟩, high⟩

/-- The annotated frame of a SAMPLE: one item for each channel that took a pass, as many as there is room for. -/
theorem annotate_sampleBytes {items : List SampleItem} {a : Nat} {old : List Byte} (t : State) (chs : List ChanId)
    (dst src : Byte) (ho : old.length = 6 * a) (hl : 1 + 3 * items.length + 6 * a ≤ 48) :
    annotate t chs ⟨dst, src, 0x01, sampleBytes items a old⟩ =
      ⟨dst, src, 0x01, BitVec.ofNat 8 (items.length + 16 * (a + min (allChans.filter chs.contains).length
          ((47 - 3 * items.length - 6 * a) / 6))) ::
        (items.flatMap SampleItem.toBytes ++ old ++ ((allChans.filter chs.contains).take
          (min (allChans.filter chs.contains).length ((47 - 3 * items.length - 6 * a) / 6))).flatMap t.annotation)⟩ := by
  have length : (items.flatMap SampleItem.toBytes ++ old).length = 3 * items.length + 6 * a := by
    rw [List.length_append, flatMap_toBytes_length, ho]
  have room : 47 - (items.flatMap SampleItem.toBytes ++ old).length = 47 - 3 * items.length - 6 * a := by
    rw [length]
    omega
  rw [annotate, appendItems_eq t _ rfl (by rw [length]; omega), room, Nat.add_assoc, ← Nat.mul_add]

section PassOn

variable {s : State} {f : Frame}

theorem passOn_addressed (p : Port) (h : stationOf f.dst = s.address) : passOn p f s = s :=
  if_pos (decide_eq_true h)

theorem passOn_forward (p : Port) (h : stationOf f.dst ≠ s.address) : passOn p f s = endEvent (forwardFrame p f s) :=
  if_neg fun g => h (of_decide_eq_true g)

theorem passOn_room (hs : s.atRest) (h : stationOf f.dst ≠ s.address) (room : s.north.queue.length < 16) :
    passOn .south f s = s.modPort .north fun ps => { ps with queue := ps.queue ++ [⟨f, false, false⟩] } := by
  rw [passOn_forward .south h, forwardFrame_room .south f s room]
  exact endEvent_atRest (hs.of_eq rfl rfl)

/-- `t` is `s` after a tapped frame has been discarded, forwarded north or lost (08, R138, R143). -/
structure State.HasPassedOn (s t : State) (f : Frame) : Prop where
  onlyAlarms : s.onlyAlarms t (tapped := some f)
  alarm      : ∀ k i, k ≠ .transitOverrun → t.alarm k i = s.alarm k i

/-- A frame received on the south port goes on as `onlyAlarms` says. -/
theorem passOn_hasPassedOn (hs : s.atRest) : s.HasPassedOn (passOn .south f s) f := by
  by_cases addressed : stationOf f.dst = s.address
  · rw [passOn_addressed .south addressed]
    refine ⟨⟨rfl, [], by simp [State.areAlerts], ?_⟩, fun _ _ _ => rfl⟩
    simp [State.goingOn, addressed]
  by_cases room : s.north.queue.length < 16
  · rw [passOn_room hs addressed room]
    refine ⟨⟨rfl, [], by simp [State.areAlerts], ?_⟩, fun _ _ _ => rfl⟩
    simp [State.goingOn, addressed, State.modPort]
    omega
  · have full : 16 ≤ s.north.queue.length := by omega
    rw [passOn_forward .south addressed, forwardFrame_full .south f s full]
    refine ⟨?_, fun k i hk => ?_⟩
    · obtain ⟨same, made, alerts, north⟩ := (raise_alarmUnitOnly .transitOverrun _ s).onlyAlarms hs
        ((State.notesSound.atRest hs).raise (by decide : portNumber (otherPort .south) < AlarmKind.scope .transitOverrun))
      refine ⟨same, made, alerts, north.trans (congrArg _ ?_)⟩
      exact (if_pos (.inr (by omega))).symm
    · rw [endEvent_alarm, raise_alarm_ne (alarmSlot_kind hk)]

end PassOn

/-- The channels that take passes at a SAMPLE's items, in channel order (01, R3, R21). -/
theorem passed_filter {s : State} (h : s.entriesUnique) (src : Nat) (items : List SampleItem) :
    allChans.filter (intakeItems src items s).2.contains =
      allChans.filter (fun ch => items.any fun i => (List.finRange 96).any fun p => match s.point p with
        | some x => x.cfg.station = src && x.cfg.index = i.index && x.cfg.targets = .flow ch &&
            (i.quality = .good || i.quality = .suspect) && x.cfg.rawMin ≤ i.raw && i.raw ≤ x.cfg.rawMax &&
            s.flowPoint ch = some p && (s.chan ch).mode ≠ .unarmed
        | none => false) := by
  refine List.filter_congr fun ch _ => ?_
  rw [Bool.eq_iff_iff, List.contains_iff_mem, mem_intakeItems, List.any_eq_true]
  refine exists_congr fun i => and_congr_right fun _ => ?_
  rw [State.passOf_entry h, List.any_eq_true]
  refine exists_congr fun p => ?_
  cases hp : s.point p with
  | none => simp
  | some x => simp [and_assoc, List.mem_finRange]

/-- A SAMPLE frame is taken item by item, and goes on annotated. -/
theorem severalItemsTaken {dst src : Byte} {items : List SampleItem} {old : List Byte} {a : Nat} {chs : List ChanId}
    {s v : State} (hn : s.normal) (h1 : 1 ≤ items.length) (h8 : items.length ≤ 8)
    (hi : ∀ i ∈ items, i.index < 16 ∧ i.raw < 65536) (ho : old.length = 6 * a)
    (hl : 1 + 3 * items.length + 6 * a ≤ 48) (hv : v = items.foldl (fun u i => intakeItem (stationOf src) i u) s)
    (hc : chs = allChans.filter (intakeItems (stationOf src) items s).2.contains) :
    exec (.sampleFrame dst src (sampleBytes items a old)) s = .next (passOn .south
      ⟨dst, src, 0x01, BitVec.ofNat 8 (items.length + 16 * (a + min chs.length ((47 - 3 * items.length - 6 * a) / 6))) ::
        (items.flatMap SampleItem.toBytes ++ old ++
          (chs.take (min chs.length ((47 - 3 * items.length - 6 * a) / 6))).flatMap (endEvent v).annotation)⟩
      (endEvent v)) := by
  have length := sampleBytes_length (items := items) ho
  rw [exec_sampleFrame hn (by omega) (sampleItems_bytes h1 h8 hi ho hl), annotate_sampleBytes _ _ _ _ ho hl, ← hc,
    intakeItems_fst, ← hv]

end Sys2Proof.Machine

namespace Sys2Proof.Machine
open Sys2Proof

set_option Elab.async false

/-! ### Where the pass of a flow sample starts (01, R3, R4; 02, R32, R36) -/

theorem State.fullResult_stopFallback (s : State) (ch : ChanId) :
    (stopFallback ch s).fullResult ch = s.fullResult ch := by
  have chan : (stopFallback ch s).chan ch = (s.chan ch).setAcct fun a => { a with fallback := none } :=
    State.modChan_chan_self s ch _
  unfold State.fullResult State.flowOutOfRange State.uvtNow State.measuredFlow
  dsimp only
  rw [chan]
  rfl

theorem State.alarmUnitOnly.fullResult {s t : State} (h : s.alarmUnitOnly t) (ch : ChanId) :
    t.fullResult ch = s.fullResult ch := by
  obtain ⟨_, _, _, rfl⟩ := h
  rfl

/-- A channel whose fallback timer is set (01, R4). -/
def Channel.withFallback (d : Timer) (c : Channel) : Channel :=
  c.setAcct fun a => { a with fallback := d }

theorem Channel.accrued_withFallback (l now : Nat) (d : Timer) (c : Channel) :
    (c.withFallback d).accrued l now = (c.accrued l now).withFallback d := by
  by_cases h : c.acct.backlog = 0 ∧
      0 < ({ c.acct with pulseRem := c.acct.pulseRem + l }.toBacklog (c.get .pulseVolume)).backlog ∧ c.pulsePhase = .idle
  · rw [show c.accrued l now = _ from if_pos h]
    exact if_pos h
  · rw [show c.accrued l now = _ from if_neg h]
    exact if_neg h

theorem Channel.counted_withFallback (v now : Nat) (offSpec : Bool) (d : Timer) (c : Channel) :
    (c.withFallback d).counted v offSpec now = (c.counted v offSpec now).withFallback d := by
  cases offSpec with
  | false => rfl
  | true =>
    exact Channel.accrued_withFallback ((c.acct.offMl + v) / 1000) now d
      ((c.setAcct fun a => { a.addTotal v with lastPass := some now }).setAcct fun a => a.addOff v)

/-- The channel updates of a pass do not reach the fallback timer. -/
theorem Channel.passing_withFallback (r : PassResult) (v now : Nat) (d : Timer) (c : Channel) :
    (c.withFallback d).passing r v now = (c.passing r v now).withFallback d := by
  have counted := Channel.counted_withFallback v now r.offSpec d (c.setAcct fun a => a.judged r (c.get .dtarget))
  exact congrArg (fun x : Channel => { x with power := { x.power with
    pd := x.nextDemand (doseError (c.get .dtarget) r.dose), ePrev := doseError (c.get .dtarget) r.dose } }) counted

/-- `u` is the state in which the pass of an accepted sample of the flow point `p` starts: the point is `y`, the fallback
timer is stopped, and FLOW_STALE is judged. -/
structure State.Starts (s u : State) (ch : ChanId) (p : PointId) (y : Point) : Prop where
  frame : (stopFallback ch (s.setPoint p (some y))).alarmUnitOnly u
  stale : (u.alarm .flowStale ch.1).cause = false
  sound : u.notesSound

section Starts

variable {s u : State} {ch : ChanId} {p : PointId} {y : Point}

theorem judgeFlowStale_starts (hs : s.atRest) (hp : (s.setPoint p (some y)).flowPoint ch = some p) (hf : y.fresh = true) :
    s.Starts (judgeFlowStale ch (stopFallback ch (s.setPoint p (some y)))) ch p y := by
  have rest : (stopFallback ch (s.setPoint p (some y))).atRest := hs.of_eq rfl rfl
  have served : (stopFallback ch (s.setPoint p (some y))).flowPoint ch = some p := hp
  have point : (stopFallback ch (s.setPoint p (some y))).point p = some y := by
    exact (State.setPoint_point s p p (some y)).trans (if_pos rfl)
  refine ⟨judgeFlowStale_alarmUnitOnly ch _, ?_, (State.notesSound.atRest rest).report ch.isLt _⟩
  rw [judgeFlowStale, report_cause, served, State.freshPoint_some point, hf]
  simp

namespace State.Starts

theorem chan (h : s.Starts u ch p y) : u.chan ch = (s.chan ch).withFallback none :=
  (h.frame.chan ch).trans (State.modChan_chan_self _ ch _)

theorem other (h : s.Starts u ch p y) {d : ChanId} (hd : d ≠ ch) : u.chan d = s.chan d :=
  (h.frame.chan d).trans ((State.modChan_chan _ ch d _).trans (if_neg hd))

theorem keeps {α : Type} (h : s.Starts u ch p y) (f : Channel → α) (d : ChanId)
    (hf : ∀ (x : Channel) (a : Accounting), f { x with acct := a } = f x := by intro _ _; rfl) :
    f (u.chan d) = f (s.chan d) := by
  by_cases e : d = ch
  · rw [e, h.chan]
    exact hf _ _
  · rw [h.other e]

theorem bank (h : s.Starts u ch p y) (b : BankId) : u.bank b = s.bank b := h.frame.bank b

theorem lamps (h : s.Starts u ch p y) : u.lamps = s.lamps := h.frame.lamps.1

theorem slotsMade (h : s.Starts u ch p y) : u.slotsMade = s.slotsMade := h.frame.lamps.2

theorem point (h : s.Starts u ch p y) (q : PointId) : u.point q = if q = p then some y else s.point q := by
  rw [State.point, h.frame.points]
  exact State.setPoint_point s p q (some y)

/-- Outside its point, its channel and the alarm unit the state stands. -/
theorem same (h : s.Starts u ch p y) :
    ∃ c x a l d, u = { s with channels := c, points := x, alarms := a, alertLine := l, alertsDue := d } := by
  obtain ⟨a, l, d, e⟩ := h.frame
  exact ⟨_, _, a, l, d, e⟩

theorem outer (h : s.Starts u ch p y) : u.outer = s.outer := by
  obtain ⟨_, _, _, _, _, rfl⟩ := h.same
  rfl

theorem now (h : s.Starts u ch p y) : u.now = s.now := congrArg Outer.now h.outer

theorem elapsed (h : s.Starts u ch p y) : u.elapsed ch = s.elapsed ch := by
  unfold State.elapsed
  rw [h.chan, h.now]
  rfl

theorem fullResult (h : s.Starts u ch p y) : u.fullResult ch = (s.setPoint p (some y)).fullResult ch :=
  (h.frame.fullResult ch).trans (State.fullResult_stopFallback _ ch)

theorem pass (h : s.Starts u ch p y) (r : PassResult) :
    (u.pass ch r (u.chan ch)).recoded.passed = (s.pass ch r (s.chan ch)).recoded.passed := by
  rw [State.pass, State.pass, h.chan, h.elapsed, h.now, Channel.passing_withFallback]
  rfl

theorem takesCode (h : s.Starts u ch p y) (x : Lamp) : u.takesCode ch x ↔ s.takesCode ch x := by
  rw [State.takesCode, State.takesCode, State.codeReaches, State.codeReaches, h.bank]

end State.Starts

end Starts

/-! ### The lamps a code change reaches, at the end of the event (04, R69; 07, R131) -/

theorem coded_ends {s u t : State} {code : Nat} {P : LampId → Lamp → Prop} (h : s.CodedAt u code P)
    (hs : s.slotsMade = []) (e : u.Ends t) {k : LampId} {y : Lamp} (hy : s.lamp k = some y) :
    (¬ P k y → t.lamp k = some y) ∧
      (P k y → ∃ z, t.lamp k = some z ∧ z = { y with cmd := z.cmd } ∧
        (∀ c, y.cmd = some (.strike c) → z.cmd = some (.strike code)) ∧
        ((∀ c, y.cmd ≠ some (.strike c)) → u.cmdMade t y z (.set code))) := by
  obtain ⟨reached, unreached⟩ := h.lamp k y hy
  have tried : lampPos k ∈ u.slotsMade ↔ P k y ∧ y.cmd = none := by
    rw [h.slots, hs]
    simp [hy]
  rcases e.lamp k with ⟨kept, full⟩ | ⟨x, c, hx, hc, sent, south, made⟩
  · refine ⟨fun hP => kept.trans (unreached hP), fun hP => ?_⟩
    refine ⟨y.coded code, kept.trans (reached hP), rfl, fun c hc => ?_, fun other => .inl ⟨?_, ?_⟩⟩
    · rw [Lamp.coded, hc]
      rfl
    · have merged : mergeCmd y.cmd (.set code) = .set code := by
        unfold mergeCmd
        split
        · next c _ hc _ => exact absurd hc (other c)
        · rfl
      rw [Lamp.coded, merged]
    · by_cases empty : y.cmd = none
      · exact .inr (full (tried.mpr ⟨hP, empty⟩) _ (reached hP) (Option.some_ne_none _))
      · exact .inl empty
  · obtain ⟨hP, empty⟩ := tried.mp made
    rw [reached hP] at hx
    obtain rfl := Option.some.inj hx
    have set : c = .set code := by
      rw [Lamp.coded, empty] at hc
      exact (Option.some.inj hc).symm
    refine ⟨fun hn => absurd hP hn, fun _ => ⟨_, sent, rfl, fun c hc => ?_, fun _ => .inr ⟨empty, rfl, set ▸ south⟩⟩⟩
    rw [empty] at hc
    cases hc

theorem State.cmdMade_congr {s t u w : State} {x z : Lamp} {c : LampCmd} (h : u.cmdMade w x z c)
    (hu : u.address = s.address) (hus : u.south = s.south) (hw : w.address = t.address) (hws : w.south = t.south) :
    s.cmdMade t x z c := by
  unfold State.cmdMade State.sentSouth State.southFull State.repeater State.ownFrame at *
  rw [hu, hus, hw, hws] at h
  exact h

end Sys2Proof.Machine

namespace Sys2Proof.Machine
open Sys2Proof

set_option Elab.async false

/-! ### The frame that goes on (08, R138, R143) -/

namespace State.HasPassedOn

variable {s t : State} {f : Frame}

theorem chan (h : s.HasPassedOn t f) (c : ChanId) : t.chan c = s.chan c := by
  have same := congrArg (fun x : State => x.chan c) h.onlyAlarms.1
  exact same

theorem bank (h : s.HasPassedOn t f) (b : BankId) : t.bank b = s.bank b := by
  have same := congrArg (fun x : State => x.bank b) h.onlyAlarms.1
  exact same

theorem lamps (h : s.HasPassedOn t f) : t.lamps = s.lamps := by
  have same := congrArg State.lamps h.onlyAlarms.1
  exact same

theorem lamp (h : s.HasPassedOn t f) (l : LampId) : t.lamp l = s.lamp l := by
  rw [State.lamp, h.lamps]
  rfl

theorem points (h : s.HasPassedOn t f) : t.points = s.points := by
  have same := congrArg State.points h.onlyAlarms.1
  exact same

theorem south (h : s.HasPassedOn t f) : t.south = s.south := by
  have same := congrArg State.south h.onlyAlarms.1
  exact same

theorem outer (h : s.HasPassedOn t f) : t.outer = s.outer := by
  have same := congrArg State.outer h.onlyAlarms.1
  exact same

theorem devices (h : s.HasPassedOn t f) : t.devices = s.devices := by
  have same := congrArg State.devices h.onlyAlarms.1
  exact same

theorem north (h : s.HasPassedOn t f) : ∃ made, s.areAlerts made ∧
    t.north.queue = s.north.queue ++ made ++ s.goingOn f made.length := h.onlyAlarms.2

end State.HasPassedOn

/-! ### An accepted flow sample of an armed channel (01, R3, R4, R20, R21) -/

/-- An accepted sample of the flow point `p`, which becomes `y`, has started a pass of the channel in the state `w`; the
pass with the results `r` led to `u`, the event ended in `v`, and with the frame gone on the state is `t`. -/
structure State.TookSample (s w u v t : State) (ch : ChanId) (p : PointId) (y : Point) (r : PassResult) (f : Frame) :
    Prop where
  starts : s.Starts w ch p y
  result : r = w.fullResult ch
  full   : u = fullPass ch w
  ends   : u.Ends v
  onward : v.HasPassedOn t f

namespace State.TookSample

variable {s w u v t : State} {ch : ChanId} {p : PointId} {y : Point} {r : PassResult} {f : Frame}

theorem passed (h : s.TookSample w u v t ch p y r f) : w.FullyPassed u ch r := by
  rw [h.full, h.result]
  exact fullPass_fullyPassed ch w

theorem chan (h : s.TookSample w u v t ch p y r f) (c : ChanId) : t.chan c = u.chan c :=
  (h.onward.chan c).trans (h.ends.chan c)

theorem alarm (h : s.TookSample w u v t ch p y r f) {k : AlarmKind} (hk : k ≠ .transitOverrun) (i : Nat) :
    t.alarm k i = u.alarm k i :=
  (h.onward.alarm k i hk).trans (h.ends.alarm k i)

theorem outer (h : s.TookSample w u v t ch p y r f) : t.outer = s.outer :=
  (h.onward.outer.trans h.ends.outer).trans (h.passed.event.outer.trans h.starts.outer)

theorem keeps {α : Type} (h : s.TookSample w u v t ch p y r f) (g : Channel → α)
    (hf : ∀ x : Channel, g x.passed = g x := by intro _; rfl)
    (hv : ∀ x : Channel, g x.butVolumes = g x := by intro _; rfl)
    (ha : ∀ (x : Channel) (a : Accounting), g { x with acct := a } = g x := by intro _ _; rfl)
    (hp : ∀ (x : Channel) (q : Power), g { x with power := q } = g x := by intro _ _; rfl) :
    g (t.chan ch) = g (s.chan ch) := by
  rw [h.chan, h.passed.keeps g hf hv ha hp, h.starts.keeps g ch ha]

theorem point (h : s.TookSample w u v t ch p y r f) (q : PointId) :
    t.point q = if q = p then some y else s.point q := by
  rw [← h.starts.point, State.point, h.onward.points, h.ends.points, h.passed.event.points]
  rfl

theorem other (h : s.TookSample w u v t ch p y r f) {d : ChanId} (hd : d ≠ ch) :
    (t.chan d).butList = (s.chan d).butList := by
  rw [h.chan, h.passed.other d hd, h.starts.other hd]

theorem tables (h : s.TookSample w u v t ch p y r f) {x : Point} (hx : s.point p = some x) (hy : y.cfg = x.cfg) :
    t.tables = s.tables := by
  have devices : w.devices = s.devices := by
    obtain ⟨_, _, _, _, _, e⟩ := h.starts.same
    rw [e]
    rfl
  refine State.tables_eq (fun c => ?_) (fun b => ?_) (fun l => ?_) (fun q => ?_) ?_
  · rw [h.chan, h.passed.chanTables, h.starts.keeps Channel.tables]
  · rw [h.onward.bank, h.ends.bankKeeps Bank.entryPart, h.passed.entry, h.starts.bank]
  · rw [h.onward.lamp, h.ends.entry, h.passed.lampEntry, State.lamp, h.starts.lamps]
    rfl
  · rw [h.point]
    split
    · next e => rw [e, hx, Option.map_some, Option.map_some, hy]
    · rfl
  · exact (h.onward.devices.trans h.ends.devices).trans (h.passed.event.devices.trans devices)

theorem passTaken (h : s.TookSample w u v t ch p y r f) : s.passTaken t ch r := by
  refine passTaken_of ?_
  rw [h.chan]
  exact h.passed.passed.trans (h.starts.pass r)

theorem fallback (h : s.TookSample w u v t ch p y r f) : (t.chan ch).acct.fallback = none := by
  rw [h.chan, h.passed.timer, h.starts.chan]
  rfl

/-- ALERT frames go north, and after them the frame as the queue allows. -/
theorem north (h : s.TookSample w u v t ch p y r f) : ∃ made, s.areAlerts made ∧
    t.north.queue = s.north.queue ++ made ++ s.goingOn f made.length := by
  obtain ⟨_, _, _, _, _, sampled⟩ := h.starts.same
  obtain ⟨_, _, _, _, _, _, _, event⟩ := h.passed.event
  obtain ⟨_, _, _, _, _, frames⟩ := h.ends.frame
  obtain ⟨before, alerts, queue⟩ := h.ends.north
  obtain ⟨after, late, queue'⟩ := h.onward.north
  have settings : v.areAlerts after = s.areAlerts after := by
    rw [frames, event, sampled]
    rfl
  have same : u.areAlerts before = s.areAlerts before ∧ u.north = s.north := by
    rw [event, sampled]
    exact ⟨rfl, rfl⟩
  have address : v.address = s.address := by
    rw [frames, event, sampled]
  rw [same.1] at alerts
  rw [same.2] at queue
  rw [settings] at late
  refine ⟨before ++ after, fun q hq => (List.mem_append.mp hq).elim (alerts q) (late q), ?_⟩
  rw [queue', State.goingOn, State.goingOn, queue, address, List.length_append, List.length_append, Nat.add_assoc,
    List.append_assoc s.north.queue]

theorem south (h : s.TookSample w u v t ch p y r f) :
    ∃ made, s.areCommands made ∧ t.south.queue = s.south.queue ++ made := by
  obtain ⟨_, _, _, _, _, sampled⟩ := h.starts.same
  obtain ⟨made, commands, queue⟩ := (h.passed.event.sends h.ends).2
  have same : w.areCommands made = s.areCommands made ∧ w.south = s.south := by
    rw [sampled]
    exact ⟨rfl, rfl⟩
  rw [same.1] at commands
  rw [same.2] at queue
  exact ⟨made, commands, by rw [h.onward.south, queue]⟩

theorem settle (h : s.TookSample w u v t ch p y r f) (b : BankId) : (t.bank b).tracker.settleTimer =
    if (t.chan ch).power.code ≠ (s.chan ch).power.code ∧ (s.bank b).owner = some ch then
      (if (s.bank b).get .settleTime = 0 then none else some (s.now + (s.bank b).get .settleTime))
    else (s.bank b).tracker.settleTimer := by
  have code : (w.chan ch).power.code = (s.chan ch).power.code := h.starts.keeps (fun c => c.power.code) ch
  rw [h.onward.bank, h.ends.bankKeeps (fun x => x.tracker.settleTimer), h.passed.settle, h.chan, code, h.starts.bank,
    h.starts.now]

theorem still (h : s.TookSample w u v t ch p y r f) (hs : s.slotsMade = [])
    (same : (t.chan ch).power.code = (s.chan ch).power.code) : t.lamps = s.lamps ∧ t.south = s.south := by
  have code : (w.chan ch).power.code = (s.chan ch).power.code := h.starts.keeps (fun c => c.power.code) ch
  rw [h.chan, ← code] at same
  obtain ⟨lamps, slots⟩ := h.passed.still same
  obtain ⟨lamps', south⟩ := h.ends.still (slots.trans (h.starts.slotsMade.trans hs))
  have before : u.south = s.south := by
    obtain ⟨_, _, _, _, _, sampled⟩ := h.starts.same
    obtain ⟨_, _, _, _, _, _, _, event⟩ := h.passed.event
    rw [event, sampled]
  exact ⟨(h.onward.lamps.trans lamps').trans (lamps.trans h.starts.lamps), (h.onward.south.trans south).trans before⟩

/-- The lamps that a code change reaches have the new code in a STRIKE, or a SET made (04, R69; 07, R131). -/
theorem lamp (h : s.TookSample w u v t ch p y r f) (hs : s.slotsMade = [])
    (differs : (t.chan ch).power.code ≠ (s.chan ch).power.code) {l : LampId} {x : Lamp} (hx : s.lamp l = some x) :
    (¬ s.takesCode ch x → t.lamp l = some x) ∧
      (s.takesCode ch x → ∃ z, t.lamp l = some z ∧ z = { x with cmd := z.cmd } ∧
        (∀ c, x.cmd = some (.strike c) → z.cmd = some (.strike (t.chan ch).power.code)) ∧
        ((∀ c, x.cmd ≠ some (.strike c)) → s.cmdMade t x z (.set (t.chan ch).power.code))) := by
  have code : (w.chan ch).power.code = (s.chan ch).power.code := h.starts.keeps (fun c => c.power.code) ch
  have before : u.address = s.address ∧ u.south = s.south := by
    obtain ⟨_, _, _, _, _, sampled⟩ := h.starts.same
    obtain ⟨_, _, _, _, _, _, _, event⟩ := h.passed.event
    rw [event, sampled]
    exact ⟨rfl, rfl⟩
  have hx' : w.lamp l = some x := by
    rw [State.lamp, h.starts.lamps]
    exact hx
  obtain ⟨unreached, reached⟩ := coded_ends h.passed.coded (h.starts.slotsMade.trans hs) h.ends hx'
  rw [← h.chan, code, h.starts.takesCode] at reached unreached
  rw [h.onward.lamp]
  refine ⟨fun out => unreached fun g => out g.2, fun hit => ?_⟩
  obtain ⟨z, hz, kept, strike, set⟩ := reached ⟨differs, hit⟩
  exact ⟨z, hz, kept, strike, fun other => State.cmdMade_congr (set other) before.1 before.2
    (congrArg Outer.address h.onward.outer).symm h.onward.south.symm⟩

end State.TookSample

end Sys2Proof.Machine

namespace Sys2Proof.Machine
open Sys2Proof

set_option Elab.async false

/-! ### The staging counters at the pass of a flow sample (05, R89, R92) -/

theorem doseError_pos (dtarget d : Nat) : 0 < doseError dtarget d ↔ d < dtarget := by
  unfold doseError clampInt
  omega

theorem doseError_neg (dtarget d : Nat) : doseError dtarget d < 0 ↔ dtarget < d := by
  unfold doseError clampInt
  omega

/-- A channel passing keeps what a pass does not move. -/
theorem Channel.of_passing {α : Type} {r : PassResult} {v now : Nat} {tm : Timer} {c d : Channel}
    (h : d = (c.withFallback tm).passing r v now) (g : Channel → α)
    (hv : ∀ x : Channel, g x.butVolumes = g x := by intro _; rfl)
    (ha : ∀ (x : Channel) (a : Accounting), g { x with acct := a } = g x := by intro _ _; rfl)
    (hp : ∀ (x : Channel) (q : Power), g { x with power := q } = g x := by intro _ _; rfl) : g d = g c := by
  rw [h, Channel.passing_keeps g r _ _ _ hv ha hp]
  exact ha c _

namespace State.TookSample

variable {s w u v t : State} {ch : ChanId} {p : PointId} {y : Point} {r : PassResult} {f : Frame}

/-- The state `d` in which the code of the pass is worked out, and the error `e` of the pass. -/
theorem handed (h : s.TookSample w u v t ch p y r f) : ∃ d e, u = handedOn ch e d ∧
    e = doseError ((s.chan ch).get .dtarget) r.dose ∧ (∀ b, d.bank b = s.bank b) ∧
    d.chan ch = Channel.passing r (r.qm * s.elapsed ch) s.now ((s.chan ch).withFallback none) := by
  have demand := demanded_alarmUnitOnly ch r w
  refine ⟨demanded ch r w, doseError ((w.chan ch).get .dtarget) r.dose, ?_, ?_, fun b => ?_, ?_⟩
  · rw [h.full, fullPass_eq, ← h.result, handedOn]
  · rw [h.starts.keeps (Channel.get · .dtarget)]
  · rw [demand.bank, State.modChan_bank, h.starts.bank]
  · rw [demand.chan, State.modChan_chan_self, State.pass, h.starts.chan, h.starts.elapsed, h.starts.now]

theorem counters_other (h : s.TookSample w u v t ch p y r f)
    (hc : (s.chan ch).mode ≠ .auto ∨ (s.chan ch).adoption ≠ none) :
    (t.chan ch).upCount = (s.chan ch).upCount ∧ (t.chan ch).downCount = (s.chan ch).downCount := by
  obtain ⟨d, e, handed, _, _, chan⟩ := h.handed
  have mode := Channel.of_passing chan Channel.mode
  have adoption := Channel.of_passing chan Channel.adoption
  obtain ⟨up, down⟩ := handedOn_counters_other (s := d) (ch := ch) (e := e) (by rwa [mode, adoption])
  rw [h.chan, handed, up, down]
  exact ⟨Channel.of_passing chan Channel.upCount,
    Channel.of_passing chan Channel.downCount⟩

theorem counters_auto (h : s.TookSample w u v t ch p y r f) (hl : s.listsSound) (hm : (s.chan ch).mode = .auto)
    (ha : (s.chan ch).adoption = none) :
    ((t.chan ch).startList ≠ (s.chan ch).startList → (t.chan ch).upCount = 0 ∧ (t.chan ch).downCount = 0) ∧
    ((t.chan ch).startList = (s.chan ch).startList →
      (t.chan ch).upCount = (if (t.chan ch).power.pd = 1000 ∧ r.dose < (s.chan ch).get .dtarget then
          min 255 ((s.chan ch).upCount + 1) else 0) ∧
      (t.chan ch).downCount = (if (t.chan ch).power.pd ≤ (s.chan ch).get .stageDownLevel ∧
          (s.chan ch).get .dtarget < r.dose then min 255 ((s.chan ch).downCount + 1) else 0)) := by
  obtain ⟨d, e, handed, error, bank, chan⟩ := h.handed
  have list := Channel.of_passing chan Channel.startList
  have mode := (Channel.of_passing chan Channel.mode).trans hm
  have adoption := (Channel.of_passing chan Channel.adoption).trans ha
  have up := Channel.of_passing chan Channel.upCount
  have down := Channel.of_passing chan Channel.downCount
  have level := Channel.of_passing chan (Channel.get · .stageDownLevel)
  have demand : (t.chan ch).power.pd = (d.chan ch).power.pd := by
    rw [h.chan, handed]
    exact Channel.of_butStaging (d := (d.chan ch).recoded) (fun c => c.power.pd) (fun _ => rfl) handedOn_chan
  have moved := Channel.moveCounters_auto (c := (d.chan ch).recoded) mode adoption e
  have own : ∀ b ∈ (d.chan ch).startList, (d.bank b).owner = some ch := fun b hb => by
    rw [list] at hb
    rw [bank]
    exact ((hl ch).2 b |>.mp hb).1
  rw [demand]
  rw [h.chan, handed]
  rcases handedOn_counters_auto (e := e) mode adoption own with ⟨same, ups, downs⟩ | ⟨acted, zero⟩
  · rw [list] at same
    refine ⟨fun differs => absurd same differs, fun _ => ?_⟩
    rw [ups, downs, moved, error]
    have upCount : (d.chan ch).recoded.upCount = (s.chan ch).upCount := up
    have downCount : (d.chan ch).recoded.downCount = (s.chan ch).downCount := down
    have stageDown : (d.chan ch).recoded.get .stageDownLevel = (s.chan ch).get .stageDownLevel := level
    have pd : (d.chan ch).recoded.power.pd = (d.chan ch).power.pd := rfl
    simp only [doseError_pos, doseError_neg, upCount, downCount, stageDown, pd, and_self]
  · rw [list] at acted
    exact ⟨fun _ => zero, fun same => absurd same acted⟩

end State.TookSample

/-! ### The frame of one item (11, R182) -/

theorem samplePayload_one (i : SampleItem) : samplePayload [i] = sampleBytes [i] 0 [] := by
  rw [samplePayload, sampleBytes, List.append_nil]
  rfl

theorem allChans_one (ch : ChanId) : allChans.filter [ch].contains = [ch] := by
  revert ch
  decide

/-- A lone item that reaches the flow point of an armed channel starts its pass (01, R3; 02, R28). -/
theorem intakeItems_flow {src : Nat} {i : SampleItem} {p : PointId} {x : Point} {ch : ChanId} {s : State}
    (found : s.matchPoint src i.index = some p) (hx : s.point p = some x) (accepts : x.cfg.accepts i = true)
    (flow : x.cfg.targets = .flow ch) (serves : s.flowPoint ch = some p) (armed : (s.chan ch).mode.armed = true) :
    intakeItems src [i] s =
      (fullPass ch (judgeFlowStale ch (stopFallback ch (s.setPoint p (some (x.taken i s.now))))), [ch]) := by
  have mode : (s.chan ch).mode ≠ .unarmed := fun e => by
    rw [e] at armed
    cases armed
  have passes : s.passOf src i = some ch :=
    (s.passOf_iff src i ch).mpr ⟨p, x.cfg, found, by rw [hx]; rfl, flow, accepts, serves, mode⟩
  obtain ⟨z, hz⟩ : ∃ z, z = s.setPoint p (some (x.taken i s.now)) := ⟨_, rfl⟩
  have steady : s.steady z := hz ▸ .setPoint hx rfl
  have serves' : z.flowPoint ch = some p := (steady.servingPoint _).trans serves
  have start : ((judgeFlowStale ch (stopFallback ch z)).chan ch).mode.armed = true := by
    rw [(judgeFlowStale_alarmUnitOnly ch _).chan, stopFallback, State.modChan_chan_self]
    exact (congrArg Mode.armed (steady.mode ch)).trans armed
  have takes : tellAccepted p x.cfg i.raw z = takePass ch (judgeFlowStale ch (stopFallback ch z)) := by
    unfold tellAccepted
    rw [flow]
    exact if_pos serves'
  have item : intakeItem src i s = fullPass ch (judgeFlowStale ch (stopFallback ch z)) := by
    unfold intakeItem
    rw [found]
    dsimp only
    rw [hx]
    dsimp only
    rw [if_pos accepts, acceptItem_eq, ← hz, takes, takePass_armed start]
  rw [← hz, ← item]
  have rest : intakeItems src [i] s = match s.passOf src i with
    | some ch => (intakeItem src i s, [ch])
    | none => (intakeItem src i s, []) := rfl
  rw [rest, passes]

end Sys2Proof.Machine

namespace Sys2Proof.Machine
open Sys2Proof

set_option Elab.async false

/-! ### The ballast code in figures (04, R68) -/

theorem ballastCode_low {c : Vector CurvePoint 8} {pd : Nat} (h : pd < (c.get 0).x) : ballastCode c pd = (c.get 0).y :=
  if_pos h

theorem ballastCode_full {c : Vector CurvePoint 8} {pd : Nat} (h : (c.get 0).x ≤ pd) (hp : pd = 1000) :
    ballastCode c pd = (c.get 7).y :=
  (if_neg (Nat.not_lt.mpr h)).trans (if_pos hp)

theorem ballastCode_between {c : Vector CurvePoint 8} {pd : Nat} (h : (c.get 0).x ≤ pd) (hp : pd ≠ 1000) :
    ballastCode c pd = curveValue c pd :=
  (if_neg (Nat.not_lt.mpr h)).trans (if_neg hp)

/-! ### The end of O18 -/

theorem PointCfg.valueOf_flow {c : PointCfg} {ch : ChanId} (h : c.targets = .flow ch) (raw : Nat) :
    c.valueOf raw = .num (clampInt ((raw * c.gain / 4096 : Nat) + c.offset) 0 65535).toNat := by
  unfold PointCfg.valueOf
  rw [h]
  rfl

/-- The frame of one item annotated for the channel whose pass it started (08, R141; 11, R182). -/
theorem annotate_one (v : State) (ch : ChanId) (dst src : Byte) (i : SampleItem) :
    annotate v [ch] ⟨dst, src, 0x01, samplePayload [i]⟩ =
      ⟨dst, src, 0x01, 0x11 :: ((samplePayload [i]).tail ++ v.annotation ch)⟩ := by
  rw [samplePayload_one, annotate_sampleBytes v [ch] dst src (a := 0) rfl (by simp), allChans_one]
  simp [sampleBytes]

/-- The event of a lone accepted item of the flow point of an armed channel. -/
theorem flowSample_took {dst src : Byte} {i : SampleItem} {p : PointId} {x : Point} {ch : ChanId} {s : State}
    (hs : s.atRest) (hn : s.normal) (hi : i.index < 16 ∧ i.raw < 65536)
    (found : s.matchPoint (stationOf src) i.index = some p) (hx : s.point p = some x) (accepts : x.cfg.accepts i = true)
    (flow : x.cfg.targets = .flow ch) (serves : s.flowPoint ch = some p) (armed : (s.chan ch).mode.armed = true) :
    ∃ w u v t, exec (.sampleFrame dst src (samplePayload [i])) s = .next t ∧
      s.TookSample w u v t ch p (x.taken i s.now) ((s.setPoint p (some (x.taken i s.now))).fullResult ch)
        ⟨dst, src, 0x01, 0x11 :: ((samplePayload [i]).tail ++ v.annotation ch)⟩ := by
  obtain ⟨z, hz⟩ : ∃ z, z = s.setPoint p (some (x.taken i s.now)) := ⟨_, rfl⟩
  have steady : s.steady z := hz ▸ .setPoint hx rfl
  obtain ⟨w, hw⟩ : ∃ w, w = judgeFlowStale ch (stopFallback ch z) := ⟨_, rfl⟩
  obtain ⟨u, hu⟩ : ∃ u, u = fullPass ch w := ⟨_, rfl⟩
  have starts : s.Starts w ch p (x.taken i s.now) := by
    rw [hw, hz]
    exact judgeFlowStale_starts hs (hz ▸ (steady.servingPoint _).trans serves) rfl
  have items := intakeItems_flow found hx accepts flow serves armed
  have one : sampleItems (samplePayload [i]) = some [i] := by
    rw [samplePayload_one]
    exact sampleItems_bytes (a := 0) (by simp) (by simp) (fun j hj => List.mem_singleton.mp hj ▸ hi) rfl (by simp)
  have run := exec_sampleFrame (dst := dst) (src := src) (payload := samplePayload [i]) hn
    (by simp [samplePayload, SampleItem.toBytes, bytes2]) one
  rw [items, ← hz, ← hw, ← hu, annotate_one] at run
  have sound : u.notesSound := hu ▸ fullPass_notesSound starts.sound ch
  exact ⟨w, u, endEvent u, _, run, starts, (starts.fullResult).symm, hu, endEvent_ends sound,
    passOn_hasPassedOn (endEvent_leavesRest u)⟩

theorem State.takesCode_iff (s : State) (ch : ChanId) (x : Lamp) : s.takesCode ch x ↔
    (s.bank x.bank).owner = some ch ∧
      ((s.bank x.bank).state = .striking ∨ (s.bank x.bank).state = .warming ∨ (s.bank x.bank).state = .run) ∧
      (x.state = .lit ∨ ∃ c, x.cmd = some (.strike c)) := by
  have waiting : x.takesSet = true ↔ x.state = .lit ∨ ∃ c, x.cmd = some (.strike c) := by
    unfold Lamp.takesSet
    cases x.cmd with
    | none => simp
    | some c => cases c <;> simp
  simp only [State.takesCode, State.codeReaches, BankState.takesSet, Bool.and_eq_true, Bool.or_eq_true,
    decide_eq_true_eq, waiting, or_assoc]

/-- The annotation item of the channel, in what its pass has left (01, R21; 11, R182). -/
theorem State.TookSample.annotation {s w u v t : State} {ch : ChanId} {p : PointId} {y : Point} {r : PassResult}
    {f : Frame} (h : s.TookSample w u v t ch p y r f) : v.annotation ch =
      BitVec.ofNat 8 (ch.1 + (if r.offSpec then 4 else 0) + 8 * (s.chan ch).mode.code) ::
        (bytes2 r.dose ++ bytes2 (t.chan ch).power.pd ++ [BitVec.ofNat 8 s.address]) := by
  obtain ⟨dose, _, _, offSpec, _, _, _, _, _, _, _, mode, _, _⟩ := h.passTaken
  have address : v.address = s.address := congrArg Outer.address (h.onward.outer.symm.trans h.outer)
  rw [State.annotation, ← h.onward.chan, address, offSpec, dose, mode]
  rfl

/-- Settles O18: a frame of several items is taken item by item; a lone item's pass is that of `fullPass`, and the rest is
what the end of the event and the frame that goes on leave of it. -/
theorem flowSampleTakesAFullPass : Obligations.FlowSampleTakesAFullPass := by
  constructor
  · intro dst src items old a chs annotated s v hs hn hu h1 h8 hi ho hl hv hc ha
    have channels := hc.trans (passed_filter hu (stationOf src) items).symm
    have run := severalItemsTaken (dst := dst) (src := src) hn h1 h8 hi ho hl hv channels
    have chan : ∀ ch, (endEvent v).chan ch = v.chan ch := fun ch => by
      obtain ⟨_, _, _, _, _, frames⟩ := endEvent_framesOnly v
      rw [frames]
      rfl
    have address : (endEvent v).address = s.address := by
      obtain ⟨_, _, _, _, _, frames⟩ := endEvent_framesOnly v
      rw [frames, hv]
      exact (intakeItems_steady (stationOf src) items s).address
    have frame := ha _ rfl
    have annotation : (fun ch => BitVec.ofNat 8 (ch.1 + (if (v.chan ch).acct.offSpec then 4 else 0) +
          8 * (v.chan ch).mode.code) :: (bytes2 (v.chan ch).acct.lastDose ++ bytes2 (v.chan ch).power.pd ++
            [BitVec.ofNat 8 s.address])) = (endEvent v).annotation := by
      funext ch
      rw [State.annotation, chan, address]
      rfl
    rw [annotation] at frame
    rw [← frame] at run
    have dest : annotated.dst = dst := congrArg Frame.dst frame
    refine ⟨fun here => run.trans ?_, fun away room => run.trans ?_⟩
    · rw [passOn_addressed .south (by rw [dest, here, address])]
    · rw [passOn_room (endEvent_leavesRest v) (by rwa [dest, address]) room]
  · intro dst src i p x ch s r hs hn hi hr hx station index unique quality low high flow serves armed result
    have taken : r = (s.setPoint p (some (x.taken i s.now))).fullResult ch := by
      rw [result, Point.taken, PointCfg.valueOf_flow flow]
    have found : s.matchPoint (stationOf src) i.index = some p := State.matchPoint_of hx station index unique
    have accepts : x.cfg.accepts i = true := by
      rw [PointCfg.accepts_flow flow]
      simp only [Bool.and_eq_true, Bool.or_eq_true, decide_eq_true_eq]
      exact ⟨⟨quality, low⟩, high⟩
    obtain ⟨w, u, v, t, run, took⟩ := flowSample_took hs hn ⟨hi, hr⟩ found hx accepts flow serves armed
    rw [← taken] at took
    obtain ⟨_, _, _, _, _, _, _, _, _, code, _⟩ := took.passTaken
    refine ⟨t, run, took.outer, took.tables hx rfl, fun d hd => took.other hd, fun q hq => ?_, took.passTaken,
      took.fallback, ?_, ?_, ?_, ?_, took.south, rfl, ?_, fun same => ?_, fun differs => ⟨fun b => ?_, fun l y hy reached hreach => ?_⟩,
      took.counters_other, took.counters_auto⟩
    · rw [took.point, if_neg hq]
    · rw [took.alarm (by decide), took.passed.stale]
      exact took.starts.stale
    · rw [took.alarm (by decide)]
      exact took.passed.range
    · rw [took.alarm (by decide), took.passed.low, decide_eq_true_iff, took.chan,
        took.starts.keeps (Channel.get · .doseLowPasses)]
    · obtain ⟨made, alerts, queue⟩ := took.north
      refine ⟨made, alerts, ?_⟩
      rw [queue, took.annotation]
    · rintro pd rfl
      rw [code]
      refine ⟨fun below => ballastCode_low below, fun above full => ballastCode_full above full, fun rises k lo full hi => ?_⟩
      have above : ((s.chan ch).ballastCurve.get 0).x ≤ (t.chan ch).power.pd :=
        (curve_mono rises (Fin.zero_le k.castSucc)).trans lo
      rw [ballastCode_between above full]
      exact curveValue_segment rises k lo hi
    · obtain ⟨lamps, south⟩ := took.still hs.2 same
      refine ⟨lamps, south, fun b => ?_⟩
      rw [took.settle, if_neg fun h => h.1 same]
    · rw [took.settle]
      simp only [differs, ne_eq, not_false_eq_true, true_and]
    · obtain ⟨unreached, reach⟩ := took.lamp hs.2 differs hy
      rw [← State.takesCode_iff] at hreach
      refine ⟨fun out => unreached (mt hreach.mpr out), fun hit => ?_⟩
      obtain ⟨z, hz, kept, strike, set⟩ := reach (hreach.mp hit)
      refine ⟨z, hz, kept, ?_⟩
      split
      · next c hc => exact strike c hc
      · next other => exact set other

end Sys2Proof.Machine

namespace Sys2Proof.Machine
open Sys2Proof

set_option Elab.async false

/-! ### What keeps management's tables (09, R153) -/

theorem State.alarmUnitOnly.tables {s t : State} (h : s.alarmUnitOnly t) : t.tables = s.tables := by
  obtain ⟨_, _, _, rfl⟩ := h
  rfl

theorem State.moves.entryPart {s t : State} (h : s.moves t) (b : BankId) :
    (t.bank b).entryPart = (s.bank b).entryPart :=
  congrArg (fun r : Bank.Record => { r with settle := none }) (h.record b)

/-- Staging, banks and lamps act on what the tables hold, and never write it. -/
theorem State.moves.tables {s t : State} (h : s.moves t) : t.tables = s.tables :=
  State.tables_eq (fun c => h.keeps Channel.tables c) h.entryPart h.entry
    (fun p => by rw [State.point, h.event.points]; rfl) h.event.devices

theorem forEach_tables {α : Type} {f : α → State → State} (turn : ∀ x s, (f x s).tables = s.tables) (l : List α)
    (s : State) : (forEach l f s).tables = s.tables :=
  forEach_relates (R := fun s t => t.tables = s.tables) (fun _ => rfl) (fun h g => g.trans h) (fun x _ s => turn x s) s

theorem State.modChan_tables (s : State) (ch : ChanId) {f : Channel → Channel}
    (hf : ∀ x, (f x).tables = x.tables := by intro _; rfl) : (s.modChan ch f).tables = s.tables := by
  refine State.tables_eq (fun c => ?_) (fun _ => rfl) (fun _ => rfl) (fun _ => rfl) rfl
  rw [State.modChan_chan]
  split
  · next e => rw [hf, e]
  · rfl

theorem State.modBank_tables (s : State) (b : BankId) {f : Bank → Bank}
    (hf : ∀ x, (f x).entryPart = x.entryPart := by intro _; rfl) : (s.modBank b f).tables = s.tables := by
  refine State.tables_eq (fun _ => rfl) (fun c => ?_) (fun _ => rfl) (fun _ => rfl) rfl
  rw [State.modBank_bank]
  split
  · next e => rw [hf, e]
  · rfl

theorem State.modLamp_tables (s : State) (l : LampId) {f : Lamp → Lamp}
    (hf : ∀ x, (f x).entry = x.entry := by intro _; rfl) : (s.modLamp l f).tables = s.tables :=
  State.moves.tables (.lamp .refl l hf)

theorem State.setPoint_tables {s : State} {p : PointId} {x y : Point} (hx : s.point p = some x) (hy : y.cfg = x.cfg) :
    (s.setPoint p (some y)).tables = s.tables := by
  refine State.tables_eq (fun _ => rfl) (fun _ => rfl) (fun _ => rfl) (fun q => ?_) rfl
  rw [State.setPoint_point]
  split
  · next e => rw [e, hx, Option.map_some, Option.map_some, hy]
  · rfl

@[simp] theorem report_tables (k : AlarmKind) (i : Nat) (holds : Bool) (s : State) :
    (report k i holds s).tables = s.tables := (report_alarmUnitOnly k i holds s).tables

@[simp] theorem raise_tables (k : AlarmKind) (i : Nat) (s : State) : (raise k i s).tables = s.tables :=
  (raise_alarmUnitOnly k i s).tables

/-! The end of an event. -/

@[simp] theorem pushFrame_tables (p : Port) (q : QFrame) (s : State) : (pushFrame p q s).tables = s.tables := by
  cases p <;> rfl

@[simp] theorem clearSlot_tables (pos : SlotId) (s : State) : (clearSlot pos s).tables = s.tables := by
  unfold clearSlot
  split
  · exact s.modLamp_tables _
  · exact s.modBank_tables _

@[simp] theorem enterSouth_tables (pos : SlotId) (s : State) : (enterSouth pos s).tables = s.tables := by
  unfold enterSouth
  split
  · rw [clearSlot_tables, pushFrame_tables]
  · rfl

@[simp] theorem tryDirect_tables (pos : SlotId) (s : State) : (tryDirect pos s).tables = s.tables := by
  unfold tryDirect
  split
  · exact enterSouth_tables pos s
  · rfl

@[simp] theorem makeAlert_tables (n : AlertNote) (s : State) : (makeAlert n s).tables = s.tables := by
  unfold makeAlert
  dsimp only
  split
  · split
    · exact pushFrame_tables _ _ s
    · rfl
  · rfl

@[simp] theorem endEvent_tables (s : State) : (endEvent s).tables = s.tables :=
  (forEach_tables tryDirect_tables _ { flushAlerts s with slotsMade := [] }).trans
    (forEach_tables makeAlert_tables _ { s with alertsDue := [] })

/-! ### Passes and points -/

@[simp] theorem startPulse_tables (ch : ChanId) (s : State) : (startPulse ch s).tables = s.tables :=
  s.modChan_tables ch

@[simp] theorem startFallback_tables (ch : ChanId) (s : State) : (startFallback ch s).tables = s.tables :=
  s.modChan_tables ch

@[simp] theorem stopFallback_tables (ch : ChanId) (s : State) : (stopFallback ch s).tables = s.tables :=
  s.modChan_tables ch

@[simp] theorem clearAccounting_tables (ch : ChanId) (s : State) : (clearAccounting ch s).tables = s.tables := by
  rw [clearAccounting, report_tables, report_tables]
  exact s.modChan_tables ch

theorem fullPass_tables (ch : ChanId) (s : State) : (fullPass ch s).tables = s.tables := by
  have passed := fullPass_fullyPassed ch s
  exact State.tables_eq passed.chanTables passed.entry passed.lampEntry
    (fun p => by rw [State.point, passed.event.points]; rfl) passed.event.devices

@[simp] theorem takePass_tables (ch : ChanId) (s : State) : (takePass ch s).tables = s.tables := by
  have frozen : (frozenPass ch s).tables = s.tables := by
    rw [frozenPass, volumeStage_eq, State.modChan_modChan]
    exact s.modChan_tables ch fun x =>
      Channel.counted_keeps Channel.tables _ _ _ (x.setAcct fun a => { a with offSpec := true })
  unfold takePass
  split
  · exact fullPass_tables ch s
  · exact fullPass_tables ch s
  · exact fullPass_tables ch s
  · exact fullPass_tables ch s
  · exact frozen
  · rfl

@[simp] theorem recode_tables (ch : ChanId) (s : State) : (recode ch s).tables = s.tables := by
  have lamp : ∀ code l s, (setLampCode code l s).tables = s.tables := fun code l s => by
    unfold setLampCode
    split
    · split
      · exact (State.moves.placeLamp .refl l _).tables
      · rfl
    · rfl
  unfold recode changeCode
  dsimp only
  split
  · rfl
  · rw [forEach_tables (f := restartSettle) fun b s => s.modBank_tables b, forEach_tables (lamp _)]
    exact s.modChan_tables ch

@[simp] theorem setUvt_tables (ch : ChanId) (u : UvtUse) (hold : Timer) (s : State) :
    (setUvt ch u hold s).tables = s.tables := by
  rw [setUvt, judgeUvtStale, report_tables]
  exact s.modChan_tables ch

theorem tellAccepted_tables (p : PointId) (c : PointCfg) (raw : Nat) (s : State) :
    (tellAccepted p c raw s).tables = s.tables := by
  unfold tellAccepted
  split
  · split
    · rw [takePass_tables, judgeFlowStale, report_tables, stopFallback_tables]
    · rfl
  · refine forEach_tables (fun ch s => ?_) _ s
    split
    · exact setUvt_tables ch _ _ s
    · rfl
  · split
    · exact ((State.moves.judgeIntensityStale .refl _).takeSample _ _).tables
    · rfl
  · split
    · exact (State.moves.wiperReport .refl _ _).tables
    · rfl

/-- An item gives its point a value, and not another entry (02, R32). -/
@[simp] theorem intakeItem_tables (src : Nat) (i : SampleItem) (s : State) :
    (intakeItem src i s).tables = s.tables := by
  unfold intakeItem
  split
  · rfl
  · next p _ =>
    cases hx : s.point p with
    | none => rfl
    | some x =>
      dsimp only
      split
      · rw [acceptItem_eq, tellAccepted_tables]
        exact State.setPoint_tables hx rfl
      · rfl

theorem intakeItems_tables (src : Nat) (l : List SampleItem) (s : State) :
    (intakeItems src l s).1.tables = s.tables := by
  rw [intakeItems_fst]
  induction l generalizing s with
  | nil => rfl
  | cons i l ih => exact (ih _).trans (intakeItem_tables src i s)

theorem uvtStale_tables (ch : ChanId) (value : Option Nat) (s : State) : (uvtStale ch value s).tables = s.tables := by
  unfold uvtStale uvtFailsafe
  dsimp only
  split
  · split <;> exact setUvt_tables ch _ _ s
  · exact setUvt_tables ch _ _ s
  · rfl
  · rfl

theorem flowStale_tables (ch : ChanId) (s : State) : (flowStale ch s).tables = s.tables := by
  unfold flowStale
  rw [judgeFlowStale, report_tables]
  split
  · exact startFallback_tables ch s
  · rfl

theorem tellStale_tables (p : PointId) (x : Point) (s : State) : (tellStale p x s).tables = s.tables := by
  unfold tellStale
  split
  · split
    · exact flowStale_tables _ s
    · rfl
  · refine forEach_tables (fun ch s => ?_) _ s
    split
    · exact uvtStale_tables ch _ s
    · rfl
  · split
    · exact ((State.moves.judgeIntensityStale .refl _).intensityStale _).tables
    · rfl
  · rfl

theorem freshnessEnds_tables (p : PointId) (s : State) : (freshnessEnds p s).tables = s.tables := by
  unfold freshnessEnds goStale
  cases hx : s.point p with
  | none => rfl
  | some x =>
    dsimp only
    split
    · rw [tellStale_tables]
      exact State.setPoint_tables hx rfl
    · rfl

/-! ### Modes -/

theorem review_tables (ch : ChanId) (s : State) : (review ch s).tables = s.tables :=
  (State.moves.review .refl ch).tables

@[simp] theorem judgeChannel_tables (ch : ChanId) (s : State) : (judgeChannel ch s).tables = s.tables :=
  (judgeChannel_alarmUnitOnly ch s).tables

@[simp] theorem calmStaging_tables (ch : ChanId) (s : State) : (calmStaging ch s).tables = s.tables :=
  (report_tables _ _ _ _).trans (s.modChan_tables ch)

@[simp] theorem fallbackIfStale_tables (ch : ChanId) (s : State) : (fallbackIfStale ch s).tables = s.tables := by
  unfold fallbackIfStale
  split
  · rfl
  · exact startFallback_tables ch s

theorem enterEdit_tables (ch : ChanId) (s : State) : (enterEdit ch s).tables = s.tables := by
  have edits := s.modChan_tables ch (f := fun c => { c with mode := .edit, prevMode := (s.chan ch).mode })
  unfold enterEdit
  dsimp only
  split
  · rfl
  · split
    · rw [judgeChannel_tables, fallbackIfStale_tables, calmStaging_tables, edits]
    · rw [calmStaging_tables, edits]

theorem Lamp.armed_entry (x : Lamp) : x.armed.entry = x.entry := by
  unfold Lamp.armed
  split <;> rfl

theorem arm_tables (ch : ChanId) (m : Mode) (s : State) : (arm ch m s).tables = s.tables := by
  have darkened : ∀ b s, (resetTracker b (darkenBank b s)).tables = s.tables := fun b s =>
    (State.modBank_tables _ b).trans (State.moves.darkenBank .refl b).tables
  unfold arm
  dsimp only
  rw [judgeChannel_tables, fallbackIfStale_tables, stopFallback_tables, clearAccounting_tables, calmStaging_tables,
    forEach_tables fun l s => s.modLamp_tables l Lamp.armed_entry, forEach_tables darkened]
  exact s.modChan_tables ch

theorem departEdit_tables (ch : ChanId) (s : State) : (departEdit ch s).tables = s.tables := by
  unfold departEdit
  dsimp only
  split
  · rw [review_tables, arm_tables]
  · rw [review_tables, recode_tables]
    exact s.modChan_tables ch

theorem enterUnarmed_tables (ch : ChanId) (s : State) : (enterUnarmed ch s).tables = s.tables := by
  unfold enterUnarmed
  dsimp only
  rw [judgeChannel_tables, stopFallback_tables, clearAccounting_tables, calmStaging_tables,
    forEach_tables fun l s => s.modLamp_tables l, forEach_tables fun b s => (State.moves.ungovernBank .refl b).tables]
  exact s.modChan_tables ch

@[simp] theorem freeLock_tables (ch : ChanId) (s : State) : (freeLock ch s).tables = s.tables := s.modChan_tables ch

theorem lapse_tables (ch : ChanId) (s : State) : (lapse ch s).tables = s.tables := by
  unfold lapse
  dsimp only
  split
  · rw [departEdit_tables, freeLock_tables]
  · rw [raise_tables, enterUnarmed_tables, freeLock_tables]

theorem changeMode_tables (ch : ChanId) (m : Mode) (s : State) : (changeMode ch m s).tables = s.tables := by
  unfold changeMode
  rw [calmStaging_tables]
  exact s.modChan_tables ch

theorem takeMode_tables (ch : ChanId) (m : Mode) (value count lease : Nat) (s : State) :
    (takeMode ch m value count lease s).tables = s.tables := by
  have changed : (if (s.chan ch).mode = m then s else changeMode ch m s).tables = s.tables := by
    split
    · rfl
    · exact changeMode_tables ch m s
  unfold takeMode setManual
  rw [review_tables]
  split
  · exact (State.modChan_tables _ ch).trans changed
  · exact changed

theorem manualLeaseEnds_tables (ch : ChanId) (s : State) : (manualLeaseEnds ch s).tables = s.tables := by
  have given := s.modChan_tables ch (f := fun c => { c with manualLease := none })
  unfold manualLeaseEnds
  dsimp only
  split
  · split
    · rw [review_tables, changeMode_tables, given]
    · split
      · exact (State.modChan_tables _ ch).trans given
      · exact given
    all_goals exact given
  · rfl

theorem windowEnds_tables (ch : ChanId) (s : State) : (windowEnds ch s).tables = s.tables := by
  unfold windowEnds
  dsimp only
  split
  · rw [review_tables, forEach_tables fun b s => (State.moves.runAtEnd .refl b).tables,
      forEach_tables fun l s => (State.moves.putOutUnlisted .refl l).tables,
      forEach_tables fun l s => (State.moves.confirmAtEnd .refl l).tables]
    exact s.modChan_tables ch
  · rfl

/-! ### Alarms -/

theorem claim_tables (s : State) : (claim s).tables = s.tables := by
  unfold claim
  split
  · exact (leavePending_alarmUnitOnly _ _ _ s).tables
  · rfl

theorem complete_alarmUnitOnly (k : AlarmKind) (i : Nat) (s : State) : s.alarmUnitOnly (complete k i s) := by
  have finish : ∀ b : Bool, s.alarmUnitOnly (if b then enterPending k i s else leavePending k i .idle s) := by
    intro b
    cases b
    · exact leavePending_alarmUnitOnly k i .idle s
    · exact enterPending_alarmUnitOnly k i s
  unfold complete
  dsimp only
  split
  · exact finish _
  · exact finish _
  · exact .refl s
  · exact .refl s

/-! ### Requests that write no table (09, Table 9-1) -/

theorem forChannel_tables {ch : Byte} {f : ChanId → State → State × Answer}
    (hf : ∀ c s, (f c s).1.tables = s.tables) (s : State) : (forChannel ch f s).1.tables = s.tables := by
  unfold forChannel
  split
  · exact hf _ s
  · rfl

theorem forBank_tables {bank : Byte} {f : BankId → State → State × Answer}
    (hf : ∀ b s, (f b s).1.tables = s.tables) (s : State) : (forBank bank f s).1.tables = s.tables := by
  unfold forBank
  split
  · exact hf _ s
  · rfl

theorem answerRead_fst (data : Option (List Byte)) (s : State) : (answerRead data s).1 = s := by
  cases data <;> rfl

theorem handleTakeEdit_tables (st : Nat) (ch : Byte) (lease : Half) (s : State) :
    (handleTakeEdit st ch lease s).1.tables = s.tables := by
  have held : ∀ c n (s : State), (holdLock c st n s).tables = s.tables := fun c n s => s.modChan_tables c
  refine forChannel_tables (fun c s => ?_) s
  dsimp only
  split
  · rfl
  · split
    · exact (enterEdit_tables c _).trans (held c _ s)
    · split
      · exact held c _ s
      · rfl

theorem handleGiveEdit_tables (st : Nat) (ch : Byte) (s : State) : (handleGiveEdit st ch s).1.tables = s.tables := by
  refine forChannel_tables (fun c s => ?_) s
  split
  · rfl
  · split
    · rfl
    · dsimp only
      rw [giveBack, departEdit_tables, freeLock_tables]
      exact s.modChan_tables c

theorem handleUnarm_tables (ch : Byte) (s : State) : (handleUnarm ch s).1.tables = s.tables := by
  refine forChannel_tables (fun c s => ?_) s
  split
  · dsimp only
    exact enterUnarmed_tables c s
  · rfl

theorem handleArmedMode_tables (ch : Byte) (m : Mode) (value : Half) (count : Byte) (lease : Half) (s : State) :
    (handleArmedMode ch m value count lease s).1.tables = s.tables := by
  refine forChannel_tables (fun c s => ?_) s
  split
  · dsimp only
    exact takeMode_tables c m _ _ _ s
  · rfl

theorem handleSetMode_tables (ch mode : Byte) (value : Half) (count : Byte) (lease : Half) (s : State) :
    (handleSetMode ch mode value count lease s).1.tables = s.tables := by
  unfold handleSetMode
  split
  · exact handleUnarm_tables ch s
  · split
    · exact handleArmedMode_tables ch _ value count lease s
    · rfl

theorem handleBankAction_tables (bank action : Byte) (s : State) :
    (handleBankAction bank action s).1.tables = s.tables := by
  unfold handleBankAction
  split
  · exact forBank_tables (fun b s => (State.moves.lockBank .refl b).tables) s
  · exact forBank_tables (fun b s => (State.moves.unlockBank .refl b).tables) s
  · refine forBank_tables (fun b s => ?_) s
    split
    · rfl
    · exact (State.moves.startWipe .refl b).tables
  · rfl

theorem handleLampClear_tables (lamp : Byte) (s : State) : (handleLampClear lamp s).1.tables = s.tables := by
  unfold handleLampClear
  split
  · split
    · exact (State.moves.clearLamp .refl _).tables
    · rfl
  · rfl

theorem handleReadState_fst (kind : Byte) (index : List Byte) (s : State) : (handleReadState kind index s).1 = s := by
  unfold handleReadState
  split
  · exact answerRead_fst _ s
  · rfl

theorem handleComplete_tables (kind inst : Byte) (s : State) : (handleComplete kind inst s).1.tables = s.tables := by
  unfold handleComplete
  split
  · exact (complete_alarmUnitOnly _ _ s).tables
  · rfl

/-- The requests that name a table to be written (09, Table 9-3). -/
def Request.writes : Request → Bool
  | .writeChannelSetting _ _ _ => true
  | .writeUvtCurvePoint _ _ _ _ => true
  | .writeBallastCurvePoint _ _ _ _ => true
  | .writeBankRecord _ _ _ => true
  | .writeProgram _ _ _ => true
  | .writeLampEntry _ _ _ _ => true
  | .writePointEntry _ _ => true
  | .writeAlarmPriority _ _ => true
  | .writeDeviceSetting _ _ => true
  | _ => false

/-- No other request reaches the tables. -/
theorem handle_tables (st : Nat) {req : Request} (h : Request.writes req = false) (s : State) :
    (handle st req s).1.tables = s.tables := by
  cases req with
  | identify => rfl
  | readEntry t i n => exact congrArg State.tables (answerRead_fst _ s)
  | writeChannelSetting | writeUvtCurvePoint | writeBallastCurvePoint | writeBankRecord | writeProgram | writeLampEntry |
    writePointEntry | writeAlarmPriority | writeDeviceSetting => cases h
  | takeEdit ch lease => exact handleTakeEdit_tables st ch lease s
  | giveEdit ch => exact handleGiveEdit_tables st ch s
  | setMode ch m v n lease => exact handleSetMode_tables ch m v n lease s
  | bankAction b a => exact handleBankAction_tables b a s
  | lampClear l => exact handleLampClear_tables l s
  | readState k i => exact congrArg State.tables (handleReadState_fst k i s)
  | readTotals ch => exact forChannel_tables (fun _ _ => rfl) s
  | clearTotals ch => exact forChannel_tables (fun c s => s.modChan_tables c) s
  | claimAlarm => exact claim_tables s
  | completeAlarm k i => exact handleComplete_tables k i s
  | restart => rfl
  | badReference => rfl
  | unknown => rfl

end Sys2Proof.Machine

namespace Sys2Proof.Machine
open Sys2Proof

set_option Elab.async false

/-! ### What a command leaves of the tables (09, R153, R166, R167) -/

/-- Between `s` and `t` at most one request was handled, as far as the tables go. -/
def State.answered (s t : State) : Prop :=
  t.tables = s.tables ∨ ∃ st req, t.tables = (handle st req s).1.tables

theorem sendReply_tables (r : Sender) (kind : Byte) (restart : Bool) (a : Answer) (s : State) :
    (sendReply r kind restart a s).tables = s.tables := by
  unfold sendReply
  dsimp only
  split
  · exact pushFrame_tables _ _ s
  · rfl

theorem consume_tables (r : Sender) (kind : Byte) (restart : Bool) (f : State → State × Answer) (s : State) :
    (consume r kind restart f s).tables = s.tables ∨ (consume r kind restart f s).tables = (f s).1.tables := by
  unfold consume
  split
  · exact .inl rfl
  · split
    · exact .inl (by rw [endEvent_tables, raise_tables])
    · exact .inr (by rw [sendReply_tables, endEvent_tables])

theorem forwardFrame_tables (p : Port) (f : Frame) (s : State) : (forwardFrame p f s).tables = s.tables := by
  unfold forwardFrame
  split
  · exact pushFrame_tables _ _ s
  · exact raise_tables _ _ s

theorem requestRow_tables (r : Sender) (req : Request) (f : State → State × Answer) (s : State) :
    (requestRow r req f s).tables = s.tables ∨ (requestRow r req f s).tables = (f s).1.tables := by
  unfold requestRow
  split
  · exact .inl (by rw [endEvent_tables, forwardFrame_tables])
  · exact consume_tables r _ _ f s

/-- A request row whose request leaves the tables alone. -/
theorem requestRow_tables_of {r : Sender} {req : Request} {f : State → State × Answer} {s : State}
    (h : (f s).1.tables = s.tables) : (requestRow r req f s).tables = s.tables :=
  (requestRow_tables r req f s).elim id fun e => e.trans h

theorem manageFrame_answered (p : Port) (f : Frame) (s : State) : s.answered (manageFrame p f s) := by
  unfold manageFrame
  split
  · exact (consume_tables _ _ _ _ s).imp_right fun e => ⟨_, _, e⟩
  · split
    · exact .inl rfl
    · split
      · exact .inl (by rw [endEvent_tables, raise_tables])
      · exact .inl rfl

/-! ### Frames (08, R134 to R143) -/

theorem faultyFrame_tables (p : Port) (s : State) : (faultyFrame p s).tables = s.tables := by
  have counted : ∀ n, (s.modPort p fun ps => { ps with errors := n }).tables = s.tables := by
    intro n
    cases p <;> rfl
  unfold faultyFrame
  dsimp only
  split
  · split
    · exact (raise_tables _ _ _).trans (counted _)
    · exact counted _
  · rfl

theorem passOn_tables (p : Port) (f : Frame) (s : State) : (passOn p f s).tables = s.tables := by
  unfold passOn
  split
  · rfl
  · rw [endEvent_tables, forwardFrame_tables]

theorem southSample_tables (f : Frame) (s : State) : (southSample f s).tables = s.tables := by
  unfold southSample tapSample
  dsimp only
  rw [passOn_tables, endEvent_tables]
  split
  · exact intakeItems_tables _ _ s
  · rfl

theorem southStatus_tables (f : Frame) (s : State) : (southStatus f s).tables = s.tables := by
  rw [southStatus, passOn_tables, endEvent_tables]
  exact (State.moves.tapStatus .refl _ _).tables

theorem northLampCmd_tables (f : Frame) (s : State) : (northLampCmd f s).tables = s.tables := by
  unfold northLampCmd
  split
  · rw [endEvent_tables, raise_tables]
  · exact passOn_tables _ _ s

theorem northWiperCmd_tables (f : Frame) (s : State) : (northWiperCmd f s).tables = s.tables := by
  unfold northWiperCmd
  split
  · exact passOn_tables _ _ s
  · rw [endEvent_tables]
    exact forEach_tables (fun ch s => raise_tables _ _ s) _ s

theorem fromNorth_tables (f : Frame) (s : State) : (fromNorth f s).tables = s.tables := by
  unfold fromNorth
  split
  · rfl
  · split
    · exact northLampCmd_tables f s
    · split
      · exact northWiperCmd_tables f s
      · exact passOn_tables _ _ s

theorem fromSouth_tables (f : Frame) (s : State) : (fromSouth f s).tables = s.tables := by
  unfold fromSouth
  split
  · exact southSample_tables f s
  · split
    · exact southStatus_tables f s
    · exact passOn_tables _ _ s

/-- Only a REQUEST frame can carry a write (08, R138). -/
theorem receiveGood_tables (p : Port) {f : Frame} (hf : f.kind ≠ kindRequest) (s : State) :
    (receiveGood p f s).tables = s.tables := by
  unfold receiveGood
  split
  · rw [endEvent_tables, forwardFrame_tables]
  · rw [if_neg fun h => hf h.2]
    cases p
    · exact fromNorth_tables f s
    · exact fromSouth_tables f s

theorem receiveGood_answered (p : Port) (f : Frame) (s : State) : s.answered (receiveGood p f s) := by
  by_cases hf : f.kind = kindRequest
  · unfold receiveGood
    split
    · exact .inl (by rw [endEvent_tables, forwardFrame_tables])
    · split
      · exact manageFrame_answered p f s
      · cases p
        · exact .inl (fromNorth_tables f s)
        · exact .inl (fromSouth_tables f s)
  · exact .inl (receiveGood_tables p hf s)

theorem receiveFrame_tables (p : Port) {f : Frame} (hf : f.kind ≠ kindRequest) (s : State) :
    (receiveFrame p f s).tables = s.tables := by
  unfold receiveFrame
  split
  · exact receiveGood_tables p hf s
  · rw [endEvent_tables, faultyFrame_tables]

theorem receiveBytes_answered (p : Port) (bytes : List Byte) (s : State) : s.answered (receiveBytes p bytes s) := by
  unfold receiveBytes
  split
  · exact receiveGood_answered p _ s
  · exact .inl (by rw [endEvent_tables, faultyFrame_tables])

/-! ### Restart and transmission (08, R142 to R148; 09, R166) -/

theorem Channel.restarted_tables (c : Channel) (now : Nat) : (c.restarted now).tables = c.tables := by
  unfold Channel.restarted
  dsimp only
  split <;> rfl

/-- A warm restart keeps every written entry (09, R166). -/
theorem restartValues_tables (straps : BitVec 7) (s : State) : (s.restartValues straps).tables = s.tables := by
  refine State.tables_eq (fun c => ?_) (fun b => ?_) (fun l => ?_) (fun p => ?_) rfl
  · exact (congrArg Channel.tables (build_get _ c)).trans ((s.chan c).restarted_tables s.now)
  · exact (congrArg Bank.entryPart (build_get _ b)).trans rfl
  · refine (congrArg (Option.map Lamp.entry) (build_get _ l)).trans ?_
    rw [Option.map_map]
    exact congrArg (fun f => (s.lamp l).map f) (funext Lamp.armed_entry)
  · refine (congrArg (Option.map Point.cfg) (build_get _ p)).trans ?_
    rw [Option.map_map]
    rfl

theorem warmRestart_tables (straps : BitVec 7) (s : State) : (warmRestart straps s).tables = s.tables := by
  rw [warmRestart, endEvent_tables, forEach_tables judgeChannel_tables, raise_tables, restartValues_tables]

theorem serveOther_tables (p : Port) (s : State) : (serveOther p s).tables = s.tables := by
  unfold serveOther
  cases p
  · unfold serveAlert
    dsimp only
    split
    · exact pushFrame_tables .north _ s
    · rfl
  · unfold serveSlots
    dsimp only
    split
    · exact enterSouth_tables _ s
    · rfl

theorem arbiter_tables (p : Port) (s : State) : (arbiter p s).tables = s.tables := by
  unfold arbiter
  split
  · split
    · split
      · exact pushFrame_tables p _ s
      · exact serveOther_tables p s
    · exact serveOther_tables p s
  · rfl

theorem transmissionDone_tables (p : Port) (s : State) : (transmissionDone p s).tables = s.tables := by
  have dropped : (dropHead p s).tables = s.tables := by cases p <;> rfl
  unfold transmissionDone
  split
  · rfl
  · split
    · exact warmRestart_tables _ _
    · split
      · exact dropped
      · rw [arbiter_tables, dropped]

/-! ### Timers -/

theorem fallbackEnds_tables (ch : ChanId) (s : State) : (fallbackEnds ch s).tables = s.tables := by
  unfold fallbackEnds
  split
  · rw [startFallback_tables, takePass_tables]
  · rfl

theorem uvtHoldEnds_tables (ch : ChanId) (s : State) : (uvtHoldEnds ch s).tables = s.tables := by
  unfold uvtHoldEnds
  split
  · exact setUvt_tables ch _ _ s
  · rfl

theorem settleEnds_tables (b : BankId) (s : State) : (settleEnds b s).tables = s.tables := by
  unfold settleEnds
  split
  · exact s.modBank_tables b
  · rfl

theorem editLeaseEnds_tables (ch : ChanId) (s : State) : (editLeaseEnds ch s).tables = s.tables := by
  unfold editLeaseEnds
  split
  · exact lapse_tables ch s
  · rfl

theorem pulseWidthEnds_tables (ch : ChanId) (s : State) : (pulseWidthEnds ch s).tables = s.tables := by
  unfold pulseWidthEnds startGap
  split
  · exact s.modChan_tables ch
  · rfl

theorem pulseGapEnds_tables (ch : ChanId) (s : State) : (pulseGapEnds ch s).tables = s.tables := by
  unfold pulseGapEnds
  split
  · split
    · exact startPulse_tables ch s
    · exact s.modChan_tables ch
  · rfl

/-! ### Commands -/

theorem tables_of_next {s t u : State} (h : t.tables = s.tables)
    (e : (.next t : Host.Outcome State Fault Refusal) = .next u) : u.tables = s.tables :=
  Host.Outcome.next.inj e ▸ h

/-- A command that is no write leaves the tables alone (09, R153). -/
theorem exec_tables {i : Instr} {s t : State} (hi : i.mayWrite = false) (ht : exec i s = .next t) :
    t.tables = s.tables := by
  cases i with
  | fullReset | frameReception | writeChannelSetting | writeUvtCurvePoint | writeBallastCurvePoint | writeBankRecord |
    writeProgram | writeLampEntry | writePointEntry | writeAlarmPriority | writeDeviceSetting => cases hi
  | warmRestart straps =>
    refine tables_of_next ?_ ht
    split
    · exact warmRestart_tables straps s
    · rfl
  | sampleFrame dst src payload => exact tables_of_next (receiveFrame_tables _ (by decide : kindSample ≠ _) s) ht
  | lampStatusFrame dst src payload =>
    exact tables_of_next (receiveFrame_tables _ (by decide : kindLampStatus ≠ _) s) ht
  | lampCmdFrame dst src payload => exact tables_of_next (receiveFrame_tables _ (by decide : kindLampCmd ≠ _) s) ht
  | wiperCmdFrame dst src payload => exact tables_of_next (receiveFrame_tables _ (by decide : kindWiperCmd ≠ _) s) ht
  | identify r => exact tables_of_next (requestRow_tables_of rfl) ht
  | readEntry r t i n =>
    exact tables_of_next (requestRow_tables_of (handle_tables 0 (req := .readEntry t i n) rfl s)) ht
  | takeEdit r ch lease => exact tables_of_next (requestRow_tables_of (handleTakeEdit_tables _ ch lease s)) ht
  | giveEdit r ch => exact tables_of_next (requestRow_tables_of (handleGiveEdit_tables _ ch s)) ht
  | setMode r ch m v n lease => exact tables_of_next (requestRow_tables_of (handleSetMode_tables ch m v n lease s)) ht
  | setModeUnarm r ch => exact tables_of_next (requestRow_tables_of (handleUnarm_tables ch s)) ht
  | bankActionLock r b => exact tables_of_next (requestRow_tables_of (handleBankAction_tables b 1 s)) ht
  | bankActionUnlock r b => exact tables_of_next (requestRow_tables_of (handleBankAction_tables b 2 s)) ht
  | bankActionWipeNow r b => exact tables_of_next (requestRow_tables_of (handleBankAction_tables b 3 s)) ht
  | lampClear r l => exact tables_of_next (requestRow_tables_of (handleLampClear_tables l s)) ht
  | readState r k i =>
    exact tables_of_next (requestRow_tables_of (congrArg State.tables (handleReadState_fst k i s))) ht
  | readTotals r ch =>
    exact tables_of_next (requestRow_tables_of (handle_tables 0 (req := .readTotals ch) rfl s)) ht
  | clearTotals r ch =>
    exact tables_of_next (requestRow_tables_of (handle_tables 0 (req := .clearTotals ch) rfl s)) ht
  | claimAlarm r => exact tables_of_next (requestRow_tables_of (claim_tables s)) ht
  | completeAlarm r k i => exact tables_of_next (requestRow_tables_of (handleComplete_tables k i s)) ht
  | restart r => exact tables_of_next (requestRow_tables_of rfl) ht
  | transmissionComplete p => exact tables_of_next (transmissionDone_tables p s) ht
  | fallbackTimerExpiry ch => exact tables_of_next ((endEvent_tables _).trans (fallbackEnds_tables ch s)) ht
  | freshnessTimerExpiry p => exact tables_of_next ((endEvent_tables _).trans (freshnessEnds_tables p s)) ht
  | uvtHoldTimerExpiry ch => exact tables_of_next ((endEvent_tables _).trans (uvtHoldEnds_tables ch s)) ht
  | settleTimerExpiry b => exact tables_of_next ((endEvent_tables _).trans (settleEnds_tables b s)) ht
  | manualLeaseExpiry ch => exact tables_of_next ((endEvent_tables _).trans (manualLeaseEnds_tables ch s)) ht
  | adoptionWindowExpiry ch => exact tables_of_next ((endEvent_tables _).trans (windowEnds_tables ch s)) ht
  | editLeaseLapse ch => exact tables_of_next ((endEvent_tables _).trans (editLeaseEnds_tables ch s)) ht
  | pulseWidthExpiry ch => exact tables_of_next ((endEvent_tables _).trans (pulseWidthEnds_tables ch s)) ht
  | pulseGapExpiry ch => exact tables_of_next ((endEvent_tables _).trans (pulseGapEnds_tables ch s)) ht
  | sagTimerExpiry b =>
    exact tables_of_next ((endEvent_tables _).trans (State.moves.sagTimerEnds .refl b).tables) ht
  | warmLimitExpiry b =>
    exact tables_of_next ((endEvent_tables _).trans (State.moves.warmLimitEnds .refl b).tables) ht
  | faultRestExpiry b =>
    exact tables_of_next ((endEvent_tables _).trans (State.moves.faultRestEnds .refl b).tables) ht
  | stepTimerExpiry b => exact tables_of_next ((endEvent_tables _).trans (State.moves.stepEnds .refl b).tables) ht
  | wipeIntervalExpiry b =>
    exact tables_of_next ((endEvent_tables _).trans (State.moves.intervalEnds .refl b).tables) ht
  | wipeLimitExpiry b =>
    exact tables_of_next ((endEvent_tables _).trans (State.moves.wipeLimitEnds .refl b).tables) ht
  | strikeWindowExpiry l =>
    exact tables_of_next ((endEvent_tables _).trans (State.moves.strikeWindowEnds .refl l).tables) ht
  | waitTimerExpiry l => exact tables_of_next ((endEvent_tables _).trans (State.moves.waitEnds .refl l).tables) ht
  | dropoutClearExpiry l =>
    exact tables_of_next ((endEvent_tables _).trans (State.moves.dropoutsClear .refl l).tables) ht
  | coolingStep l => exact tables_of_next ((endEvent_tables _).trans (State.moves.coolLamp .refl l).tables) ht

/-- What a command other than FULL_RESET leaves of the tables is what one request, if any, makes of them. -/
theorem exec_answered {i : Instr} {s t : State} (hi : ∀ straps, i ≠ .fullReset straps) (ht : exec i s = .next t) :
    s.answered t := by
  have row : ∀ (r : Sender) (req : Request) (st : Nat), exec i s = .next (requestRow r req (handle st req) s) →
      s.answered t := fun r req st e => by
    rw [Host.Outcome.next.inj (ht.symm.trans e)]
    exact (requestRow_tables r req _ s).imp_right fun e => ⟨_, _, e⟩
  cases i with
  | fullReset straps => exact absurd rfl (hi straps)
  | frameReception p bytes => exact Host.Outcome.next.inj ht ▸ receiveBytes_answered p bytes s
  | writeChannelSetting r ch x v => exact row r (.writeChannelSetting ch x v) (stationOf r.src) rfl
  | writeUvtCurvePoint r ch pt u f => exact row r (.writeUvtCurvePoint ch pt u f) (stationOf r.src) rfl
  | writeBallastCurvePoint r ch pt d c => exact row r (.writeBallastCurvePoint ch pt d c) (stationOf r.src) rfl
  | writeBankRecord r b f v => exact row r (.writeBankRecord b f v) (stationOf r.src) rfl
  | writeProgram r b k steps => exact row r (.writeProgram b k steps) (stationOf r.src) rfl
  | writeLampEntry r l st b sl => exact row r (.writeLampEntry l st b sl) (stationOf r.src) rfl
  | writePointEntry r p c => exact row r (.writePointEntry p c) (stationOf r.src) rfl
  | writeAlarmPriority r k v => exact row r (.writeAlarmPriority k v) (stationOf r.src) rfl
  | writeDeviceSetting r x v => exact row r (.writeDeviceSetting x v) (stationOf r.src) rfl
  | _ => exact .inl (exec_tables rfl ht)

end Sys2Proof.Machine

namespace Sys2Proof.Machine
open Sys2Proof

set_option Elab.async false

/-! ### The maps whose entries are unique (02, R25; 07, R116; 09, R155) -/

/-- An entry found after an event that kept its written part was found before it. -/
theorem entry_before {α β : Type} {f : α → β} {o o' : Option α} {x : α} (kept : o'.map f = o.map f) (hx : o' = some x) :
    ∃ y, o = some y ∧ f y = f x := by
  rw [hx, Option.map_some] at kept
  exact Option.map_eq_some_iff.mp kept.symm

theorem State.ownedBanks_congr {s t : State} (h : ∀ b, (t.bank b).owner = (s.bank b).owner) (ch : ChanId) :
    t.ownedBanks ch = s.ownedBanks ch :=
  List.filter_congr fun b _ => by rw [h]

namespace State.entriesUnique

variable {s t : State}

/-- Uniqueness reads of the state its owners and the written part of its lamp and point entries. -/
theorem of_entries (h : s.entriesUnique) (hb : ∀ b, (t.bank b).owner = (s.bank b).owner)
    (hl : ∀ l, (t.lamp l).map Lamp.entry = (s.lamp l).map Lamp.entry)
    (hp : ∀ p, (t.point p).map Point.cfg = (s.point p).map Point.cfg) : t.entriesUnique := by
  obtain ⟨points, stations, slots, banks⟩ := h
  refine ⟨fun p q x y hx hy hs hi => ?_, fun l m x y hx hy hs => ?_, fun l m x y hx hy hb hs => ?_, fun ch => ?_⟩
  · obtain ⟨x', hx', ex⟩ := entry_before (hp p) hx
    obtain ⟨y', hy', ey⟩ := entry_before (hp q) hy
    exact points p q x' y' hx' hy' (by rw [ex, ey, hs]) (by rw [ex, ey, hi])
  · obtain ⟨x', hx', ex⟩ := entry_before (hl l) hx
    obtain ⟨y', hy', ey⟩ := entry_before (hl m) hy
    simp only [Lamp.entry, Prod.mk.injEq] at ex ey
    exact stations l m x' y' hx' hy' (by rw [ex.1, ey.1, hs])
  · obtain ⟨x', hx', ex⟩ := entry_before (hl l) hx
    obtain ⟨y', hy', ey⟩ := entry_before (hl m) hy
    simp only [Lamp.entry, Prod.mk.injEq] at ex ey
    exact slots l m x' y' hx' hy' (by rw [ex.2.1, ey.2.1, hb]) (by rw [ex.2.2, ey.2.2, hs])
  · rw [State.ownedBanks_congr hb]
    exact banks ch

theorem of_tables (h : s.entriesUnique) (e : t.tables = s.tables) : t.entriesUnique :=
  h.of_entries (fun b => congrFun (congrArg Tables.owners e) b) (fun l => congrFun (congrArg Tables.lampEntries e) l)
    (fun p => congrFun (congrArg Tables.pointEntries e) p)

theorem moves (h : s.entriesUnique) (m : s.moves t) : t.entriesUnique := h.of_tables m.tables

theorem chan (h : s.entriesUnique) (c : ChanId) (f : Channel → Channel) : (s.modChan c f).entriesUnique :=
  h.of_entries (fun _ => rfl) (fun _ => rfl) fun _ => rfl

theorem bank (h : s.entriesUnique) (b : BankId) {f : Bank → Bank} (hf : ∀ x, (f x).owner = x.owner := by intro _; rfl) :
    (s.modBank b f).entriesUnique := by
  refine h.of_entries (fun c => ?_) (fun _ => rfl) fun _ => rfl
  rw [State.modBank_bank]
  split
  · next e => rw [hf, e]
  · rfl

/-- A point entry that shares station and index with no other may be stored (02, R25). -/
theorem setPoint (h : s.entriesUnique) {p : PointId} {x : Option Point}
    (unique : ∀ c, x.map Point.cfg = some c → ∀ q y, q ≠ p → s.point q = some y →
      ¬ (y.cfg.station = c.station ∧ y.cfg.index = c.index)) : (s.setPoint p x).entriesUnique := by
  obtain ⟨points, rest⟩ := h
  refine ⟨fun q r y z hy hz hs hi => ?_, rest⟩
  rw [State.setPoint_point] at hy hz
  by_cases hq : q = p <;> by_cases hr : r = p
  · rw [hq, hr]
  · rw [if_pos hq] at hy
    rw [if_neg hr] at hz
    exact absurd ⟨hs.symm, hi.symm⟩ (unique y.cfg (by rw [hy]; rfl) r z hr hz)
  · rw [if_neg hq] at hy
    rw [if_pos hr] at hz
    exact absurd ⟨hs, hi⟩ (unique z.cfg (by rw [hz]; rfl) q y hq hy)
  · rw [if_neg hq] at hy
    rw [if_neg hr] at hz
    exact points q r y z hy hz hs hi

/-- A lamp entry that shares its station, and its bank and slot, with no other may be stored (07, R116). -/
theorem setLamp (h : s.entriesUnique) {l : LampId} {x : Option Lamp}
    (unique : ∀ y, x = some y → ∀ m z, m ≠ l → s.lamp m = some z →
      z.station ≠ y.station ∧ ¬ (z.bank = y.bank ∧ z.slot = y.slot)) : (s.setLamp l x).entriesUnique := by
  obtain ⟨points, stations, slots, banks⟩ := h
  have other : ∀ k m y z, k ≠ m → (s.setLamp l x).lamp k = some y → (s.setLamp l x).lamp m = some z →
      y.station ≠ z.station ∧ ¬ (y.bank = z.bank ∧ y.slot = z.slot) := by
    intro k m y z ne hy hz
    rw [State.setLamp_lamp] at hy hz
    by_cases hk : k = l <;> by_cases hm : m = l
    · exact absurd (hk.trans hm.symm) ne
    · rw [if_pos hk] at hy
      rw [if_neg hm] at hz
      obtain ⟨station, place⟩ := unique y hy m z hm hz
      exact ⟨station.symm, fun e => place ⟨e.1.symm, e.2.symm⟩⟩
    · rw [if_neg hk] at hy
      rw [if_pos hm] at hz
      exact unique z hz k y hk hy
    · rw [if_neg hk] at hy
      rw [if_neg hm] at hz
      exact ⟨fun e => ne (stations k m y z hy hz e), fun e => ne (slots k m y z hy hz e.1 e.2)⟩
  refine ⟨points, fun k m y z hy hz hs => ?_, fun k m y z hy hz hb hs => ?_, banks⟩
  · by_contra ne
    exact (other k m y z ne hy hz).1 hs
  · by_contra ne
    exact (other k m y z ne hy hz).2 ⟨hb, hs⟩

/-- A bank adds one at most to those that its channel owns besides. -/
theorem owned_le {s : State} {b : BankId} {ch : ChanId} {n : Nat}
    (h : ((s.ownedBanks ch).filter (· ≠ b)).length ≤ n) : (s.ownedBanks ch).length ≤ n + 1 := by
  have split := List.length_eq_countP_add_countP (· ≠ b) (l := s.ownedBanks ch)
  rw [← List.countP_eq_length_filter] at h
  have once : (s.ownedBanks ch).countP (fun a => decide ¬ (decide (a ≠ b)) = true) ≤ 1 := by
    have count := List.nodup_iff_count_le_one.mp (s.ownedBanks_nodup ch) b
    rw [List.count] at count
    refine le_trans (le_of_eq (List.countP_congr fun a _ => ?_)) count
    simp
  omega

/-- A bank may have an owner that owns fewer than four others (09, R155). -/
theorem owner (h : s.entriesUnique) (b : BankId) {f : Bank → Bank} {new : Option ChanId}
    (hf : ∀ x, (f x).owner = new) (room : s.ownerRoom b new = true) : (s.modBank b f).entriesUnique := by
  obtain ⟨points, stations, slots, banks⟩ := h
  refine ⟨points, stations, slots, fun ch => ?_⟩
  have others : ((s.modBank b f).ownedBanks ch).filter (· ≠ b) = (s.ownedBanks ch).filter (· ≠ b) := by
    unfold State.ownedBanks
    rw [List.filter_filter, List.filter_filter]
    refine List.filter_congr fun c _ => ?_
    rw [State.modBank_bank]
    by_cases e : c = b <;> simp [e]
  by_cases own : new = some ch
  · subst own
    have few : ((s.ownedBanks ch).filter (· ≠ b)).length < 4 := of_decide_eq_true room
    exact owned_le (b := b) (n := 3) (by rw [others]; omega)
  · have out : ((s.modBank b f).ownedBanks ch).filter (· ≠ b) = (s.modBank b f).ownedBanks ch := by
      refine List.filter_eq_self.mpr fun c hc => decide_eq_true fun e => ?_
      rw [State.mem_ownedBanks, e, State.modBank_bank_self, hf] at hc
      exact own hc
    rw [← out, others]
    exact (List.length_filter_le _ _).trans (banks ch)

end State.entriesUnique

/-! ### The writes (09, R153 to R155) -/

theorem clearFlags_tables (chs : List ChanId) (s : State) : (clearFlags chs s).tables = s.tables :=
  forEach_tables (fun ch s => s.modChan_tables ch) chs s

/-- Cleared flags are a change of the channels alone. -/
theorem clearFlags_channels (chs : List ChanId) (s : State) : ∃ cs, clearFlags chs s = { s with channels := cs } :=
  forEach_relates (R := fun s t => ∃ cs, t = { s with channels := cs }) (fun s => ⟨s.channels, rfl⟩)
    (fun ⟨_, h⟩ ⟨cs, g⟩ => ⟨cs, by rw [g, h]⟩) (fun _ _ _ => ⟨_, rfl⟩) s

/-- A write is refused and changes nothing, or every test has passed and it takes effect (09, R151, R153). -/
theorem takeWrite_cases (tests : List (Option Reason)) (chs : List ChanId) (clamped : Bool) (effect : State → State)
    (s : State) : (takeWrite tests chs clamped effect s).1 = s ∨
      (∀ o ∈ tests, o = none) ∧ (takeWrite tests chs clamped effect s).1 = effect (clearFlags chs s) := by
  unfold takeWrite
  cases found : tests.findSome? id with
  | some r => exact .inl rfl
  | none => exact .inr ⟨fun o ho => List.findSome?_eq_none_iff.mp found o ho, rfl⟩

theorem test_none {passes : Bool} {r : Reason} (h : test passes r = none) : passes = true := by
  unfold test at h
  split at h
  · assumption
  · cases h

theorem State.pointUnique_iff (s : State) (p : PointId) (c : PointCfg) : s.pointUnique p (some c) = true ↔
    ∀ q y, q ≠ p → s.point q = some y → ¬ (y.cfg.station = c.station ∧ y.cfg.index = c.index) := by
  unfold State.pointUnique allPoints
  rw [List.all_eq_true]
  refine ⟨fun h q y hq hy => ?_, fun h q _ => ?_⟩
  · have one := h q (List.mem_finRange q)
    rw [hy] at one
    simpa [hq, imp_iff_not_or] using one
  · by_cases hq : q = p
    · simp [hq]
    · cases hy : s.point q with
      | none => simp
      | some y => simpa [hq, imp_iff_not_or] using h q y hq hy

theorem State.lampUnique_iff (s : State) (l : LampId) (c : LampCfg) : s.lampUnique l (some c) = true ↔
    ∀ m z, m ≠ l → s.lamp m = some z → z.station ≠ c.station ∧ ¬ (z.bank = c.bank ∧ z.slot = c.slot) := by
  unfold State.lampUnique allLamps
  rw [List.all_eq_true]
  refine ⟨fun h m z hm hz => ?_, fun h m _ => ?_⟩
  · have one := h m (List.mem_finRange m)
    rw [hz] at one
    simpa [hm, imp_iff_not_or] using one
  · by_cases hm : m = l
    · simp [hm]
    · cases hz : s.lamp m with
      | none => simp
      | some z => simpa [hm, imp_iff_not_or] using h m z hm hz

/-- What a write of a lamp entry leaves in place has the content written. -/
theorem rewritten_entry {old : Option Lamp} {new : Option LampCfg} {cool : Timer} {y : Lamp}
    (h : rewritten old new cool = some y) :
    ∃ c, new = some c ∧ y.station = c.station ∧ y.bank = c.bank ∧ y.slot = c.slot := by
  unfold rewritten at h
  split at h
  · cases h
  · next c =>
    obtain rfl := Option.some.inj h
    exact ⟨c, rfl, rfl, rfl, rfl⟩
  · next c x =>
    refine ⟨c, rfl, ?_⟩
    split at h
    · obtain rfl := Option.some.inj h
      exact ⟨rfl, rfl, rfl⟩
    · next station =>
      rw [not_not] at station
      split at h
      · next place =>
        obtain rfl := Option.some.inj h
        exact ⟨station, place⟩
      · obtain rfl := Option.some.inj h
        exact ⟨station, rfl, rfl⟩

theorem discardPoint_tables (p : PointId) (s : State) : (discardPoint p s).tables = s.tables := by
  unfold discardPoint
  cases hx : s.point p with
  | none => rfl
  | some x =>
    have blank : (s.setPoint p (some (Point.blank x.cfg))).tables = s.tables := State.setPoint_tables hx rfl
    dsimp only
    split
    · rw [tellStale_tables, blank]
    · exact blank

theorem rechooseFlow_tables (ch : ChanId) (old : Option PointId) (s : State) :
    (rechooseFlow ch old s).tables = s.tables := by
  unfold rechooseFlow
  split
  · rfl
  · split
    · rw [judgeFlowStale, report_tables, stopFallback_tables]
    · exact flowStale_tables ch s

theorem rechooseUvt_tables (ch : ChanId) (old : Option PointId) (s : State) :
    (rechooseUvt ch old s).tables = s.tables := by
  unfold rechooseUvt
  split
  · split
    · rfl
    · exact setUvt_tables ch _ _ s
  · split
    · rfl
    · exact setUvt_tables ch _ _ s

theorem rechooseIntensity_tables (b : BankId) (old : Option PointId) (s : State) :
    (rechooseIntensity b old s).tables = s.tables := by
  have unseeded := (State.moves.unseedBank .refl b (s := s)).judgeIntensityStale b
  unfold rechooseIntensity
  dsimp only
  split
  · rfl
  · split
    · exact unseeded.tables
    · exact (unseeded.requestIfRun b).tables

/-- Whether a write keeps the state of an entry (02, R26). -/
def stateKept (old : Option Point) (new : Option PointCfg) : Bool :=
  match old, new with
  | some x, some c => x.cfg.sameSource c
  | _, _ => false

/-- The entry that a write leaves, its state kept or discarded (02, R26). -/
def storedPoint (kept : Bool) (old : Option Point) (new : Option PointCfg) : Option Point :=
  match new, old with
  | some c, some x => some (if kept then { x with cfg := c } else Point.blank c)
  | some c, none => some (Point.blank c)
  | none, _ => none

theorem storedPoint_cfg (kept : Bool) (old : Option Point) (new : Option PointCfg) :
    (storedPoint kept old new).map Point.cfg = new := by
  unfold storedPoint
  split
  · cases kept <;> rfl
  · rfl
  · rfl

/-- The consumers' points are chosen anew, those before being the points of `before` (02, R27; log 36). -/
def rechooseAll (before s : State) : State :=
  forEach allBanks (fun b => rechooseIntensity b (before.intensityPoint b))
    (forEach allChans (fun ch => rechooseUvt ch (before.uvtPoint ch))
      (forEach allChans (fun ch => rechooseFlow ch (before.flowPoint ch)) s))

/-- The map with the entry written, the state that is not kept discarded first (02, R26; log 36). -/
def storePoint (p : PointId) (new : Option PointCfg) (s : State) : State :=
  let kept := stateKept (s.point p) new
  let u := if kept then s else discardPoint p s
  u.setPoint p (storedPoint kept (u.point p) new)

theorem writePoint_eq (p : PointId) (new : Option PointCfg) (s : State) :
    writePoint p new s = rechooseAll s (storePoint p new s) := rfl

theorem rechooseAll_tables (before s : State) : (rechooseAll before s).tables = s.tables := by
  rw [rechooseAll, forEach_tables fun b s => rechooseIntensity_tables b _ s,
    forEach_tables fun ch s => rechooseUvt_tables ch _ s, forEach_tables fun ch s => rechooseFlow_tables ch _ s]

namespace State.entriesUnique

variable {s t : State}

theorem writePoint (h : s.entriesUnique) {p : PointId} {new : Option PointCfg} (unique : s.pointUnique p new = true) :
    (writePoint p new s).entriesUnique := by
  have discarded : (if stateKept (s.point p) new then s else discardPoint p s).tables = s.tables := by
    split
    · rfl
    · exact discardPoint_tables p s
  rw [writePoint_eq]
  refine State.entriesUnique.of_tables ((h.of_tables discarded).setPoint fun c hc q y hq hy => ?_)
    (rechooseAll_tables s _)
  obtain ⟨z, hz, cfg⟩ := entry_before (congrFun (congrArg Tables.pointEntries discarded) q) hy
  rw [storedPoint_cfg] at hc
  rw [← cfg]
  exact (s.pointUnique_iff p c).mp (hc ▸ unique) q z hq hz

theorem clearFlags (h : s.entriesUnique) (chs : List ChanId) : (clearFlags chs s).entriesUnique :=
  h.of_tables (clearFlags_tables chs s)

/-- A write keeps the entries unique if its effect does once its tests have passed. -/
theorem takeWrite (h : s.entriesUnique) {tests : List (Option Reason)} {chs : List ChanId} {clamped : Bool}
    {effect : State → State} (he : (∀ o ∈ tests, o = none) → (effect (Machine.clearFlags chs s)).entriesUnique) :
    (takeWrite tests chs clamped effect s).1.entriesUnique := by
  rcases takeWrite_cases tests chs clamped effect s with e | ⟨passed, e⟩
  · rwa [e]
  · rw [e]
    exact he passed

theorem writeChannelSetting (h : s.entriesUnique) (st : Nat) (ch setting : Byte) (v : Half) :
    (writeChannelSetting st ch setting v s).1.entriesUnique := by
  have acts : ∀ (c : ChanId) (x : ChanSetting) (old v : Nat) {u : State}, u.entriesUnique →
      (chanSettingActs c x old v u).entriesUnique := fun c x old v u hu => by
    have adjusted : (forEach (u.channelLamps c) (fun l s => s.modLamp l (Lamp.adjust x old v)) u).entriesUnique := by
      refine hu.of_tables (forEach_tables (fun l s => s.modLamp_tables l fun y => ?_) _ u)
      unfold Lamp.adjust
      split
      · split <;> rfl
      · split <;> rfl
      · split <;> rfl
      · rfl
    unfold chanSettingActs
    split
    · rw [accrue_eq]
      exact hu.chan c _
    · exact hu.chan c _
    · exact adjusted
    · exact adjusted
    · exact adjusted
    · exact hu
  unfold Machine.writeChannelSetting
  split
  · exact h.takeWrite fun _ => acts _ _ _ _ ((h.clearFlags _).chan _ _)
  · exact h

theorem writeCurvePoint (h : s.entriesUnique) (rx ry : Range) (store : Fin 8 → CurvePoint → Channel → Channel) (st : Nat)
    (ch pt : Byte) (x y : Half) : (writeCurvePoint rx ry store st ch pt x y s).1.entriesUnique := by
  unfold Machine.writeCurvePoint
  split
  · exact h.takeWrite fun _ => (h.clearFlags _).chan _ _
  · exact h

theorem storeBankSetting (h : s.entriesUnique) (b : BankId) (x : BankSetting) (v : Nat) :
    (storeBankSetting b x v s).entriesUnique := by
  have stored := h.bank b (f := fun y => { y with settings := put y.settings x.idx v })
  unfold Machine.storeBankSetting bankSettingActs
  split
  · exact stored.moves (.judgeOutputLow .refl b)
  · exact stored.moves (.judgeOutputLow .refl b)
  · exact stored.moves (.recheckFaulted .refl b)
  · unfold wipeIntervalActs
    dsimp only
    split
    · exact stored.moves (.startInterval .refl b)
    · exact stored
  · exact stored

theorem setOwner (h : s.entriesUnique) {b : BankId} {new : Option ChanId} (room : s.ownerRoom b new = true) :
    (setOwner b new s).entriesUnique := by
  unfold Machine.setOwner
  split
  · exact h
  · have owned := h.owner b (f := fun x => { x.abandon with owner := new, tracker := Tracker.reset }) (fun _ => rfl) room
    exact owned.moves (.judgeBank (.each (fun l _ m => m.regovern _ l) _ .refl) b)

theorem setWiperStation (h : s.entriesUnique) (b : BankId) (st : Option Nat) :
    (setWiperStation b st s).entriesUnique := by
  unfold Machine.setWiperStation
  split
  · exact h
  · exact h.bank b

theorem writeOwner (h : s.entriesUnique) (st : Nat) (b : BankId) (v : Half) : (writeOwner st b v s).1.entriesUnique := by
  unfold Machine.writeOwner
  split
  · exact h
  · refine h.takeWrite fun passed => (h.clearFlags _).setOwner ?_
    have room := test_none (passed _ (List.mem_cons_of_mem _ List.mem_cons_self))
    rw [(clearFlags_channels _ s).choose_spec]
    exact room

theorem writeBankRecord (h : s.entriesUnique) (st : Nat) (bank field : Byte) (v : Half) :
    (writeBankRecord st bank field v s).1.entriesUnique := by
  unfold Machine.writeBankRecord
  split
  · exact h.takeWrite fun _ => (h.clearFlags _).storeBankSetting _ _ _
  · exact h.writeOwner st _ v
  · dsimp only
    split
    · exact h.takeWrite fun _ => (h.clearFlags _).setWiperStation _ _
    · exact h
  · exact h
  · exact h

theorem writeProgram (h : s.entriesUnique) (st : Nat) (bank prog : Byte) (steps : List RawStep) :
    (writeProgram st bank prog steps s).1.entriesUnique := by
  unfold Machine.writeProgram
  split
  · exact h
  · split
    · refine h.takeWrite fun _ => (h.clearFlags _).bank _ fun x => ?_
      unfold Bank.setProgram
      split <;> rfl
    · exact h

/-- A stored lamp entry is as unique as its test found it (07, R116; 09, R155). -/
theorem storeLamp (h : s.entriesUnique) {l : LampId} {new : Option LampCfg} (unique : s.lampUnique l new = true) :
    (storeLamp l new s).entriesUnique := by
  have stored : (s.setLamp l (rewritten (s.lamp l) new (s.timer coolPeriod))).entriesUnique := by
    refine h.setLamp fun y hy m z hm hz => ?_
    obtain ⟨c, rfl, station, bank, slot⟩ := rewritten_entry hy
    rw [station, bank, slot]
    exact (s.lampUnique_iff l c).mp unique m z hm hz
  have governed := stored.moves (.regovern .refl (s.lampGoverned l) l)
  unfold Machine.storeLamp
  dsimp only
  split <;> split
  · exact governed.moves ((State.moves.recheckFaulted .refl _).recheckFaulted _)
  · exact governed.moves (.recheckFaulted .refl _)
  · exact governed.moves (.recheckFaulted .refl _)
  · exact governed

theorem writeLampEntry (h : s.entriesUnique) (st : Nat) (lamp station bank : Byte) (slot : Half) :
    (writeLampEntry st lamp station bank slot s).1.entriesUnique := by
  unfold Machine.writeLampEntry
  split
  · refine h.takeWrite fun passed => (h.clearFlags _).storeLamp ?_
    have unique := test_none (passed _ (List.mem_cons_of_mem _ List.mem_cons_self))
    rw [(clearFlags_channels _ s).choose_spec]
    exact unique
  · exact h

theorem writePointEntry (h : s.entriesUnique) (st : Nat) (point : Byte) (c : PointContent) :
    (writePointEntry st point c s).1.entriesUnique := by
  unfold Machine.writePointEntry
  split
  · refine h.takeWrite fun passed => (h.clearFlags _).writePoint ?_
    have unique := test_none (passed _ (List.mem_cons_of_mem _ List.mem_cons_self))
    rw [(clearFlags_channels _ s).choose_spec]
    exact unique
  · exact h

theorem setPriority (h : s.entriesUnique) (k : AlarmKind) (new : Nat) : (setPriority k new s).entriesUnique := by
  have again : ∀ (old i : Nat) (s : State), (reprioritise k old new i s).tables = s.tables := fun old i s => by
    unfold reprioritise
    split
    · exact (leavePending_alarmUnitOnly k i .idle s).tables
    · split
      · exact (enterPending_alarmUnitOnly k i s).tables
      · rfl
  unfold Machine.setPriority
  dsimp only
  split
  · exact h
  · have stored : State.entriesUnique { s with priorities := put s.priorities k.idx new } := h
    exact (stored.of_tables (forEach_tables (again _) _ _)).of_tables (judgeLine_alarmUnitOnly _).tables

theorem writePriority (h : s.entriesUnique) (kind : Byte) (v : Half) : (writePriority kind v s).1.entriesUnique := by
  unfold Machine.writePriority
  split
  · exact h.takeWrite fun _ => (h.clearFlags _).setPriority _ _
  · exact h

theorem writeDevice (h : s.entriesUnique) (setting : Byte) (v : Half) : (writeDevice setting v s).1.entriesUnique := by
  unfold Machine.writeDevice
  split
  · refine h.takeWrite fun _ => ?_
    have cleared := h.clearFlags (s := s) []
    unfold storeDevice
    split
    · refine cleared.of_entries ?_ ?_ ?_ <;> unfold State.modPort <;> split <;> exact fun _ => rfl
    · exact cleared.of_entries (fun _ => rfl) (fun _ => rfl) fun _ => rfl
    · exact cleared
  · exact h

theorem handle (h : s.entriesUnique) (st : Nat) (req : Request) : (handle st req s).1.entriesUnique := by
  cases req with
  | writeChannelSetting ch x v => exact h.writeChannelSetting st ch x v
  | writeUvtCurvePoint ch pt u f => exact h.writeCurvePoint _ _ _ st ch pt u f
  | writeBallastCurvePoint ch pt d c => exact h.writeCurvePoint _ _ _ st ch pt d c
  | writeBankRecord b f v => exact h.writeBankRecord st b f v
  | writeProgram b k steps => exact h.writeProgram st b k steps
  | writeLampEntry l n b sl => exact h.writeLampEntry st l n b sl
  | writePointEntry p c => exact h.writePointEntry st p c
  | writeAlarmPriority k v => exact h.writePriority k v
  | writeDeviceSetting x v => exact h.writeDevice x v
  | _ => exact h.of_tables (handle_tables st rfl s)

theorem answered (h : s.entriesUnique) (a : s.answered t) : t.entriesUnique := by
  rcases a with e | ⟨st, req, e⟩
  · exact h.of_tables e
  · exact (h.handle st req).of_tables e

theorem fullReset (straps : BitVec 7) : (fullReset straps s).entriesUnique := by
  obtain ⟨_, _, _, _, _, _, unique, _⟩ := resetIsSound straps
  unfold Machine.fullReset
  generalize State.afterReset straps = r at unique ⊢
  exact unique

theorem exec (h : s.entriesUnique) (i : Instr) {t : State} (ht : exec i s = .next t) : t.entriesUnique := by
  by_cases reset : ∃ straps, i = .fullReset straps
  · obtain ⟨straps, rfl⟩ := reset
    obtain rfl := Host.Outcome.next.inj ht
    exact fullReset straps
  · exact h.answered (exec_answered (fun straps e => reset ⟨straps, e⟩) ht)

end State.entriesUnique

/-- Settles O31: what is unique reads the tables alone; no command but a write changes them, and the three writes that
could bring in a double test for it first. -/
theorem entriesStayUnique : Obligations.EntriesStayUnique := by
  intro s t unique ht
  unfold step at ht
  split at ht
  · obtain rfl := Host.Outcome.next.inj ht
    have banks : (tick s).banks = s.banks := by unfold tick State.advanceTo; rfl
    have lamps : (tick s).lamps = s.lamps := by unfold tick State.advanceTo; rfl
    have points : (tick s).points = s.points := by unfold tick State.advanceTo; rfl
    exact unique.of_entries (fun b => by rw [State.bank, banks]; rfl) (fun l => by rw [State.lamp, lamps]; rfl)
      fun p => by rw [State.point, points]; rfl
  · next c rest _ =>
    have taken : State.entriesUnique { s with pending := rest } := unique
    exact taken.exec c ht

end Sys2Proof.Machine

namespace Sys2Proof.Machine
open Sys2Proof

set_option Elab.async false

/-! ### A write of a point entry in a channel that is locked and still in AUTO (02, R26, R27) -/

/-- The entry that serves bank 0, or, written anew, bank 1. -/
def crossingEntry (b : BankId) : PointCfg :=
  { station := 20, index := 3, targets := .intensity b, gain := 4096, offset := 0, rawMin := 10, rawMax := 1000,
    timeout := 2500 }

def crossingWrite : Instr :=
  .writePointEntry ⟨.north, 5, 7⟩ (BitVec.ofNat 8 (0 : PointId).1)
    { station := BitVec.ofNat 8 20, index := BitVec.ofNat 16 3, role := 2, targets := [1], gain := BitVec.ofNat 16 4096,
      offset := BitVec.ofInt 16 0, rawMin := BitVec.ofNat 16 10, rawMax := BitVec.ofNat 16 1000,
      timeout := BitVec.ofNat 16 2500 }

/-- Channel 0 is locked by station 5 and in AUTO, not in EDIT; its list holds bank 0 in RUN and bank 1 in LOCKED, its
count of passes calls for a stage-down, and point 0 serves bank 0. -/
def crossingState : State :=
  let chan := fun c : Channel => { c with mode := .auto, holder := some 5, startList := [0, 1], downCount := 60000 }
  let bank := fun (st : BankState) (x : Bank) => { x with owner := some 0, state := st }
  let s := { State.reset with north := PortState.reset }
  (((s.modChan 0 chan).modBank 0 (bank .run)).modBank 1 (bank .locked)).setPoint 0 (some (Point.blank (crossingEntry 0)))

/-- What the write leaves: bank 0 lost its point and asked for a stage-up, whose review staged bank 1 down out of
LOCKED; bank 1 took the point after that, and INTENSITY_STALE holds for it. -/
theorem crossingWrite_judges : ∃ u, exec crossingWrite crossingState = .next u ∧
    (u.alarm .intensityStale 1).cause = true ∧ u.intensityPoint 1 ≠ crossingState.intensityPoint 1 := by
  have next : ∃ u, exec crossingWrite crossingState = .next u := ⟨_, rfl⟩
  obtain ⟨u, hu⟩ := next
  have seen : (match exec crossingWrite crossingState with
      | .next u => (u.alarm .intensityStale 1).cause && u.intensityPoint 1 == some 0
      | _ => false) = true := by decide +kernel
  have unserved : crossingState.intensityPoint 1 = none := by decide +kernel
  rw [hu] at seen
  obtain ⟨stale, serves⟩ := (Bool.and_eq_true _ _).mp seen
  refine ⟨u, hu, stale, ?_⟩
  rw [unserved, eq_of_beq serves]
  exact Option.some_ne_none 0

/-- An answer leaves what the part judges and the point entries as they are. -/
theorem State.withReply_frames (s : State) (r : Sender) (kind : Byte) (outcome : List Byte) (restart : Bool) :
    ∃ n q x, s.withReply r kind outcome restart = { s with north := n, south := q, replySlot := x } := by
  unfold State.withReply State.modPort
  split
  · split
    · exact ⟨_, _, _, rfl⟩
    · exact ⟨_, _, _, rfl⟩
  · exact ⟨_, _, _, rfl⟩

theorem crossingState_point (q : PointId) :
    crossingState.point q = if q = 0 then some (Point.blank (crossingEntry 0)) else none := by
  unfold crossingState
  rw [State.setPoint_point]
  congr 1
  simp [State.point, State.reset, State.afterReset, get_eq_getElem]

/-- Refutes O42: nothing in its hypotheses says that a locked channel is in EDIT and no LOCKED bank on a list, which
every step keeps from reset on. In `crossingState` the request that bank 0 makes when it loses its point stages bank 1
down, so that INTENSITY_STALE is judged of a bank that is LOCKED no more, while the statement has it by the state
before the write. -/
theorem not_pointEntryIsWritten : ¬ Obligations.PointEntryIsWritten := by
  rintro ⟨written, -⟩
  have taken := written ⟨.north, 5, 7⟩ 0 (crossingEntry 1) _ [0, 0] crossingState
    ⟨by unfold State.normal; decide +kernel, rfl, rfl, rfl, rfl⟩ (by decide) (by decide) (by decide) (by decide)
    (by decide) (by decide) (by decide) (by decide) (by decide) (by intro l h; cases h) rfl
    (by decide +kernel) (by unfold State.holdsLocks; decide +kernel)
  have alone : ∀ q y, q ≠ 0 → crossingState.point q = some y →
      ¬ (y.cfg.station = (crossingEntry 1).station ∧ y.cfg.index = (crossingEntry 1).index) := fun q y hq hy => by
    rw [crossingState_point, if_neg hq] at hy
    cases hy
  obtain ⟨t, ht, _, _, _, _, _, _, _, _, _, _, intensity, _⟩ := taken.2 alone _ rfl
  obtain ⟨u, hu, stale, moved⟩ := crossingWrite_judges
  have same := Host.Outcome.next.inj (hu.symm.trans ht)
  obtain ⟨_, _, _, e⟩ := t.withReply_frames ⟨.north, 5, 7⟩ 0x03 _ false
  rw [same.trans e] at stale moved
  obtain ⟨_, _, _, judged⟩ := intensity 1 moved
  have locked : (crossingState.bank 1).state = .locked := by decide +kernel
  exact (judged.mp stale).2.1 locked

end Sys2Proof.Machine

namespace Sys2Proof.Machine
open Sys2Proof

set_option Elab.async false

/-! ### Items of which the part takes nothing (02, R28, R29; 11, R182) -/

theorem PointCfg.accepts_iff (c : PointCfg) (i : SampleItem) : c.accepts i = true ↔
    (i.quality = .good ∨ i.quality = .suspect) ∧ c.rawMin ≤ i.raw ∧ i.raw ≤ c.rawMax ∧
      ∀ b, c.targets = .wiper b → i.raw ≤ 2 := by
  have position : (!c.targets.wiperRole || decide (i.raw ≤ 2)) = true ↔ ∀ b, c.targets = .wiper b → i.raw ≤ 2 := by
    cases c.targets <;> simp [Targets.wiperRole]
  simp only [PointCfg.accepts, Bool.and_eq_true, position, Bool.or_eq_true, decide_eq_true_eq, and_assoc]

theorem State.matchPoint_none {s : State} {src index : Nat}
    (h : ∀ q y, s.point q = some y → ¬ (y.cfg.station = src ∧ y.cfg.index = index)) :
    s.matchPoint src index = none := by
  rw [State.matchPoint_eq, List.find?_eq_none]
  intro q _ named
  obtain ⟨y, hy, names⟩ := (Point.names_iff _ _ _).mp named
  exact h q y hy names

/-- An item from `src` that names no point in place, or that its point rejects. -/
def State.leavesItem (s : State) (src : Nat) (i : SampleItem) : Prop :=
  ∀ p x, s.matchPoint src i.index = some p → s.point p = some x → x.cfg.accepts i = false

section LeftItems

variable {s : State} {src : Nat} {i : SampleItem}

theorem intakeItem_left (h : s.leavesItem src i) : intakeItem src i s = s := by
  unfold intakeItem
  split
  · rfl
  · next p found =>
    split
    · next x hx => exact if_neg (Bool.eq_false_iff.mp (h p x found hx))
    · rfl

theorem passOf_left (h : s.leavesItem src i) : s.passOf src i = none := by
  refine Option.eq_none_iff_forall_ne_some.mpr fun ch passes => ?_
  obtain ⟨p, c, found, cfg, _, accepts, _⟩ := (s.passOf_iff src i ch).mp passes
  obtain ⟨x, hx, rfl⟩ := Option.map_eq_some_iff.mp cfg
  exact Bool.eq_false_iff.mp (h p x found hx) accepts

theorem intakeItems_left {l : List SampleItem} (h : ∀ i ∈ l, s.leavesItem src i) : intakeItems src l s = (s, []) := by
  induction l with
  | nil => rfl
  | cons i l ih =>
    have first := h i List.mem_cons_self
    rw [intakeItems, intakeItem_left first, passOf_left first, ih fun j hj => h j (List.mem_cons_of_mem i hj)]

end LeftItems

/-- Each item that is read of a payload has its index byte at a place that the head counts (11, R182). -/
theorem mem_itemsOf {k : Nat} {rest : List Byte} {i : SampleItem} (h : i ∈ itemsOf k rest) :
    ∃ n c, n < k ∧ rest[3 * n]? = some c ∧ i.index = c.toNat % 16 := by
  induction k generalizing rest with
  | zero => cases h
  | succ k ih =>
    match rest, h with
    | b :: _ :: _ :: rest, h =>
      rcases List.mem_cons.mp h with rfl | later
      · exact ⟨0, b, by omega, rfl, rfl⟩
      · obtain ⟨n, c, hn, hc, index⟩ := ih later
        exact ⟨n + 1, c, by omega, hc, index⟩

theorem mem_sampleItems {payload : List Byte} {items : List SampleItem} {i : SampleItem}
    (h : sampleItems payload = some items) (hi : i ∈ items) : ∃ head rest, payload = head :: rest ∧
      1 ≤ head.toNat % 16 ∧ head.toNat % 16 ≤ 8 ∧ rest.length = 3 * (head.toNat % 16) + 6 * (head.toNat / 16) ∧
      ∃ n c, n < head.toNat % 16 ∧ rest[3 * n]? = some c ∧ i.index = c.toNat % 16 := by
  cases payload with
  | nil => cases h
  | cons head rest =>
    obtain ⟨⟨some1, most8, length⟩, read⟩ := Option.ite_none_right_eq_some.mp h
    rw [← Option.some.inj read] at hi
    rw [List.length_cons] at length
    exact ⟨head, rest, rfl, some1, most8, by omega, mem_itemsOf hi⟩

/-! ### A SAMPLE that is not read goes on as it came (08, R138, R143) -/

section Unread

variable {s : State} {dst src : Byte} {payload : List Byte}

theorem exec_sampleFrame_tapped (hn : s.normal) (hl : payload.length ≤ 48) :
    exec (.sampleFrame dst src payload) s = .next (southSample ⟨dst, src, 0x01, payload⟩ s) := by
  have good : receiveFrame .south ⟨dst, src, 0x01, payload⟩ s = southSample ⟨dst, src, 0x01, payload⟩ s :=
    calc receiveFrame .south ⟨dst, src, 0x01, payload⟩ s
        = receiveGood .south ⟨dst, src, 0x01, payload⟩ s := if_pos hl
      _ = fromSouth ⟨dst, src, 0x01, payload⟩ s := by
        unfold receiveGood
        rw [State.normal_repeater hn, if_neg (by decide), if_neg fun h => kindSample_ne_kindRequest h.2]
      _ = southSample ⟨dst, src, 0x01, payload⟩ s := if_pos rfl
  rw [← good]
  rfl

theorem exec_sampleFrame_unread (hs : s.atRest) (hn : s.normal) (hl : payload.length ≤ 48)
    (left : ∀ items, sampleItems payload = some items → ∀ i ∈ items, s.leavesItem (stationOf src) i) :
    exec (.sampleFrame dst src payload) s = .next (passOn .south ⟨dst, src, 0x01, payload⟩ s) := by
  have tapped : tapSample ⟨dst, src, 0x01, payload⟩ s = (s, []) := by
    unfold tapSample
    split
    · next items read => exact intakeItems_left (left items read)
    · rfl
  rw [exec_sampleFrame_tapped hn hl, southSample, tapped, endEvent_atRest hs]
  rfl

theorem State.raisedOnly.endEvent {s t : State} {k : AlarmKind} {i : Nat} (h : s.raisedOnly t k i) :
    s.raisedOnly (endEvent t) k i := by
  unfold State.raisedOnly at h ⊢
  simpa only [endEvent_alarm, endEvent_alarms] using h

theorem passOn_full {f : Frame} (hs : s.atRest) (h : stationOf f.dst ≠ s.address) (full : 16 ≤ s.north.queue.length) :
    s.onlyAlarms (passOn .south f s) ∧ s.raisedOnly (passOn .south f s) .transitOverrun 0 := by
  rw [passOn_forward .south h, forwardFrame_full .south f s full]
  exact ⟨(raise_alarmUnitOnly .transitOverrun _ s).onlyAlarms hs ((State.notesSound.atRest hs).raise (by decide)),
    (raise_raisedOnly .transitOverrun _ s).endEvent⟩

end Unread

/-! ### A lone item that its point accepts (02, R29 to R32) -/

theorem tellAccepted_eventOnly (p : PointId) (c : PointCfg) (raw : Nat) (s : State) :
    s.eventOnly (tellAccepted p c raw s) := by
  have pass : ∀ ch (s : State), s.eventOnly (takePass ch s) := fun ch s => by
    have full := (fullPass_fullyPassed ch s).event
    unfold takePass
    split
    · exact full
    · exact full
    · exact full
    · exact full
    · unfold frozenPass
      rw [volumeStage_eq]
      exact (modChan_stagingOnly ch _ s).event.trans (modChan_stagingOnly ch _ _).event
    · exact .refl s
  unfold tellAccepted
  split
  · next ch _ =>
    split
    · exact ((modChan_stagingOnly ch _ s).event.trans (judgeFlowStale_alarmUnitOnly ch _).event).trans (pass ch _)
    · exact .refl s
  · refine forEach_eventOnly (fun ch _ s => ?_) s
    split
    · exact (modChan_stagingOnly ch _ s).event.trans (judgeUvtStale_alarmUnitOnly ch _).event
    · exact .refl s
  · next b _ =>
    split
    · exact (judgeIntensityStale_alarmUnitOnly b s).event.trans (State.moves.takeSample .refl b _).event
    · exact .refl s
  · next b _ =>
    split
    · exact (State.moves.wiperReport .refl b _).event
    · exact .refl s

section Accepted

variable {s : State} {src : Nat} {i : SampleItem} {p : PointId} {x : Point}

theorem intakeItems_accepted (found : s.matchPoint src i.index = some p) (hx : s.point p = some x)
    (accepts : x.cfg.accepts i = true) :
    (intakeItems src [i] s).1 = tellAccepted p x.cfg i.raw (s.setPoint p (some (x.taken i s.now))) := by
  rw [intakeItems_fst, List.foldl_cons, List.foldl_nil, intakeItem, found]
  dsimp only
  rw [hx]
  exact if_pos accepts

/-- Only an item of a flow point starts a pass (01, R3). -/
theorem intakeItems_passless (found : s.matchPoint src i.index = some p) (hx : s.point p = some x)
    (other : ∀ ch, x.cfg.targets ≠ .flow ch) : (intakeItems src [i] s).2 = [] := by
  refine List.eq_nil_iff_forall_not_mem.mpr fun ch passed => ?_
  obtain ⟨j, hj, passes⟩ := (mem_intakeItems src [i] s ch).mp passed
  obtain ⟨q, c, found', cfg, flow, _⟩ := (s.passOf_iff src j ch).mp passes
  rw [List.mem_singleton.mp hj, found, Option.some.injEq] at found'
  rw [← found', hx, Option.map_some, Option.some.injEq] at cfg
  exact other ch (cfg ▸ flow)

end Accepted

theorem sampleItems_one {i : SampleItem} (hi : i.index < 16 ∧ i.raw < 65536) :
    sampleItems (samplePayload [i]) = some [i] := by
  rw [samplePayload_one]
  exact sampleItems_bytes (a := 0) (by simp) (by simp) (fun j hj => List.mem_singleton.mp hj ▸ hi) rfl (by simp)

theorem samplePayload_one_length (i : SampleItem) : (samplePayload [i]).length ≤ 48 := by
  simp [samplePayload, SampleItem.toBytes, bytes2]

/-- The event of a lone accepted item, the frame then going on; it is annotated for a flow point alone. -/
theorem exec_sampleFrame_accepted {dst src : Byte} {i : SampleItem} {p : PointId} {x : Point} {s : State}
    (hn : s.normal) (hi : i.index < 16 ∧ i.raw < 65536) (found : s.matchPoint (stationOf src) i.index = some p)
    (hx : s.point p = some x) (accepts : x.cfg.accepts i = true) :
    ∃ t f, exec (.sampleFrame dst src (samplePayload [i])) s = .next t ∧
      (endEvent (tellAccepted p x.cfg i.raw (s.setPoint p (some (x.taken i s.now))))).HasPassedOn t f ∧
      ((∀ ch, x.cfg.targets ≠ .flow ch) → f = ⟨dst, src, 0x01, samplePayload [i]⟩ ∧
        t = passOn .south f (endEvent (tellAccepted p x.cfg i.raw (s.setPoint p (some (x.taken i s.now)))))) := by
  have run := exec_sampleFrame (dst := dst) (src := src) hn (samplePayload_one_length i) (sampleItems_one hi)
  rw [intakeItems_accepted found hx accepts] at run
  refine ⟨_, _, run, passOn_hasPassedOn (endEvent_leavesRest _), fun other => ?_⟩
  rw [intakeItems_passless found hx other]
  exact ⟨rfl, rfl⟩

end Sys2Proof.Machine

namespace Sys2Proof.Machine
open Sys2Proof

set_option Elab.async false

/-! ### An event of the alarm unit alone, and the frame that goes on behind its ALERT frames (08, R143, R144) -/

/-- A frame that has gone on after an event of the alarm unit alone. -/
theorem State.onlyAlarms.goesOn {s u t : State} {f : Frame} (h : s.onlyAlarms u) (g : u.HasPassedOn t f) :
    s.onlyAlarms t (tapped := some f) := by
  obtain ⟨event, before, alerts, queue⟩ := h
  obtain ⟨onward, after, late, queue'⟩ := g.onlyAlarms
  have address : u.address = s.address := by
    have same := congrArg State.address event
    exact same
  have dest : u.alertDest = s.alertDest := by
    have same := congrArg State.alertDest event
    exact same
  have priorities : u.priorities = s.priorities := by
    have same := congrArg State.priorities event
    exact same
  refine ⟨?_, before ++ after, fun q hq => ?_, ?_⟩
  · exact (congrArg (fun v : State => { v with
      alarms := s.alarms, alertLine := s.alertLine, alertSlot := s.alertSlot,
      north := { v.north with queue := s.north.queue } }) onward).trans event
  · rcases List.mem_append.mp hq with hq | hq
    · exact alerts q hq
    · simpa only [State.ownFrame, State.priority, address, dest, priorities] using late q hq
  · have north : u.north.queue = s.north.queue ++ before := by simpa using queue
    rw [queue']
    dsimp only
    rw [State.goingOn, State.goingOn, north, address, List.length_append, List.length_append, Nat.add_assoc,
      List.append_assoc s.north.queue]

theorem insertNote_length (n : AlertNote) (l : List AlertNote) : (insertNote n l).length = l.length + 1 := by
  induction l with
  | nil => rfl
  | cons m l ih =>
    unfold insertNote
    split
    · rfl
    · rw [List.length_cons, ih, List.length_cons]

theorem raise_alertsDue_length (k : AlarmKind) (i : Nat) (s : State) :
    (raise k i s).alertsDue.length ≤ s.alertsDue.length + 1 := by
  unfold raise
  split
  · omega
  · split
    · show (noteAlert k i _).alertsDue.length ≤ _
      unfold noteAlert
      split
      · exact (insertNote_length _ _).le
      · exact Nat.le_succ _
    · omega
    · exact Nat.le_succ _
    · omega

theorem makeAlert_north_length (n : AlertNote) (s : State) :
    (makeAlert n s).north.queue.length ≤ s.north.queue.length + 1 := by
  unfold makeAlert
  split
  · dsimp only
    split
    · simp [pushFrame, State.modPort]
    · exact Nat.le_succ _
  · exact Nat.le_succ _

/-- Each alert due puts one frame at most into the north queue. -/
theorem endEvent_north_length {s : State} (hs : s.slotsMade = []) (h : s.notesSound) :
    (endEvent s).north.queue.length ≤ s.north.queue.length + s.alertsDue.length := by
  have each : ∀ (l : List AlertNote) (u : State),
      (forEach l makeAlert u).north.queue.length ≤ u.north.queue.length + l.length := fun l => by
    induction l with
    | nil => exact fun u => le_refl _
    | cons n l ih =>
      intro u
      have one := makeAlert_north_length n u
      have more := ih (makeAlert n u)
      rw [forEach_cons, List.length_cons]
      omega
  have none : (flushAlerts s).slotsMade = [] := by
    obtain ⟨_, _, _, e⟩ := State.gainsAlerts.flushAlerts h
    rw [e]
    exact hs
  rw [endEvent, flushSlots_none none]
  exact each s.alertsDue _

/-- A frame that is not lost raises nothing (08, R143). -/
theorem passOn_alarms {s : State} {f : Frame} (hs : s.atRest)
    (room : stationOf f.dst = s.address ∨ s.north.queue.length < 16) : (passOn .south f s).alarms = s.alarms := by
  by_cases addressed : stationOf f.dst = s.address
  · rw [passOn_addressed .south addressed]
  · rw [passOn_room hs addressed (room.resolve_left addressed)]
    rfl

/-! ### A channel's UVT point takes an item (02, R32, R34, R37) -/

/-- Each listed channel that the point serves has it FRESH. -/
def State.uvtsFreshened (s : State) (p : PointId) (chs : List ChanId) : State :=
  { s with channels := build fun ch =>
      if ch ∈ chs ∧ s.uvtPoint ch = some p then { s.chan ch with uvtUse := .fresh, uvtHold := none } else s.chan ch }

/-- One channel is told that its UVT point has taken an item (02, R32). -/
def tellUvtFresh (p : PointId) (ch : ChanId) (s : State) : State :=
  if s.uvtPoint ch = some p then uvtFresh ch s else s

section UvtPoint

variable {u : State} {p : PointId}

theorem tellAccepted_uvt {c : PointCfg} {chs : List ChanId} (h : c.targets = .uvt chs) (raw : Nat) :
    tellAccepted p c raw u = forEach chs (tellUvtFresh p) u := by
  rw [tellAccepted, h]
  rfl

theorem State.uvtsFreshened_chan (s : State) (p : PointId) (chs : List ChanId) (ch : ChanId) :
    (s.uvtsFreshened p chs).chan ch = if ch ∈ chs ∧ s.uvtPoint ch = some p then
      { s.chan ch with uvtUse := .fresh, uvtHold := none } else s.chan ch :=
  build_get _ ch

theorem State.uvtsFreshened_eq {s t : State} {chs : List ChanId} (same : { t with channels := s.channels } = s)
    (h : ∀ ch, t.chan ch = (s.uvtsFreshened p chs).chan ch) : s.uvtsFreshened p chs = t := by
  have channels : (s.uvtsFreshened p chs).channels = t.channels := vector_ext_get fun ch => (h ch).symm
  calc s.uvtsFreshened p chs
      = { s with channels := (s.uvtsFreshened p chs).channels } := rfl
    _ = { s with channels := t.channels } := by rw [channels]
    _ = t := congrArg (fun v : State => { v with channels := t.channels }) same.symm

theorem State.uvtsFreshened_nil (s : State) (p : PointId) : s.uvtsFreshened p [] = s :=
  State.uvtsFreshened_eq rfl fun ch => by rw [State.uvtsFreshened_chan, if_neg fun h => List.not_mem_nil h.1]

/-- A channel told twice is told once. -/
theorem State.uvtsFreshened_cons (s : State) (p : PointId) (ch : ChanId) (chs : List ChanId) :
    s.uvtsFreshened p (ch :: chs) = (s.uvtsFreshened p [ch]).uvtsFreshened p chs := by
  refine State.uvtsFreshened_eq rfl fun c => ?_
  have point : (s.uvtsFreshened p [ch]).uvtPoint c = s.uvtPoint c := State.servingPoint_congr rfl _
  rw [State.uvtsFreshened_chan, State.uvtsFreshened_chan, State.uvtsFreshened_chan, point]
  by_cases e : c = ch
  · subst e
    by_cases h : s.uvtPoint c = some p <;> simp [h]
  · simp [e]

theorem tellUvtFresh_alarmUnitOnly (ch : ChanId) : (u.uvtsFreshened p [ch]).alarmUnitOnly (tellUvtFresh p ch u) := by
  unfold tellUvtFresh
  split
  · next h =>
    have one : u.uvtsFreshened p [ch] = u.modChan ch fun c => { c with uvtUse := .fresh, uvtHold := none } := by
      refine State.uvtsFreshened_eq rfl fun c => ?_
      rw [State.uvtsFreshened_chan, State.modChan_chan]
      by_cases e : c = ch
      · subst e
        simp [h]
      · simp [e]
    rw [one]
    exact judgeUvtStale_alarmUnitOnly ch _
  · next h =>
    have none : u.uvtsFreshened p [ch] = u := by
      refine State.uvtsFreshened_eq rfl fun c => ?_
      rw [State.uvtsFreshened_chan, if_neg]
      rintro ⟨hc, hp⟩
      exact h (List.mem_singleton.mp hc ▸ hp)
    rw [none]
    exact .refl u

theorem State.alarmUnitOnly.uvtsFreshened {s t : State} (h : s.alarmUnitOnly t) (p : PointId) (chs : List ChanId) :
    (s.uvtsFreshened p chs).alarmUnitOnly (t.uvtsFreshened p chs) := by
  obtain ⟨a, m, d, rfl⟩ := h
  exact ⟨a, m, d, rfl⟩

theorem tellUvtsFresh_alarmUnitOnly (chs : List ChanId) :
    (u.uvtsFreshened p chs).alarmUnitOnly (forEach chs (tellUvtFresh p) u) := by
  induction chs generalizing u with
  | nil =>
    rw [State.uvtsFreshened_nil]
    exact .refl u
  | cons ch chs ih =>
    rw [State.uvtsFreshened_cons]
    exact ((tellUvtFresh_alarmUnitOnly ch).uvtsFreshened p chs).trans ih

theorem tellUvtsFresh_notesSound (h : u.notesSound) (chs : List ChanId) :
    (forEach chs (tellUvtFresh p) u).notesSound := by
  refine forEach_keeps (P := State.notesSound) (fun ch _ t ht => ?_) h
  unfold tellUvtFresh
  split
  · exact (ht.chan ch _).report ch.isLt _
  · exact ht

/-- UVT_STALE ceases for a channel that is told. -/
theorem uvtFresh_cause (ch : ChanId) (s : State) : ((uvtFresh ch s).alarm .uvtStale ch.1).cause = false := by
  rw [uvtFresh, setUvt, judgeUvtStale, report_cause, State.modChan_chan_self]
  simp

theorem uvtFresh_alarm_ne {ch d : ChanId} (h : d ≠ ch) (s : State) :
    (uvtFresh ch s).alarm .uvtStale d.1 = s.alarm .uvtStale d.1 := by
  rw [uvtFresh, setUvt, judgeUvtStale, report_alarm_ne (alarmSlot_inst d.isLt ch.isLt fun e => h (Fin.ext e))]
  rfl

/-- UVT_STALE does not hold once a channel has been told, whatever others are told. -/
theorem tellUvtsFresh_cause {ch : ChanId} (chs : List ChanId) (serves : u.uvtPoint ch = some p)
    (h : ch ∈ chs ∨ (u.alarm .uvtStale ch.1).cause = false) :
    ((forEach chs (tellUvtFresh p) u).alarm .uvtStale ch.1).cause = false := by
  induction chs generalizing u with
  | nil => exact h.resolve_left List.not_mem_nil
  | cons c chs ih =>
    have point : (tellUvtFresh p c u).uvtPoint ch = u.uvtPoint ch :=
      State.servingPoint_congr (tellUvtFresh_alarmUnitOnly (u := u) (p := p) c).points _
    rw [forEach_cons]
    refine ih (point.trans serves) ?_
    by_cases e : ch = c
    · subst e
      rw [tellUvtFresh, if_pos serves]
      exact .inr (uvtFresh_cause ch u)
    · refine h.imp (fun hc => (List.mem_cons.mp hc).resolve_left e) fun hf => ?_
      unfold tellUvtFresh
      split
      · rwa [uvtFresh_alarm_ne e]
      · exact hf

end UvtPoint

end Sys2Proof.Machine

namespace Sys2Proof.Machine
open Sys2Proof

set_option Elab.async false

/-! ### A bank's wiper point takes an item (06, R112) -/

/-- A bank whose supervision has taken a position report, WIPER_FAULT left aside (06, R112). -/
def Bank.reported (w : WiperPos) (x : Bank) : Bank :=
  match x.supervision, w with
  | .started, .moving => { x with supervision := .moving }
  | .moving, .parked => x.wipeOk
  | .started, .jammed => { x with supervision := .idle, wipeLimit := none, lastWipe := .fault }
  | .moving, .jammed => { x with supervision := .idle, wipeLimit := none, lastWipe := .fault }
  | _, _ => x

section WiperPoint

variable {u : State} {p : PointId} {b : BankId} {w : WiperPos}

theorem tellAccepted_wiper {c : PointCfg} (h : c.targets = .wiper b) (raw : Nat) :
    tellAccepted p c raw u = if u.wiperPoint b = some p then wiperReport b (wiperOf raw) u else u := by
  rw [tellAccepted, h]

theorem State.modBank_same {f : Bank → Bank} (h : f (u.bank b) = u.bank b) : u.modBank b f = u := by
  refine congrArg (fun v => { u with banks := v }) (vector_ext_get fun c => ?_)
  refine (u.modBank_bank b c f).trans ?_
  split
  · next e =>
    rw [h, e]
    rfl
  · rfl

theorem wiperReport_jammed (h : (u.bank b).supervision ≠ .idle) :
    wiperReport b .jammed u = raise .wiperFault b.1 (u.modBank b (Bank.reported .jammed)) := by
  unfold wiperReport
  cases e : (u.bank b).supervision with
  | idle => exact absurd e h
  | started | moving => exact congrArg (raise _ _) (modBank_congr (by simp [Bank.reported, e]))

theorem wiperReport_quiet (h : (u.bank b).supervision = .idle ∨ w ≠ .jammed) :
    wiperReport b w u = u.modBank b (Bank.reported w) := by
  have stays : (u.bank b).reported w = u.bank b → u = u.modBank b (Bank.reported w) :=
    fun e => (State.modBank_same e).symm
  unfold wiperReport
  cases e : (u.bank b).supervision with
  | idle => exact stays (by simp [Bank.reported, e])
  | started =>
    cases w with
    | parked => exact stays (by simp [Bank.reported, e])
    | moving => exact modBank_congr (by simp [Bank.reported, e])
    | jammed => simp [e] at h
  | moving =>
    cases w with
    | parked => exact modBank_congr (by simp [Bank.reported, e])
    | moving => exact stays (by simp [Bank.reported, e])
    | jammed => simp [e] at h

theorem wiperReport_alarmUnitOnly (w : WiperPos) :
    (u.modBank b (Bank.reported w)).alarmUnitOnly (wiperReport b w u) := by
  by_cases quiet : (u.bank b).supervision = .idle ∨ w ≠ .jammed
  · rw [wiperReport_quiet quiet]
    exact .refl _
  · obtain ⟨supervised, jammed⟩ := not_or.mp quiet
    rw [not_not.mp jammed, wiperReport_jammed supervised]
    exact raise_alarmUnitOnly _ _ _

end WiperPoint

theorem wiperOf_eq_jammed {raw : Nat} (h : raw ≤ 2) : wiperOf raw = .jammed ↔ raw = 2 := by
  interval_cases raw <;> decide

/-- The point's value, by its role (02, R30, R31). -/
theorem PointCfg.valueOf_wiper {c : PointCfg} {b : BankId} (h : c.targets = .wiper b) (raw : Nat) :
    c.valueOf raw = .pos (wiperOf raw) := by
  unfold PointCfg.valueOf
  rw [h]
  rfl

theorem PointCfg.valueOf_scaled {c : PointCfg} (h : ∀ b, c.targets ≠ .wiper b) (raw : Nat) :
    c.valueOf raw = .num (scale raw c.gain c.offset) := by
  have measured : c.targets.wiperRole = false := by
    cases e : c.targets with
    | wiper b => exact absurd e (h b)
    | _ => rfl
  unfold PointCfg.valueOf
  rw [measured]
  rfl

/-! ### The end of O16 -/

/-- What the event of an accepted item leaves, by the state `v` in which its consumers have been told and the state `t`
in which its frame has gone on. -/
structure State.TookItem (s v t : State) (p : PointId) (x : Point) (i : SampleItem) (f : Frame) : Prop where
  event  : (s.setPoint p (some (x.taken i s.now))).eventOnly v
  onward : (endEvent v).HasPassedOn t f

namespace State.TookItem

variable {s v t : State} {p : PointId} {x : Point} {i : SampleItem} {f : Frame}

theorem outer (h : s.TookItem v t p x i f) : t.outer = s.outer := by
  obtain ⟨_, _, _, _, _, ends⟩ := endEvent_framesOnly v
  calc t.outer = (endEvent v).outer := h.onward.outer
    _ = v.outer := by rw [ends]; rfl
    _ = s.outer := h.event.outer

theorem points (h : s.TookItem v t p x i f) : t.points = (s.setPoint p (some (x.taken i s.now))).points := by
  obtain ⟨_, _, _, _, _, ends⟩ := endEvent_framesOnly v
  calc t.points = (endEvent v).points := h.onward.points
    _ = v.points := by rw [ends]
    _ = _ := h.event.points

theorem point (h : s.TookItem v t p x i f) (q : PointId) :
    t.point q = if q = p then some (x.taken i s.now) else s.point q := by
  rw [State.point, h.points]
  exact State.setPoint_point s p q _

theorem alarm (h : s.TookItem v t p x i f) {k : AlarmKind} (hk : k ≠ .transitOverrun) (j : Nat) :
    t.alarm k j = v.alarm k j :=
  (h.onward.alarm k j hk).trans (endEvent_alarm v k j)

end State.TookItem

theorem rejectedItem_left {s : State} {src : Nat} {i : SampleItem} {p : PointId} {x : Point}
    (found : s.matchPoint src i.index = some p) (hx : s.point p = some x) (rejects : ¬ x.cfg.accepts i = true) :
    s.leavesItem src i := by
  intro q y hq hy
  obtain rfl := Option.some.inj (found.symm.trans hq)
  obtain rfl := Option.some.inj (hx.symm.trans hy)
  exact Bool.eq_false_iff.mpr rejects

section Consumers

variable {s t : State} {p : PointId} {x : Point} {i : SampleItem} {f : Frame}

theorem State.taken_servingPoint (hx : s.point p = some x) (i : SampleItem) (q : Targets → Bool) :
    (s.setPoint p (some (x.taken i s.now))).servingPoint q = s.servingPoint q :=
  State.setPoint_servingPoint (y := x.taken i s.now) hx rfl q

/-- What a UVT point's item leaves of the channels, written from the state before it. -/
theorem uvtItem_channels {chs : List ChanId} {u : State} (hx : s.point p = some x)
    (hu : u = s.setPoint p (some (x.taken i s.now))) (points : t.points = u.points) :
    ({ s with points := t.points, channels := build fun ch =>
        if ch ∈ chs ∧ s.uvtPoint ch = some p then { s.chan ch with uvtUse := .fresh, uvtHold := none }
        else s.chan ch } : State) = u.uvtsFreshened p chs := by
  have uvt : ∀ ch, u.uvtPoint ch = s.uvtPoint ch := fun ch => hu ▸ State.taken_servingPoint hx i _
  rw [points, State.uvtsFreshened]
  simp only [uvt]
  rw [hu]
  rfl

/-- The channels that a UVT point serves have its value FRESH, and UVT_STALE ceases for them (02, R34, R37). -/
theorem uvtItem_told {chs : List ChanId} {u : State} (hs : s.atRest) (hx : s.point p = some x)
    (hu : u = s.setPoint p (some (x.taken i s.now))) (h : s.TookItem (forEach chs (tellUvtFresh p) u) t p x i f) :
    ({ s with points := t.points, channels := build fun ch =>
        if ch ∈ chs ∧ s.uvtPoint ch = some p then { s.chan ch with uvtUse := .fresh, uvtHold := none }
        else s.chan ch } : State).onlyAlarms t (some f) ∧
      ∀ ch, ch ∈ chs → s.uvtPoint ch = some p →
        (t.alarm .uvtStale ch.1).cause = false ∧ ∀ n, x.cfg.valueOf i.raw = .num n → t.uvtNow ch = n := by
  have uvt : ∀ ch, u.uvtPoint ch = s.uvtPoint ch := fun ch => hu ▸ State.taken_servingPoint hx i _
  have rest : u.atRest := hu ▸ hs.of_eq rfl rfl
  have only := ((tellUvtsFresh_alarmUnitOnly (u := u) (p := p) chs).onlyAlarms (rest.of_eq rfl rfl)
    (tellUvtsFresh_notesSound (.atRest rest) chs)).goesOn h.onward
  refine ⟨?_, fun ch hc serves => ⟨?_, fun n hn => ?_⟩⟩
  · rw [uvtItem_channels hx hu (h.points.trans (hu ▸ rfl))]
    exact only
  · rw [h.alarm (by decide)]
    exact tellUvtsFresh_cause chs ((uvt ch).trans serves) (.inl hc)
  · have use : (t.chan ch).uvtUse = .fresh := by
      have same := congrArg (fun v : State => (v.chan ch).uvtUse) only.1
      refine Eq.trans same ?_
      rw [State.uvtsFreshened_chan, if_pos ⟨hc, (uvt ch).trans serves⟩]
    have point : t.uvtPoint ch = some p := by
      rw [State.uvtPoint, State.servingPoint_congr h.points, State.taken_servingPoint hx]
      exact serves
    have value : t.pointNum (some p) = some n := by
      rw [State.pointNum_eq ((h.point p).trans (if_pos rfl)), Point.taken, hn]
    rw [State.uvtNow, use]
    dsimp only
    rw [point, value]
    rfl

/-- What a wiper's item leaves of the banks, written from the state before it. -/
theorem wiperItem_banks {b : BankId} {w : WiperPos} {g : Bank} {u : State}
    (hu : u = s.setPoint p (some (x.taken i s.now)))
    (points : t.points = u.points) (hg : g = (s.bank b).reported w) :
    ({ s with points := t.points, banks := build fun c =>
        if c = b ∧ s.wiperPoint b = some p then g else s.bank c } : State) =
      if s.wiperPoint b = some p then u.modBank b (Bank.reported w) else u := by
  rw [points, hu]
  split
  · next serves =>
    refine congrArg (fun v => { s.setPoint p (some (x.taken i s.now)) with banks := v }) (vector_ext_get fun c => ?_)
    rw [build_get]
    refine Eq.trans ?_ ((s.setPoint p (some (x.taken i s.now))).modBank_bank b c _).symm
    simp only [serves, and_true, hg]
    rfl
  · next serves =>
    refine congrArg (fun v => { s.setPoint p (some (x.taken i s.now)) with banks := v }) (vector_ext_get fun c => ?_)
    rw [build_get, if_neg fun e => serves e.2]
    rfl

/-- A wiper's position moves the supervision of the bank it serves (06, R112). -/
theorem wiperItem_told {b : BankId} {w : WiperPos} {g : Bank} {u v : State} (hs : s.atRest)
    (hu : u = s.setPoint p (some (x.taken i s.now)))
    (hv : v = if s.wiperPoint b = some p then wiperReport b w u else u) (hg : g = (s.bank b).reported w)
    (h : s.TookItem v t p x i f) :
    ({ s with points := t.points, banks := build fun c =>
        if c = b ∧ s.wiperPoint b = some p then g else s.bank c } : State).onlyAlarms t (some f) := by
  have rest : u.atRest := hu ▸ hs.of_eq rfl rfl
  have moved : (if s.wiperPoint b = some p then u.modBank b (Bank.reported w) else u).alarmUnitOnly v := by
    rw [hv]
    split
    · exact wiperReport_alarmUnitOnly w
    · exact .refl u
  have calm : (if s.wiperPoint b = some p then u.modBank b (Bank.reported w) else u).atRest := by
    split
    · exact rest.of_eq rfl rfl
    · exact rest
  have sound : v.notesSound := by
    rw [hv]
    split
    · exact (State.notesSound.atRest rest).moves (.wiperReport .refl b w)
    · exact .atRest rest
  rw [wiperItem_banks hu (h.points.trans (hu ▸ rfl)) hg]
  exact (moved.onlyAlarms calm sound).goesOn h.onward

/-- A position other than JAMMED under supervision leaves the alarm unit. -/
theorem wiperItem_quiet {b : BankId} {w : WiperPos} {u : State} (hs : s.atRest)
    (hu : u = s.setPoint p (some (x.taken i s.now)))
    (quiet : s.wiperPoint b ≠ some p ∨ (s.bank b).supervision = .idle ∨ w ≠ .jammed)
    (room : stationOf f.dst = s.address ∨ s.north.queue.length < 16) :
    (passOn .south f (endEvent (if s.wiperPoint b = some p then wiperReport b w u else u))).alarms = s.alarms := by
  have told : ∃ banks, (if s.wiperPoint b = some p then wiperReport b w u else u) = { u with banks := banks } := by
    split
    · next serves =>
      have still := quiet.resolve_left (not_not.mpr serves)
      rw [wiperReport_quiet (by rwa [hu])]
      exact ⟨_, rfl⟩
    · exact ⟨u.banks, rfl⟩
  obtain ⟨banks, e⟩ := told
  have calm : ({ u with banks := banks } : State).atRest := hs.of_eq (by rw [hu]; rfl) (by rw [hu]; rfl)
  rw [e, endEvent_atRest calm, passOn_alarms calm (by rw [hu]; exact room), hu]
  rfl

/-- A jammed wiper under supervision raises WIPER_FAULT; at most one ALERT frame is before the frame that goes on. -/
theorem wiperItem_jammed {b : BankId} {u : State} (hs : s.atRest)
    (hu : u = s.setPoint p (some (x.taken i s.now))) (supervised : (s.bank b).supervision ≠ .idle)
    (room : stationOf f.dst = s.address ∨ s.north.queue.length < 15) :
    s.raisedOnly (passOn .south f (endEvent (wiperReport b .jammed u))) .wiperFault b.1 := by
  have rest : u.atRest := hu ▸ hs.of_eq rfl rfl
  obtain ⟨z, hz⟩ : ∃ z, z = u.modBank b (Bank.reported .jammed) := ⟨_, rfl⟩
  have calm : z.atRest := hz ▸ rest.of_eq rfl rfl
  have raised := (raise_raisedOnly .wiperFault b.1 z).endEvent
  have sound : (raise .wiperFault b.1 z).notesSound := (State.notesSound.atRest calm).raise b.isLt
  obtain ⟨_, _, _, unit⟩ := raise_alarmUnitOnly .wiperFault b.1 z
  have places := endEvent_north_length (s := raise .wiperFault b.1 z) (by rw [unit]; exact calm.2) sound
  have due := raise_alertsDue_length .wiperFault b.1 z
  have queue : (raise .wiperFault b.1 z).north.queue = s.north.queue := by
    rw [unit, hz, hu]
    rfl
  have address : (endEvent (raise .wiperFault b.1 z)).address = s.address := by
    obtain ⟨_, _, _, _, _, ends⟩ := endEvent_framesOnly (raise .wiperFault b.1 z)
    rw [ends, unit, hz, hu]
    rfl
  have onward := passOn_alarms (f := f) (endEvent_leavesRest (raise .wiperFault b.1 z)) (by
    rw [address]
    rw [queue] at places
    rw [calm.1, List.length_nil] at due
    omega)
  rw [wiperReport_jammed (by rwa [hu]), ← hz]
  have before : z.alarms = s.alarms ∧ z.priorities = s.priorities := by
    rw [hz, hu]
    exact ⟨rfl, rfl⟩
  unfold State.raisedOnly State.alarm State.priority at raised ⊢
  rwa [onward, ← before.1, ← before.2]

end Consumers

/-- Settles O16: an item that names no point or that its point rejects leaves the state, and the frame goes on; an
accepted item reaches its point, and `tellAccepted` its consumers. -/
theorem sampleItemReachesItsPoint : Obligations.SampleItemReachesItsPoint := by
  refine ⟨fun dst src payload f s hs hn hl hf unnamed => ?_,
    fun dst src i p x s hs hn hi hr hx station index alone => ?_⟩
  · subst hf
    have left : ∀ items, sampleItems payload = some items → ∀ i ∈ items, s.leavesItem (stationOf src) i := by
      intro items read i hi q y found
      obtain ⟨head, rest, rfl, least, most, length, n, c, hc, byte, number⟩ := mem_sampleItems read hi
      have unmatched := State.matchPoint_none fun q y hy => unnamed head rest rfl least most length n c q y hc byte hy
      rw [number, unmatched] at found
      cases found
    rw [exec_sampleFrame_unread hs hn hl left]
    exact ⟨fun addressed => congrArg _ (passOn_addressed .south addressed),
      fun other room => congrArg _ (passOn_room hs other room),
      fun other full => ⟨_, rfl, passOn_full hs other full⟩⟩
  · have found : s.matchPoint (stationOf src) i.index = some p := State.matchPoint_of hx station index alone
    refine ⟨fun accepts => ?_, fun rejects => ?_⟩
    · obtain ⟨quality, low, high, positions⟩ := accepts
      obtain ⟨u, hu⟩ : ∃ u, u = s.setPoint p (some (x.taken i s.now)) := ⟨_, rfl⟩
      obtain ⟨t, f, run, onward, plain⟩ := exec_sampleFrame_accepted (dst := dst) hn ⟨hi, hr⟩ found hx
        ((x.cfg.accepts_iff i).mpr ⟨quality, low, high, positions⟩)
      have took : s.TookItem (tellAccepted p x.cfg i.raw (s.setPoint p (some (x.taken i s.now)))) t p x i f :=
        ⟨tellAccepted_eventOnly _ _ _ _, onward⟩
      refine ⟨t, x.cfg.valueOf i.raw, run, took.outer, exec_tables rfl run, fun q hq => ?_, ?_, fun b wiper => ?_,
        fun measured => ?_, fun chs uvt => ?_, fun b wiper => ?_⟩
      · rw [took.point, if_neg hq]
      · rw [took.point, if_pos rfl]
        rfl
      · exact PointCfg.valueOf_wiper wiper i.raw
      · exact PointCfg.valueOf_scaled measured i.raw
      · obtain ⟨rfl, _⟩ := plain (by simp [uvt])
        rw [tellAccepted_uvt uvt, ← hu] at took
        exact uvtItem_told hs hx hu took
      · obtain ⟨rfl, sent⟩ := plain (by simp [wiper])
        have serves : u.wiperPoint b = s.wiperPoint b := hu ▸ State.taken_servingPoint hx i _
        have most := positions b wiper
        have position := wiperOf_eq_jammed most
        rw [tellAccepted_wiper wiper, ← hu, serves] at took sent
        refine ⟨wiperItem_told hs hu rfl ?_ took, fun room => ⟨fun serving supervised jammed => ?_, fun quiet => ?_⟩⟩
        · generalize i.raw = raw at most ⊢
          unfold Bank.reported
          interval_cases raw <;> cases (s.bank b).supervision <;> rfl
        · rw [if_pos serving, position.mpr jammed] at sent
          rw [sent]
          exact wiperItem_jammed hs hu supervised room
        · rw [sent]
          exact wiperItem_quiet hs hu (quiet.imp_right (Or.imp_right fun h => mt position.mp h))
            (room.imp_right fun h => by omega)
    · have left : ∀ items, sampleItems (samplePayload [i]) = some items →
          ∀ j ∈ items, s.leavesItem (stationOf src) j := by
        intro items read j hj
        obtain rfl := Option.some.inj ((sampleItems_one ⟨hi, hr⟩).symm.trans read)
        rw [List.mem_singleton.mp hj]
        exact rejectedItem_left found hx (mt (x.cfg.accepts_iff i).mp rejects)
      rw [exec_sampleFrame_unread hs hn (samplePayload_one_length i) left]
      exact ⟨fun addressed => congrArg _ (passOn_addressed .south addressed),
        fun other room => congrArg _ (passOn_room hs other room)⟩

end Sys2Proof.Machine

namespace Sys2Proof.Machine
open Sys2Proof

set_option Elab.async false

/-! ### OUTPUT_LOW and the wipe it starts (03, R55; 06, R107, R109) -/

/-- A RUN bank whose WIPE program starts, its wipe-interval timer with it (06, R101, R107; log 27). -/
def Bank.wiping (now : Nat) (x : Bank) : Bank :=
  { x with
    running := some .wipe
    stepIdx := 0
    stepTimer := some (now + 10 * 2 ^ (x.wipe.get 0).k)
    wipeInterval := if x.get .wipeInterval = 0 then x.wipeInterval else some (now + 60000 * x.get .wipeInterval) }

/-- A bank of which OUTPUT_LOW has been judged: its beginning starts a wipe where no program runs and the bank is
governed (06, R109). -/
def Bank.judgedLow (begins governed : Bool) (now : Nat) (x : Bank) : Bank :=
  if begins = true ∧ x.running = none ∧ governed = true then x.wiping now else x

def State.judgedLow (s : State) (b : BankId) (begins : Bool) : State :=
  s.modBank b (Bank.judgedLow begins (s.bankGoverned b) s.now)

theorem startWipe_run {b : BankId} {s : State} (h : (s.bank b).state = .run) :
    startWipe b s = s.modBank b (Bank.wiping s.now) := by
  unfold startWipe startInterval startProgram
  rw [if_pos h, State.modBank_modBank]
  refine modBank_congr ?_
  unfold Bank.wiping
  dsimp only
  split
  · next off => rw [if_pos (show (s.bank b).get .wipeInterval = 0 from off)]; rfl
  · next on => rw [if_neg (show ¬ (s.bank b).get .wipeInterval = 0 from on)]; rfl

theorem Bank.outputLow_iff (x : Bank) : x.outputLow = true ↔
    x.state = .run ∧ ∃ q, x.tracker.sref = some q ∧ q * 256 < x.get .expected * x.get .lowPct := by
  unfold Bank.outputLow lowTest
  cases x.tracker.sref <;> simp

theorem State.bankGoverned_iff (s : State) (b : BankId) :
    s.bankGoverned b = true ↔ ∃ ch, (s.bank b).owner = some ch ∧ (s.chan ch).dormant = false := by
  unfold State.bankGoverned
  cases (s.bank b).owner <;> simp

theorem State.alarmUnitOnly.judgedLow {s t : State} (h : s.alarmUnitOnly t) (b : BankId) (begins : Bool) :
    (s.judgedLow b begins).alarmUnitOnly (t.judgedLow b begins) := by
  obtain ⟨a, l, d, rfl⟩ := h
  exact ⟨a, l, d, rfl⟩

theorem forcedWipe_run {b : BankId} {s : State} (h : (s.bank b).state = .run) :
    forcedWipe b s = s.judgedLow b true := by
  unfold forcedWipe
  split
  · next c => rw [startWipe_run h]; exact modBank_congr (if_pos ⟨rfl, c.2⟩).symm
  · next c => exact (State.modBank_same (if_neg fun g => c ⟨h, g.2⟩)).symm

/-- OUTPUT_LOW judged differs from the update of the bank by the alarm unit. -/
theorem State.alarmUnitOnly.judgeOutputLow {s t : State} {b : BankId} (h : s.alarmUnitOnly t) :
    (s.judgedLow b ((s.bank b).outputLow && !t.holds .outputLow b.1)).alarmUnitOnly (judgeOutputLow b t) := by
  have bank := h.bank b
  have reported := h.report .outputLow b.1 (t.bank b).outputLow
  unfold Machine.judgeOutputLow
  rw [bank] at reported ⊢
  dsimp only
  split
  · next begins =>
    have run : (s.bank b).state = .run := ((s.bank b).outputLow_iff.mp (Bool.and_eq_true _ _ ▸ begins).1).1
    rw [begins, forcedWipe_run (by rwa [reported.bank])]
    exact reported.judgedLow b true
  · next stays =>
    have same : s.judgedLow b ((s.bank b).outputLow && !t.holds .outputLow b.1) = s :=
      State.modBank_same (if_neg fun g => stays g.1)
    rw [same]
    exact reported

theorem judgeOutputLow_alarms (b : BankId) (s : State) :
    (judgeOutputLow b s).alarms = (report .outputLow b.1 (s.bank b).outputLow s).alarms := by
  unfold judgeOutputLow forcedWipe startWipe
  dsimp only
  split
  · split
    · split <;> rfl
    · rfl
  · rfl

/-- OUTPUT_LOW holds as judged. -/
theorem judgeOutputLow_cause (b : BankId) (s : State) :
    ((judgeOutputLow b s).alarm .outputLow b.1).cause = (s.bank b).outputLow := by
  rw [State.alarm, judgeOutputLow_alarms]
  exact report_cause _ _ _ _

theorem judgeOutputLow_alarm_ne {k : AlarmKind} (h : k ≠ .outputLow) (b : BankId) (i : Nat) (s : State) :
    (judgeOutputLow b s).alarm k i = s.alarm k i := by
  rw [State.alarm, judgeOutputLow_alarms]
  exact report_alarm_ne (alarmSlot_kind h) _ _

theorem judgeOutputLow_notesSound {s : State} (h : s.notesSound) (b : BankId) : (judgeOutputLow b s).notesSound :=
  h.moves (.judgeOutputLow .refl b)

/-! ### The sag timer runs out (03, R52) -/

/-- A bank whose fallen level is accepted (03, R52). -/
def Bank.levelAccepted (x : Bank) : Bank :=
  { x with tracker := { x.tracker with sref := x.tracker.sn, reseed := true, sag := .clear, sagTimer := none } }

/-- The level accepted and reported, OUTPUT_LOW not yet judged. -/
def acceptedLevel (b : BankId) (s : State) : State :=
  raise .stepAccepted b.1 (judgeSag b (s.modBank b Bank.levelAccepted))

theorem acceptedLevel_alarmUnitOnly (b : BankId) (s : State) :
    (s.modBank b Bank.levelAccepted).alarmUnitOnly (acceptedLevel b s) :=
  (judgeSag_alarmUnitOnly b _).trans (raise_alarmUnitOnly _ _ _)

theorem acceptedLevel_holds (b : BankId) (s : State) :
    (acceptedLevel b s).holds .outputLow b.1 = (s.alarm .outputLow b.1).cause := by
  unfold acceptedLevel State.holds
  rw [raise_alarm_ne (alarmSlot_kind (by decide)), judgeSag, report_alarm_ne (alarmSlot_kind (by decide))]
  rfl

theorem exec_sagTimerExpiry {b : BankId} {d : Nat} {s : State} (ht : (s.bank b).tracker.sagTimer = some d)
    (hd : d ≤ s.now) : exec (.sagTimerExpiry b) s = .next (endEvent (judgeOutputLow b (acceptedLevel b s))) := by
  have due : s.due (s.bank b).tracker.sagTimer = true := (s.due_iff _).mpr ⟨d, ht, hd⟩
  have ends : sagTimerEnds b s = acceptLevel b s := if_pos due
  have accepts : exec (.sagTimerExpiry b) s = .next (endEvent (sagTimerEnds b s)) := rfl
  rw [accepts, ends]
  rfl

/-- Settles O55: the event is one update of the bank, and the rest of it is the alarm unit's. -/
theorem sagTimerAcceptsTheLevel : Obligations.SagTimerAcceptsTheLevel := by
  intro b d s hs ht hd
  obtain ⟨m, hm⟩ : ∃ m, m = s.modBank b Bank.levelAccepted := ⟨_, rfl⟩
  have accepted : m.alarmUnitOnly (acceptedLevel b s) := hm ▸ acceptedLevel_alarmUnitOnly b s
  have bank : m.bank b = (s.bank b).levelAccepted := by rw [hm, State.modBank_bank_self]
  have sound : (acceptedLevel b s).notesSound :=
    (((State.notesSound.atRest hs).bank b _).report b.isLt _).raise b.isLt
  refine ⟨_, exec_sagTimerExpiry ht hd, fun low hlow => ⟨?_, ?_⟩, ?_, ?_⟩
  · rw [endEvent_alarm, judgeOutputLow_cause, accepted.bank, bank, Bool.eq_iff_iff, hlow, Bank.outputLow_iff]
    rfl
  · have judged := accepted.judgeOutputLow (b := b)
    have outputLow : (m.bank b).outputLow = low := by
      rw [Bool.eq_iff_iff, hlow, Bank.outputLow_iff, bank]
      rfl
    rw [outputLow, acceptedLevel_holds] at judged
    have only := judged.onlyAlarms (hm ▸ hs.of_eq rfl rfl) (judgeOutputLow_notesSound sound b)
    refine (congrArg (fun v : State => v.onlyAlarms _) ?_).mpr only
    have governed : m.bankGoverned b = true ↔ ∃ ch, (s.bank b).owner = some ch ∧ (s.chan ch).dormant = false := by
      rw [State.bankGoverned_iff, bank, hm]
      rfl
    rw [State.judgedLow, hm, State.modBank_modBank, ← hm]
    refine modBank_congr ?_
    unfold Bank.judgedLow
    simp only [governed, Bool.and_eq_true, Bool.not_eq_true', and_assoc]
    have now : m.now = s.now := by rw [hm]; rfl
    rw [now]
    rfl
  · rw [endEvent_alarm, judgeOutputLow_alarm_ne (by decide), acceptedLevel, raise_alarm_ne (alarmSlot_kind (by decide)),
      judgeSag, report_cause, State.modBank_bank_self]
    rfl
  · obtain ⟨raised, _⟩ := raise_raisedOnly .stepAccepted b.1 (judgeSag b (s.modBank b Bank.levelAccepted))
    have before : (judgeSag b (s.modBank b Bank.levelAccepted)).alarm .stepAccepted b.1 = s.alarm .stepAccepted b.1 := by
      rw [judgeSag, report_alarm_ne (alarmSlot_kind (by decide))]
      rfl
    have priority : (judgeSag b (s.modBank b Bank.levelAccepted)).priority .stepAccepted = s.priority .stepAccepted := by
      rw [State.priority, (judgeSag_alarmUnitOnly b _).priorities]
      rfl
    rw [before, priority] at raised
    rw [endEvent_alarm, judgeOutputLow_alarm_ne (by decide)]
    exact raised

end Sys2Proof.Machine

namespace Sys2Proof.Machine
open Sys2Proof

set_option Elab.async false

/-! ### Writes that the locks allow (09, R151, R153, R154, R156) -/

theorem clearFlags_eq (chs : List ChanId) (s : State) : clearFlags chs s = s.flagsCleared chs := by
  refine Eq.trans ?_ (show { s with channels := (clearFlags chs s).channels } = s.flagsCleared chs from ?_)
  · obtain ⟨_, e⟩ := clearFlags_channels chs s
    rw [e]
  · refine congrArg (fun v => { s with channels := v }) (vector_ext_get fun c => ?_)
    rw [build_get]
    unfold clearFlags
    induction chs generalizing s with
    | nil => rfl
    | cons ch chs ih =>
      rw [forEach_cons, ih, State.modChan_chan]
      by_cases e : c = ch
      · subst e
        simp
      · simp [e]

theorem State.flagsCleared_chan (s : State) (chs : List ChanId) (c : ChanId) :
    (s.flagsCleared chs).chan c = if c ∈ chs then { s.chan c with profileValid := false } else s.chan c :=
  build_get _ c

/-- A cleared flag hides nothing else of its channel. -/
theorem State.flagsCleared_keeps {α : Type} (f : Channel → α) (s : State) (chs : List ChanId) (c : ChanId)
    (hf : ∀ x : Channel, f { x with profileValid := false } = f x := by intro _; rfl) :
    f ((s.flagsCleared chs).chan c) = f (s.chan c) := by
  rw [State.flagsCleared_chan]
  split
  · exact hf _
  · rfl

theorem lockTest_holds {s : State} {station : Nat} {chs : List ChanId} (h : s.holdsLocks station chs) :
    s.lockTest station chs = none := by
  have none : (allChans.filter chs.contains).find? (fun ch => (s.chan ch).holder ≠ some station) = none := by
    refine List.find?_eq_none.mpr fun ch hch => ?_
    have held := h ch (List.contains_iff_mem.mp (List.mem_filter.mp hch).2)
    simp [held]
  rw [State.lockTest, none]

/-- A write whose tests all pass takes effect (09, R151, R153). -/
theorem takeWrite_passed {tests : List (Option Reason)} (h : ∀ o ∈ tests, o = none) (chs : List ChanId) (clamped : Bool)
    (effect : State → State) (s : State) :
    takeWrite tests chs clamped effect s = (effect (s.flagsCleared chs), .done clamped []) := by
  have passed : tests.findSome? id = none := List.findSome?_eq_none_iff.mpr h
  rw [takeWrite, passed, clearFlags_eq]

/-- A clamped write's answer carries the mark (09, R151). -/
theorem done_bytes (v : Nat) (r : Range) : (Answer.done (r.outside v) []).bytes = [clampMark v r.lo r.hi] := by
  rw [clampMark_eq]
  rfl

/-! ### What a bank's setting does at its write (03, R57; 05, R95, R96; 06, R107) -/

/-- The bank with a setting stored. -/
def Bank.stored (x : BankSetting) (w : Nat) (y : Bank) : Bank :=
  { y with settings := put y.settings x.idx w }

theorem storeBankSetting_eq (b : BankId) (x : BankSetting) (w : Nat) (s : State) : storeBankSetting b x w s =
    bankSettingActs b x ((s.bank b).get x) w (s.modBank b (Bank.stored x w)) := rfl

theorem bankSettingActs_stagingOnly (b : BankId) (x : BankSetting) (old w : Nat) (s : State) :
    s.stagingOnly (bankSettingActs b x old w s) := by
  unfold bankSettingActs
  split
  · exact judgeOutputLow_stagingOnly b s
  · exact judgeOutputLow_stagingOnly b s
  · exact recheckFaulted_stagingOnly b s
  · unfold wipeIntervalActs
    dsimp only
    split
    · exact startInterval_stagingOnly b s
    · exact .refl s
  · exact .refl s

theorem storeBankSetting_stagingOnly (b : BankId) (x : BankSetting) (w : Nat) (s : State) :
    s.stagingOnly (storeBankSetting b x w s) :=
  (modBank_stagingOnly b _ s).trans (bankSettingActs_stagingOnly b x _ w _)

/-- The settings whose write is felt when their rules next read them, with their ranges (03, Table 3-2; 05, Table 5-5;
06, Table 6-4). -/
theorem bankSetting_quiet {c lo hi : Nat} {x : BankSetting} (hx : bankFieldOfCode c = some (.setting x))
    (hc : (c, lo, hi) ∈ [(1, 1, 4000), (2, 0, 6), (3, 4, 12), (4, 0, 60000), (5, 0, 255), (6, 1, 255), (7, 0, 255),
      (8, 1, 15), (9, 1, 15), (10, 0, 3600), (14, 1, 255), (16, 0, 3), (18, 10, 900), (19, 10, 3600), (22, 10, 600)]) :
    (x.range.lo = lo ∧ x.range.hi = hi) ∧ x ≠ .sagStage ∧ ∀ b old w s, bankSettingActs b x old w s = s := by
  simp only [List.mem_cons, Prod.mk.injEq, List.not_mem_nil, or_false] at hc
  rcases hc with ⟨rfl, rfl, rfl⟩ | ⟨rfl, rfl, rfl⟩ | ⟨rfl, rfl, rfl⟩ | ⟨rfl, rfl, rfl⟩ | ⟨rfl, rfl, rfl⟩ |
    ⟨rfl, rfl, rfl⟩ | ⟨rfl, rfl, rfl⟩ | ⟨rfl, rfl, rfl⟩ | ⟨rfl, rfl, rfl⟩ | ⟨rfl, rfl, rfl⟩ | ⟨rfl, rfl, rfl⟩ |
    ⟨rfl, rfl, rfl⟩ | ⟨rfl, rfl, rfl⟩ | ⟨rfl, rfl, rfl⟩ | ⟨rfl, rfl, rfl⟩ <;>
  · cases hx
    exact ⟨⟨rfl, rfl⟩, by decide, fun _ _ _ _ => rfl⟩

/-- A write of WipeInterval starts the timer of a RUN bank that had none (06, R107). -/
theorem wipeIntervalStored_eq (b : BankId) (w : Nat) (s : State) : storeBankSetting b .wipeInterval w s =
    s.modBank b fun y => { y.stored .wipeInterval w with
      wipeInterval :=
        if y.get .wipeInterval = 0 ∧ w ≠ 0 ∧ y.state = .run ∧ y.wipeInterval = none ∧ y.wipeDue = false then
          some (s.now + 60000 * w)
        else y.wipeInterval } := by
  have value : ((s.bank b).stored .wipeInterval w).get .wipeInterval = w := put_get_self _ _ _
  rw [storeBankSetting_eq, bankSettingActs, wipeIntervalActs, State.modBank_bank_self, startInterval,
    State.modBank_modBank]
  dsimp only
  split
  · next starts =>
    obtain ⟨old, new, run, stopped, due⟩ := starts
    refine modBank_congr ?_
    rw [value, if_neg new, if_pos ⟨old, new, run, stopped, (Bool.not_eq_true' _).mp due⟩]
    rfl
  · next stays =>
    refine modBank_congr ?_
    rw [if_neg fun ⟨old, new, run, stopped, due⟩ => stays ⟨old, new, run, stopped, (Bool.not_eq_true' _).mpr due⟩]
    rfl

section BankWrite

variable {r : Sender} {b : BankId} {n : Byte} {v : Half} {s : State}

/-- A write of a bank record by its handling: the event it makes ends, and the answer is sent. -/
theorem exec_writeBankRecord {u : State} {a : Answer} (hs : s.ready)
    (handled : writeBankRecord r.station (BitVec.ofNat 8 b.1) n v s = (u, a)) (address : u.address = s.address) :
    exec (.writeBankRecord r (BitVec.ofNat 8 b.1) n v) s = .next ((endEvent u).withReply r 0x03 a.bytes) :=
  congrArg Host.Outcome.next (requestRow_event r (.writeBankRecord (BitVec.ofNat 8 b.1) n v) _ hs handled address)

/-- A write of a bank's setting that its locks allow stores the clamped value (09, R151, R153). -/
theorem exec_writeBankSetting {x : BankSetting} (hs : s.ready) (locks : s.holdsLocks r.station (s.bank b).owner.toList)
    (hx : bankFieldOfCode n.toNat = some (.setting x)) (hv : x ≠ .sagStage ∨ v.toNat ≤ 1) :
    exec (.writeBankRecord r (BitVec.ofNat 8 b.1) n v) s =
      .next ((endEvent (storeBankSetting b x (clampNat v.toNat x.range.lo x.range.hi)
        (s.flagsCleared (s.bank b).owner.toList))).withReply r 0x03 [clampMark v.toNat x.range.lo x.range.hi]) := by
  have passed : ∀ o ∈ [test (x ≠ .sagStage || v.toNat ≤ 1) .badReference,
      s.lockTest r.station (s.bank b).owner.toList], o = none := by
    simp [lockTest_holds locks, test, hv]
  have handled : writeBankRecord r.station (BitVec.ofNat 8 b.1) n v s =
      (storeBankSetting b x (clampNat v.toNat x.range.lo x.range.hi) (s.flagsCleared (s.bank b).owner.toList),
        .done (x.range.outside v.toNat) []) := by
    rw [writeBankRecord, byteOf_bank, indexOf_val, hx]
    exact takeWrite_passed passed _ _ _ s
  have moved : (s.flagsCleared (s.bank b).owner.toList).eventOnly
      (storeBankSetting b x (clampNat v.toNat x.range.lo x.range.hi) (s.flagsCleared (s.bank b).owner.toList)) :=
    (storeBankSetting_stagingOnly b x _ _).event
  refine (exec_writeBankRecord hs handled (congrArg Outer.address moved.outer)).trans ?_
  rw [done_bytes]

end BankWrite

end Sys2Proof.Machine

namespace Sys2Proof.Machine
open Sys2Proof

set_option Elab.async false

/-! ### What a staging review makes of one bank (05, R88 to R93)

A review is made of stage-ups, stage-downs, counts and reports of STAGE_EXHAUSTED. What these keep a review keeps, and
what each does to a given bank is said once. -/

/-- What the stage actions of a channel keep. `Q` names the banks whose stage-down keeps it, and holds of every listed
bank while no list bank is STRIKING or WARMING. -/
structure StagingKeeps (P : State → Prop) (Q : BankId → Prop) (ch : ChanId) : Prop where
  counts    : ∀ {s : State} {f : Channel → Channel}, (∀ x, (f x).startList = x.startList) → P s → P (s.modChan ch f)
  exhausted : ∀ {s : State} (holds : Bool), P s → P (report .stageExhausted ch.1 holds s)
  up        : ∀ {s : State}, P s → P (stageUp ch s)
  down      : ∀ {s : State} {c : BankId}, Q c → P s → P (enterQuenching c s)
  last      : ∀ {s : State} {c : BankId}, P s → s.lighting ch = false → c ∈ (s.chan ch).startList → Q c

namespace StagingKeeps

variable {P : State → Prop} {Q : BankId → Prop} {ch : ChanId} {s : State}

theorem zeroCounters (k : StagingKeeps P Q ch) (h : P s) : P (zeroCounters ch s) := k.counts (fun _ => rfl) h

theorem stageDown (k : StagingKeeps P Q ch) (hq : ∀ c ∈ (s.chan ch).startList, Q c) (h : P s) : P (stageDown ch s) := by
  unfold Machine.stageDown
  split
  · exact h
  · next c last => exact k.down (hq c (List.mem_of_getLast? last)) h

theorem servePending (k : StagingKeeps P Q ch) (n : Nat) (h : P s) : P (servePending ch n s) := by
  induction n generalizing s with
  | zero => exact h
  | succ n ih =>
    unfold Machine.servePending
    split
    · exact ih (k.zeroCounters (k.counts (fun _ => rfl) (k.up h)))
    · exact h

theorem stageUpIf (k : StagingKeeps P Q ch) (called : Bool) (h : P s) : P (stageUpIf ch called s) := by
  unfold Machine.stageUpIf
  split
  · exact k.zeroCounters (k.up h)
  · exact h

theorem autoSteps (k : StagingKeeps P Q ch) (h : P s) : P (autoSteps ch s) := by
  have staged := k.servePending 12 h
  unfold Machine.autoSteps
  extract_lets served floor full
  have up : P full := k.stageUpIf _ (k.stageUpIf _ staged)
  split
  · next surplus =>
    refine k.zeroCounters (k.stageDown (fun c hc => k.last up ?_ ?_) (k.counts (fun _ => rfl) up))
    · unfold State.surplus at surplus
      simp only [Bool.and_eq_true, Bool.not_eq_true'] at surplus
      exact surplus.1.2
    · rwa [State.modChan_chan_self] at hc
  · exact up

theorem manualSteps (k : StagingKeeps P Q ch) (hq : ∀ c ∈ (s.chan ch).startList, Q c) (h : P s) :
    P (manualSteps ch s) := by
  unfold Machine.manualSteps
  dsimp only
  split
  · split
    · exact k.up h
    · exact h
  · split
    · exact k.stageDown hq h
    · exact h

/-- A review keeps what the stage actions keep (05, R88). -/
theorem review (k : StagingKeeps P Q ch) (hq : ∀ c ∈ (s.chan ch).startList, Q c) (h : P s) : P (review ch s) := by
  unfold Machine.review
  split
  · exact h
  · split
    · exact k.exhausted _ (k.autoSteps h)
    · exact k.exhausted _ (k.manualSteps hq h)
    · refine k.exhausted _ ?_
      split
      · exact k.up h
      · exact h
    · exact k.exhausted _ (forEach_keeps (P := P) (fun c hc _ g => k.down (hq c hc) g) h)
    · exact h
    · exact h

end StagingKeeps

/-! What the stage actions do to one bank and to its conditions. -/

/-- Instances of two banks have different places, whatever their kinds. -/
theorem alarmSlot_bank {k m : AlarmKind} {b c : BankId} (h : b ≠ c) (hk : k.scope = 12) :
    alarmSlot k b.1 ≠ alarmSlot m c.1 := by
  by_cases e : k = m
  · subst e
    exact alarmSlot_inst (by rw [hk]; exact b.isLt) (by rw [hk]; exact c.isLt) fun same => h (Fin.ext same)
  · exact alarmSlot_kind e

theorem setBankState_bank {b c : BankId} (h : b ≠ c) (st : BankState) (s : State) :
    (setBankState c st s).bank b = s.bank b := by
  rw [(setBankState_alarmUnitOnly c st s).bank, State.modBank_bank, if_neg h]

/-- A bank's change of state reports conditions of that bank alone. -/
theorem setBankState_alarm_other {b c : BankId} (h : b ≠ c) {k : AlarmKind} (hk : k.scope = 12) (st : BankState)
    (s : State) : (setBankState c st s).alarm k b.1 = s.alarm k b.1 := by
  have other : ∀ m : AlarmKind, alarmSlot k b.1 ≠ alarmSlot m c.1 := fun _ => alarmSlot_bank h hk
  unfold setBankState judgeBank judgeIntensityStale judgeBankFault
  dsimp only
  split
  · rfl
  · rw [report_alarm_ne (other _), report_alarm_ne (other _)]
    split
    · rw [report_alarm_ne (other _), judgeSag, report_alarm_ne (other _)]
      rfl
    · rfl

theorem enterQuenching_eq (b : BankId) (s : State) : enterQuenching b s = startProgram b .quench
    (unlist b ((setBankState b .quenching s).modBank b fun x => { x.abandon with warmTimer := none })) := rfl

theorem unlist_bank (b c : BankId) (s : State) : (unlist c s).bank b = s.bank b := by
  unfold unlist
  split <;> rfl

theorem unlist_alarm (c : BankId) (s : State) (k : AlarmKind) (i : Nat) : (unlist c s).alarm k i = s.alarm k i := by
  unfold unlist
  split <;> rfl

/-- A bank stays on its lists when another leaves. -/
theorem mem_unlist {b c : BankId} (h : b ≠ c) (s : State) (ch : ChanId) :
    b ∈ ((unlist c s).chan ch).startList ↔ b ∈ (s.chan ch).startList := by
  unfold unlist
  split
  · rw [State.modChan_chan]
    split
    · next e =>
      subst e
      simp [h]
    · rfl
  · rfl

theorem enterQuenching_bank_other {b c : BankId} (h : b ≠ c) (s : State) : (enterQuenching c s).bank b = s.bank b := by
  rw [enterQuenching_eq, startProgram, State.modBank_bank, if_neg h, unlist_bank, State.modBank_bank, if_neg h,
    setBankState_bank h]

theorem enterQuenching_bank_self (b : BankId) (s : State) :
    ((enterQuenching b s).bank b).state = .quenching ∧ ((enterQuenching b s).bank b).warmTimer = none := by
  rw [enterQuenching_eq, startProgram, State.modBank_bank_self, unlist_bank, State.modBank_bank_self,
    (setBankState_alarmUnitOnly b .quenching s).bank, State.modBank_bank_self]
  refine ⟨?_, rfl⟩
  unfold Bank.entered
  split
  · assumption
  · rfl

theorem enterQuenching_alarm_other {b c : BankId} (h : b ≠ c) {k : AlarmKind} (hk : k.scope = 12) (s : State) :
    (enterQuenching c s).alarm k b.1 = s.alarm k b.1 := by
  rw [enterQuenching_eq, startProgram, State.modBank_alarm, unlist_alarm, State.modBank_alarm,
    setBankState_alarm_other h hk]

theorem mem_enterQuenching {b c : BankId} (h : b ≠ c) (s : State) (ch : ChanId) :
    b ∈ ((enterQuenching c s).chan ch).startList ↔ b ∈ (s.chan ch).startList := by
  rw [enterQuenching_eq, startProgram, State.modBank_chan, mem_unlist h, State.modBank_chan,
    (setBankState_alarmUnitOnly c .quenching s).chan, State.modBank_chan]

/-- A stage-up takes no bank, or one DARK bank of the channel (05, R91). -/
theorem stageUp_cases (ch : ChanId) (s : State) : stageUp ch s = s ∨
    ∃ c, (s.bank c).state = .dark ∧ (s.stagedUp ch c).alarmUnitOnly (stageUp ch s) ∧
      ∀ k i, k ≠ .stageExhausted → (stageUp ch s).alarm k i = (setBankState c .striking s).alarm k i := by
  cases selected : s.selectBank ch with
  | none =>
    refine .inl ?_
    rw [stageUp, selected]
  | some c =>
    refine .inr ⟨c, (State.selectBank_some selected).1.2, stageUp_alarmUnitOnly selected, fun k i hk => ?_⟩
    rw [stageUp, selected]
    exact report_alarm_ne (alarmSlot_kind hk) _ _

theorem State.stagedUp_bank_other {b c : BankId} (h : b ≠ c) (s : State) (ch : ChanId) :
    (s.stagedUp ch c).bank b = s.bank b := by
  rw [State.stagedUp_eq, State.modChan_bank, State.modBank_bank, if_neg h]

theorem State.stagedUp_chan (s : State) (ch : ChanId) (c : BankId) :
    ((s.stagedUp ch c).chan ch).startList = (s.chan ch).startList ++ [c] := by
  rw [State.stagedUp_eq, State.modChan_chan_self]
  rfl

/-! ### A FAULTED bank that is re-checked (05, R96) -/

theorem judgeBank_bankFault (b : BankId) (s : State) :
    ((judgeBank b s).alarm .bankFault b.1).cause = (s.bankWatched b && (s.bank b).state = .faulted) := by
  rw [judgeBank, judgeIntensityStale, report_alarm_ne (alarmSlot_kind (by decide)), judgeBankFault, report_cause]

/-- A bank that takes a new state is judged in it. -/
theorem setBankState_judged {b : BankId} {st : BankState} {s : State} (h : (s.bank b).state ≠ st) :
    ∃ u : State, (u.bank b).state = st ∧ setBankState b st s = judgeBank b u := by
  refine ⟨_, ?_, if_neg h⟩
  split
  · rw [report_bank, judgeSag, report_bank, State.modBank_bank_self]
  · rw [State.modBank_bank_self]

/-- BANK_FAULT ceases with a new state other than FAULTED (05, R96). -/
theorem setBankState_bankFault {b : BankId} {st : BankState} {s : State} (h : (s.bank b).state ≠ st)
    (hst : st ≠ .faulted) : ((setBankState b st s).alarm .bankFault b.1).cause = false := by
  obtain ⟨u, hu, eq⟩ := setBankState_judged h
  rw [eq, judgeBank_bankFault, hu, decide_eq_false hst, Bool.and_false]

/-- A bank back in service: DARK and on no list of the channel, or staged up and on it, without BANK_FAULT. -/
structure State.Rested (s : State) (ch : ChanId) (b : BankId) : Prop where
  place : ((s.bank b).state = .dark ∧ b ∉ (s.chan ch).startList) ∨
    ((s.bank b).state = .striking ∧ b ∈ (s.chan ch).startList)
  fault : (s.alarm .bankFault b.1).cause = false

namespace State.Rested

variable {s t : State} {ch : ChanId} {b : BankId}

theorem of_eq (h : s.Rested ch b) (hb : (t.bank b).state = (s.bank b).state)
    (hl : b ∈ (t.chan ch).startList ↔ b ∈ (s.chan ch).startList)
    (ha : t.alarm .bankFault b.1 = s.alarm .bankFault b.1) : t.Rested ch b := by
  refine ⟨?_, ha ▸ h.fault⟩
  rw [hb, hl]
  exact h.place

theorem stageUp (h : s.Rested ch b) : (stageUp ch s).Rested ch b := by
  rcases stageUp_cases ch s with same | ⟨c, dark, staged, alarm⟩
  · rwa [same]
  · have alarm := alarm .bankFault b.1 (by decide)
    have list := congrArg Channel.startList (staged.chan ch)
    rw [State.stagedUp_chan] at list
    by_cases e : b = c
    · subst e
      refine ⟨.inr ⟨?_, ?_⟩, ?_⟩
      · rw [staged.bank, State.stagedUp_bank]
        rfl
      · rw [list]
        exact List.mem_append_right _ (List.mem_singleton_self b)
      · rw [alarm]
        exact setBankState_bankFault (by rw [dark]; decide) (by decide)
    · refine h.of_eq ?_ ?_ ?_
      · rw [staged.bank, State.stagedUp_bank_other e]
      · rw [list]
        simp [e]
      · rw [alarm, setBankState_alarm_other e rfl]

/-- A review leaves a rested bank DARK or stages it up (05, R88, R91). -/
theorem keeps (ch : ChanId) (b : BankId) : StagingKeeps (fun s => s.Rested ch b) (fun c => b ≠ c) ch where
  counts {s f} hf h := h.of_eq rfl (by rw [State.modChan_chan_self, hf]) rfl
  exhausted {s} holds h := h.of_eq (by rw [report_bank]) (by rw [report_chan])
    (report_alarm_ne (alarmSlot_kind (by decide)) _ _)
  up h := h.stageUp
  down {s c} hc h := h.of_eq (by rw [enterQuenching_bank_other hc]) (mem_enterQuenching hc s ch)
    (enterQuenching_alarm_other hc rfl s)
  last {s c} h dim hc := by
    rintro rfl
    rcases h.place with ⟨_, off⟩ | ⟨striking, _⟩
    · exact off hc
    · have lit : s.lighting ch = true := (s.lighting_iff ch).mpr ⟨b, hc, .inl striking⟩
      rw [dim] at lit
      cases lit

end State.Rested

/-- A FAULTED bank that enters DARK is rested after the review that follows (05, R88, R96). -/
theorem darkBank_rested {b : BankId} {s : State} (faulted : (s.bank b).state = .faulted)
    (off : ∀ c, b ∉ (s.chan c).startList) : ∃ ch, (darkBank b s).Rested ch b := by
  have dark : ((enterDark b s).bank b).state = .dark := by
    rw [enterDark, State.modBank_bank_self, (setBankState_alarmUnitOnly b .dark s).bank, State.modBank_bank_self,
      Bank.entered, if_neg (by rw [faulted]; decide)]
  have lists : ∀ c, b ∉ ((enterDark b s).chan c).startList := fun c => by
    rw [enterDark, State.modBank_chan, (setBankState_alarmUnitOnly b .dark s).chan, State.modBank_chan]
    exact off c
  have fault : ((enterDark b s).alarm .bankFault b.1).cause = false :=
    setBankState_bankFault (by rw [faulted]; decide) (by decide)
  have entered : ∀ c, (enterDark b s).Rested c b := fun c => ⟨.inl ⟨dark, lists c⟩, fault⟩
  unfold darkBank reviewOwner
  split
  · next ch _ =>
    exact ⟨ch, (State.Rested.keeps ch b).review (fun c hc e => lists ch (e ▸ hc)) (entered ch)⟩
  · exact ⟨0, entered 0⟩

end Sys2Proof.Machine

namespace Sys2Proof.Machine
open Sys2Proof

set_option Elab.async false

/-! ### A write of a bank record (05, R94; 03, R57; 06, R107, R111, R113; 09, R153) -/

section BankRecord

variable {r : Sender} {b : BankId} {n : Byte} {v : Half} {s : State}

theorem State.ready.flagsCleared_atRest (hs : s.ready) (chs : List ChanId) : (s.flagsCleared chs).atRest :=
  hs.2.2.2.of_eq rfl rfl

/-- A stored setting that makes no event. -/
theorem exec_writeBankSetting_stored {x : BankSetting} {g : Bank → Bank} (hs : s.ready)
    (locks : s.holdsLocks r.station (s.bank b).owner.toList) (hx : bankFieldOfCode n.toNat = some (.setting x))
    (hv : x ≠ .sagStage ∨ v.toNat ≤ 1)
    (acts : storeBankSetting b x (clampNat v.toNat x.range.lo x.range.hi) (s.flagsCleared (s.bank b).owner.toList) =
      (s.flagsCleared (s.bank b).owner.toList).modBank b g) :
    exec (.writeBankRecord r (BitVec.ofNat 8 b.1) n v) s =
      .next (((s.flagsCleared (s.bank b).owner.toList).modBank b g).withReply r 0x03
        [clampMark v.toNat x.range.lo x.range.hi]) := by
  have rest : ((s.flagsCleared (s.bank b).owner.toList).modBank b g).atRest :=
    State.atRest.of_eq (State.ready.flagsCleared_atRest hs (s.bank b).owner.toList) rfl rfl
  rw [exec_writeBankSetting hs locks hx hv, acts, endEvent_atRest rest]

theorem State.flagsCleared_bankGoverned (s : State) (chs : List ChanId) (b : BankId) :
    (s.flagsCleared chs).bankGoverned b = s.bankGoverned b := by
  have dormant : ∀ c, ((s.flagsCleared chs).chan c).dormant = (s.chan c).dormant :=
    s.flagsCleared_keeps Channel.dormant chs
  unfold State.bankGoverned
  simp only [dormant]
  rfl

/-- Expected and LowPct judge OUTPUT_LOW at their write (03, R55, R57). -/
theorem storeBankSetting_low {x : BankSetting} (hx : x = .expected ∨ x = .lowPct) (b : BankId) (w : Nat) (s : State) :
    storeBankSetting b x w s = judgeOutputLow b (s.modBank b (Bank.stored x w)) := by
  rcases hx with rfl | rfl <;> rfl

/-- Neither setting is that of the wipe-interval timer. -/
theorem Bank.stored_wiping {x : BankSetting} (hx : x = .expected ∨ x = .lowPct) (w now : Nat) (y : Bank) :
    (y.stored x w).wiping now = { y with
      settings := put y.settings x.idx w
      running := some .wipe
      stepIdx := 0
      stepTimer := some (now + 10 * 2 ^ (y.wipe.get 0).k)
      wipeInterval := if y.get .wipeInterval = 0 then y.wipeInterval
        else some (now + 60000 * y.get .wipeInterval) } := by
  have interval : (y.stored x w).get .wipeInterval = y.get .wipeInterval :=
    put_get_ne _ _ (by rcases hx with rfl | rfl <;> decide)
  rw [Bank.wiping, interval]
  rfl

/-- A stored Expected or LowPct: one update of the bank, and the rest of the event is the alarm unit's. -/
theorem lowSetting_written {x : BankSetting} {w : Nat} {u t : State} (hs : s.ready)
    (hu : u = s.flagsCleared (s.bank b).owner.toList) (hx : x = .expected ∨ x = .lowPct)
    (ht : t = endEvent (storeBankSetting b x w u)) :
    (t.bank b).settings = put (s.bank b).settings x.idx w ∧
      ∀ low : Bool, (low = true ↔ (s.bank b).state = .run ∧
          ∃ q, (s.bank b).tracker.sref = some q ∧ q * 256 < (t.bank b).get .expected * (t.bank b).get .lowPct) →
        (t.alarm .outputLow b.1).cause = low ∧
        (u.modBank b fun y =>
          if low = true ∧ (s.alarm .outputLow b.1).cause = false ∧ y.running = none ∧
              (∃ ch, y.owner = some ch ∧ (s.chan ch).dormant = false) then
            { y with
              settings := put y.settings x.idx w
              running := some .wipe
              stepIdx := 0
              stepTimer := some (s.now + 10 * 2 ^ (y.wipe.get 0).k)
              wipeInterval := if y.get .wipeInterval = 0 then y.wipeInterval
                else some (s.now + 60000 * y.get .wipeInterval) }
          else { y with settings := put y.settings x.idx w }).onlyAlarms t := by
  have rest : u.atRest := hu ▸ State.ready.flagsCleared_atRest hs _
  obtain ⟨m, hm⟩ : ∃ m, m = u.modBank b (Bank.stored x w) := ⟨_, rfl⟩
  have bank : m.bank b = (s.bank b).stored x w := by
    rw [hm, State.modBank_bank_self, hu]
    rfl
  have judged : t = endEvent (judgeOutputLow b m) := by rw [ht, storeBankSetting_low hx, ← hm]
  have calm : m.atRest := hm ▸ rest.of_eq rfl rfl
  have only := ((State.alarmUnitOnly.refl m).judgeOutputLow (b := b)).onlyAlarms (calm.of_eq rfl rfl)
    (judgeOutputLow_notesSound (.atRest calm) b)
  rw [← judged] at only
  have settings : (t.bank b).settings = put (s.bank b).settings x.idx w := by
    rw [only.bank, State.judgedLow, State.modBank_bank_self, bank]
    unfold Bank.judgedLow
    split <;> rfl
  refine ⟨settings, fun low hlow => ?_⟩
  have get : ∀ z, (t.bank b).get z = ((s.bank b).stored x w).get z := fun z => congrArg (fun v => v.get z.idx) settings
  rw [get, get] at hlow
  have outputLow : (m.bank b).outputLow = low := by
    rw [Bool.eq_iff_iff, hlow, Bank.outputLow_iff, bank]
    rfl
  constructor
  · rw [judged, endEvent_alarm, judgeOutputLow_cause, outputLow]
  · have governed : m.bankGoverned b = true ↔ ∃ ch, (s.bank b).owner = some ch ∧ (s.chan ch).dormant = false := by
      have same : m.bankGoverned b = u.bankGoverned b := by
        unfold State.bankGoverned
        rw [bank, hm, hu]
        rfl
      rw [same, hu, State.flagsCleared_bankGoverned, State.bankGoverned_iff]
    have holds : m.holds .outputLow b.1 = (s.alarm .outputLow b.1).cause := by rw [hm, hu]; rfl
    have now : m.now = s.now := by rw [hm, hu]; rfl
    have same : u.bank b = s.bank b := by rw [hu]; rfl
    refine (congrArg (fun v : State => v.onlyAlarms t) ?_).mpr only
    rw [State.judgedLow, outputLow, holds, now]
    generalize m.bankGoverned b = g at governed
    rw [hm, State.modBank_modBank]
    refine modBank_congr ?_
    unfold Bank.judgedLow
    rw [same, Bank.stored_wiping hx]
    simp only [← governed, Bool.and_eq_true, Bool.not_eq_true', and_assoc]
    rfl

/-- MinLampsLit as written re-checks a FAULTED bank (05, R94, R96). -/
theorem minLampsLit_rechecked {w : Nat} {u t : State} (hs : s.ready)
    (hu : u = s.flagsCleared (s.bank b).owner.toList) (lists : s.listsSound) (faulted : (s.bank b).state = .faulted)
    (rested : (s.bank b).faultTimer = none) (enough : w ≤ s.nonDead b)
    (ht : t = endEvent (storeBankSetting b .minLampsLit w u)) :
    t.outer = s.outer ∧ t.lamps = s.lamps ∧ t.points = s.points ∧ t.south = s.south ∧
      (t.bank b).settings = put (s.bank b).settings BankSetting.minLampsLit.idx w ∧
      ((t.bank b).state = .dark ∨ (t.bank b).state = .striking) ∧ (t.alarm .bankFault b.1).cause = false := by
  have rest : u.atRest := hu ▸ State.ready.flagsCleared_atRest hs _
  obtain ⟨m, hm⟩ : ∃ m, m = u.modBank b (Bank.stored .minLampsLit w) := ⟨_, rfl⟩
  have bank : m.bank b = (s.bank b).stored .minLampsLit w := by
    rw [hm, State.modBank_bank_self, hu]
    rfl
  have checked : storeBankSetting b .minLampsLit w u = darkBank b m := by
    have value : ((s.bank b).stored .minLampsLit w).get .minLampsLit = w := put_get_self _ _ _
    have lamps : m.nonDead b = s.nonDead b := by rw [hm, hu]; rfl
    rw [storeBankSetting_eq, ← hm]
    refine if_pos ?_
    rw [bank, value, lamps]
    exact ⟨faulted, rested, enough⟩
  have sound : (darkBank b m).notesSound := (State.notesSound.atRest (hm ▸ rest.of_eq rfl rfl)).moves (.darkBank .refl b)
  have ends := endEvent_ends sound
  rw [checked] at ht
  rw [← ht] at ends
  have staging := darkBank_stagingOnly b m
  have quiet : (darkBank b m).slotsMade = [] := by
    obtain ⟨_, _, _, _, _, e⟩ := staging
    rw [e, hm]
    exact rest.2
  have off : ∀ c, b ∉ (m.chan c).startList := by
    intro c hc
    have list : (m.chan c).startList = (s.chan c).startList := by
      rw [hm, hu]
      exact State.flagsCleared_keeps Channel.startList s _ c
    have state := (((lists c).2 b).mp (list ▸ hc)).2
    rw [faulted] at state
    simp at state
  obtain ⟨ch, back⟩ := darkBank_rested (by rw [bank]; exact faulted) off
  have state : (t.bank b).state = ((darkBank b m).bank b).state := ends.bankKeeps Bank.state b
  refine ⟨?_, ?_, ?_, ?_, ?_, ?_, ?_⟩
  · rw [ends.outer, staging.event.outer, hm, hu]
    rfl
  · obtain ⟨_, _, _, _, _, e⟩ := staging
    rw [(ends.still quiet).1, e, hm, hu]
    rfl
  · rw [ends.points, staging.points, hm, hu]
    rfl
  · obtain ⟨_, _, _, _, _, e⟩ := staging
    rw [(ends.still quiet).2, e, hm, hu]
    rfl
  · have record := congrArg Bank.Record.settings ((State.moves.darkBank .refl b : m.moves (darkBank b m)).record b)
    rw [ends.bankKeeps Bank.settings b]
    refine record.trans ?_
    rw [bank]
    rfl
  · rw [state]
    exact back.place.imp And.left And.left
  · rw [ends.alarm]
    exact back.fault

/-- A write of MinLampsLit that finds nothing to re-check (05, R96). -/
theorem minLampsLit_stored {w : Nat} {u : State} (hu : u = s.flagsCleared (s.bank b).owner.toList)
    (idle : (s.bank b).state ≠ .faulted ∨ (s.bank b).faultTimer ≠ none ∨ s.nonDead b < w) :
    storeBankSetting b .minLampsLit w u = u.modBank b (Bank.stored .minLampsLit w) := by
  have bank : (u.modBank b (Bank.stored .minLampsLit w)).bank b = (s.bank b).stored .minLampsLit w := by
    rw [State.modBank_bank_self, hu]
    rfl
  have value : ((s.bank b).stored .minLampsLit w).get .minLampsLit = w := put_get_self _ _ _
  have lamps : (u.modBank b (Bank.stored .minLampsLit w)).nonDead b = s.nonDead b := by rw [hu]; rfl
  rw [storeBankSetting_eq]
  refine if_neg ?_
  rw [bank, value, lamps]
  rintro ⟨faulted, rested, enough⟩
  rcases idle with h | h | h
  · exact h faulted
  · exact h rested
  · exact absurd enough (Nat.not_le.mpr h)

theorem clampNat_inside {x lo hi : Nat} (hlo : lo ≤ x) (hhi : x ≤ hi) : clampNat x lo hi = x := by
  rw [clampNat, if_neg (Nat.not_lt.mpr hlo), if_neg (Nat.not_lt.mpr hhi)]

/-! A bank's wiper station. -/

/-- The station a half word names: 0 for none, else 1 to 126 (09, R153). -/
theorem wiperStation_named (h : v.toNat ≤ 126) :
    (if v.toNat < 256 then stationRef (BitVec.ofNat 8 v.toNat) else none) =
      some (if v = 0 then none else some v.toNat) := by
  have byte : (BitVec.ofNat 8 v.toNat).toNat = v.toNat := by
    rw [BitVec.toNat_ofNat]
    omega
  have zero : v = 0 ↔ v.toNat = 0 := by
    rw [← BitVec.toNat_inj]
    rfl
  rw [if_pos (by omega), stationRef, byte]
  by_cases e : v.toNat = 0
  · rw [if_pos e, if_pos (zero.mpr e)]
  · rw [if_neg e, if_pos h, if_neg fun g => e (zero.mp g)]

theorem wiperStation_unnamed (h : 127 ≤ v.toNat) :
    (if v.toNat < 256 then stationRef (BitVec.ofNat 8 v.toNat) else none) = none := by
  split
  · have byte : (BitVec.ofNat 8 v.toNat).toNat = v.toNat := by
      rw [BitVec.toNat_ofNat]
      omega
    rw [stationRef, byte, if_neg (by omega), if_neg (by omega)]
  · rfl

theorem writeBankRecord_wiper (station : Nat) : writeBankRecord station (BitVec.ofNat 8 b.1) 20 v s =
    match (if v.toNat < 256 then stationRef (BitVec.ofNat 8 v.toNat) else none) with
    | some st => takeWrite [s.lockTest station (s.bank b).owner.toList] (s.bank b).owner.toList false
        (setWiperStation b st) s
    | none => refuse .badReference s := by
  rw [writeBankRecord, byteOf_bank, indexOf_val]
  rfl

theorem setWiperStation_banks (b : BankId) (st : Option Nat) (s : State) :
    ∃ banks, setWiperStation b st s = { s with banks := banks } := by
  unfold setWiperStation
  split
  · exact ⟨s.banks, rfl⟩
  · exact ⟨_, rfl⟩

/-- A write of a bank's wiper station that its locks allow (06, R111, R113). -/
theorem exec_writeWiperStation (hs : s.ready) (locks : s.holdsLocks r.station (s.bank b).owner.toList)
    (hv : v.toNat ≤ 126) : exec (.writeBankRecord r (BitVec.ofNat 8 b.1) 20 v) s =
      .next ((setWiperStation b (if v = 0 then none else some v.toNat)
        (s.flagsCleared (s.bank b).owner.toList)).withReply r 0x03 [0]) := by
  have handled : writeBankRecord r.station (BitVec.ofNat 8 b.1) 20 v s =
      (setWiperStation b (if v = 0 then none else some v.toNat) (s.flagsCleared (s.bank b).owner.toList),
        .done false []) := by
    rw [writeBankRecord_wiper, wiperStation_named hv]
    exact takeWrite_passed (by simp [lockTest_holds locks]) _ _ _ s
  obtain ⟨banks, e⟩ := setWiperStation_banks b (if v = 0 then none else some v.toNat)
    (s.flagsCleared (s.bank b).owner.toList)
  have rest : (setWiperStation b (if v = 0 then none else some v.toNat)
      (s.flagsCleared (s.bank b).owner.toList)).atRest := by
    rw [e]
    exact hs.2.2.2
  rw [exec_writeBankRecord hs handled (by rw [e]; rfl), endEvent_atRest rest]
  rfl

end BankRecord

/-- Settles O38: the locks allow the write, so the clamped value is stored, and what a setting does at once is said by its
own lemma above. -/
theorem bankRecordIsWritten : Obligations.BankRecordIsWritten := by
  intro r b n v x lo hi w s u hs locks hu hw
  refine ⟨fun hx => ⟨fun hc => ?_, fun hn hlo hhi lists faulted rested enough => ?_, fun hn hlo hhi idle => ?_, fun hc => ?_,
    fun hn hlo hhi => ?_⟩, fun hv => ?_, fun hv same => ?_, fun hv other => ?_, fun hv => ?_⟩
  · obtain ⟨⟨rfl, rfl⟩, notStage, quiet⟩ := bankSetting_quiet hx hc
    rw [hu, hw]
    exact exec_writeBankSetting_stored hs locks hx (.inl notStage) (quiet _ _ _ _)
  · subst hn hlo hhi
    cases hx
    rw [hw] at enough ⊢
    exact ⟨_, exec_writeBankSetting (x := .minLampsLit) hs locks rfl (.inl (by decide)),
      minLampsLit_rechecked hs rfl lists faulted rested enough rfl⟩
  · subst hn hlo hhi
    cases hx
    rw [hw] at idle ⊢
    rw [hu]
    exact exec_writeBankSetting_stored (x := .minLampsLit) hs locks rfl (.inl (by decide)) (minLampsLit_stored rfl idle)
  · have low : (x = .expected ∨ x = .lowPct) ∧ x.range.lo = lo ∧ x.range.hi = hi := by
      simp only [List.mem_cons, Prod.mk.injEq, List.not_mem_nil, or_false] at hc
      rcases hc with ⟨e, rfl, rfl⟩ | ⟨e, rfl, rfl⟩ <;>
      · rw [e] at hx
        cases hx
        decide
    obtain ⟨hlow, rfl, rfl⟩ := low
    refine ⟨_, exec_writeBankSetting hs locks hx (.inl ?_), lowSetting_written hs hu hlow (by rw [hw, hu])⟩
    rcases hlow with rfl | rfl <;> decide
  · subst hn hlo hhi
    cases hx
    rw [hw, hu]
    exact exec_writeBankSetting_stored (x := .wipeInterval) hs locks rfl (.inl (by decide)) (wipeIntervalStored_eq b _ _)
  · have clamped : clampNat v.toNat BankSetting.sagStage.range.lo BankSetting.sagStage.range.hi = v.toNat :=
      clampNat_inside (Nat.zero_le _) hv
    have mark : clampMark v.toNat BankSetting.sagStage.range.lo BankSetting.sagStage.range.hi = 0 :=
      if_neg fun h => h.elim (Nat.not_lt.mpr (Nat.zero_le _)) (Nat.not_lt.mpr hv)
    have stored := exec_writeBankSetting_stored (x := .sagStage) (n := 11) (g := Bank.stored .sagStage v.toNat) hs locks rfl
      (.inr hv) (by rw [clamped]; rfl)
    rw [mark] at stored
    rw [hu]
    exact stored
  · rw [exec_writeWiperStation hs locks hv, hu]
    exact congrArg (fun t : State => Host.Outcome.next (t.withReply r 0x03 [0])) (if_pos same)
  · rw [exec_writeWiperStation hs locks hv, hu]
    exact congrArg (fun t : State => Host.Outcome.next (t.withReply r 0x03 [0])) (if_neg other)
  · have handled : writeBankRecord r.station (BitVec.ofNat 8 b.1) 20 v s = (s, .refused .badReference []) := by
      rw [writeBankRecord_wiper, wiperStation_unnamed hv]
      rfl
    rw [exec_writeBankRecord hs handled rfl, endEvent_atRest hs.2.2.2]
    rfl

end Sys2Proof.Machine

namespace Sys2Proof.Machine
open Sys2Proof

set_option Elab.async false

/-! ### An event of the staging, and the frame that goes on (05, R88 to R92; 08, R143) -/

theorem State.requestsServed.goesOn {s u t : State} {ch : ChanId} {f : Frame} (h : s.requestsServed u ch)
    (g : u.HasPassedOn t f) : s.requestsServed t ch (tapped := some f) := by
  obtain ⟨staged, len, own, pair, least, only, exhausted⟩ := h
  refine ⟨staged, len, own, pair, least, only.goesOn g, ?_⟩
  rw [g.alarm _ _ (by decide)]
  exact exhausted

theorem State.surplusServed.goesOn {s u t : State} {ch : ChanId} {f : Frame} (h : s.surplusServed u ch)
    (g : u.HasPassedOn t f) : s.surplusServed t ch (tapped := some f) := by
  intro b last
  obtain ⟨only, left⟩ := h b last
  have staged : s.stagedDown t ch b = s.stagedDown u ch b := by
    unfold State.stagedDown
    rw [g.bank]
  rw [staged, g.bank]
  exact ⟨only.goesOn g, left⟩

/-- A stage-up request stands as it did once the frame has gone on (05, R90). -/
theorem State.requested.goesOn {s u t : State} {ch : ChanId} {f : Frame} (h : s.requested u ch)
    (g : u.HasPassedOn t f) : s.requested t ch (tapped := some f) := by
  intro c v hc hv
  obtain ⟨discarded, counted, auto⟩ := h c v hc hv
  refine ⟨fun a => (discarded a).goesOn g, fun a => (counted a).goesOn g, fun mode window => ?_⟩
  obtain ⟨served, noDark⟩ := auto mode window
  refine ⟨fun dark => (served dark).goesOn g, fun none lists => ?_⟩
  obtain ⟨idle, surplus⟩ := noDark none lists
  refine ⟨fun a => ⟨(idle a).1.goesOn g, ?_⟩, fun passes dim above => (surplus passes dim above).goesOn g⟩
  rw [g.alarm _ _ (by decide)]
  exact (idle a).2

/-- An event that reached channels, banks and the alarm unit alone, as it stands once the frame has gone on. -/
structure State.StagedOn (s v t : State) (f : Frame) : Prop where
  lamps : t.lamps = s.lamps
  south : t.south = s.south
  north : ∃ made, s.areAlerts made ∧ t.north.queue = s.north.queue ++ made ++ s.goingOn f made.length
  bank  : ∀ b, t.bank b = v.bank b

theorem State.stagingOnly.goesOn {s v t : State} {f : Frame} (h : s.stagingOnly v) (hs : s.atRest) (hv : v.notesSound)
    (g : (endEvent v).HasPassedOn t f) : s.StagedOn v t f := by
  obtain ⟨w, hw⟩ : ∃ w : State, w = { v with alertsDue := [] } := ⟨_, rfl⟩
  have slots : v.slotsMade = [] := by
    obtain ⟨_, _, _, _, _, rfl⟩ := h
    exact hs.2
  have calm : w.atRest := by
    rw [hw]
    exact ⟨rfl, slots⟩
  have unit : w.alarmUnitOnly v := ⟨v.alarms, v.alertLine, v.alertsDue, by rw [hw]⟩
  have event := unit.onlyAlarms calm hv
  have only := event.goesOn g
  have lamps := congrArg State.lamps only.1
  have south := congrArg State.south only.1
  obtain ⟨made, alerts, north⟩ := only.2
  have bank : ∀ b, t.bank b = w.bank b := fun b => only.bank b
  obtain ⟨_, _, _, _, _, rfl⟩ := h
  subst hw
  exact ⟨lamps, south, ⟨made, alerts, north⟩, bank⟩

/-! ### A bank that burns on through a review (05, R88 to R93) -/

/-- A bank as it was, its sag and its low output too, or put to QUENCHING. -/
def State.burnsOn (s t : State) (b : BankId) : Prop :=
  (t.bank b = s.bank b ∧ t.alarm .sag b.1 = s.alarm .sag b.1 ∧ t.alarm .outputLow b.1 = s.alarm .outputLow b.1) ∨
    ((t.bank b).state = .quenching ∧ (t.bank b).warmTimer = none)

namespace State.burnsOn

variable {s t u : State} {b : BankId}

theorem refl (s : State) (b : BankId) : s.burnsOn s b := .inl ⟨rfl, rfl, rfl⟩

theorem of_eq (h : s.burnsOn t b) (hb : u.bank b = t.bank b) (hs : u.alarm .sag b.1 = t.alarm .sag b.1)
    (hl : u.alarm .outputLow b.1 = t.alarm .outputLow b.1) : s.burnsOn u b := by
  unfold State.burnsOn
  rw [hb, hs, hl]
  exact h

/-- The stage actions of a channel leave a bank that is not DARK, or stage it down (05, R91, R92, R97). -/
theorem keeps (hs : (s.bank b).state ≠ .dark) (ch : ChanId) :
    StagingKeeps (fun t => s.burnsOn t b) (fun _ => True) ch where
  counts _ h := h.of_eq rfl rfl rfl
  exhausted holds h := h.of_eq (report_bank _ _ _ _ _) (report_alarm_ne (alarmSlot_kind (by decide)) _ _)
    (report_alarm_ne (alarmSlot_kind (by decide)) _ _)
  up {t} h := by
    rcases stageUp_cases ch t with same | ⟨c, dark, staged, alarm⟩
    · rwa [same]
    · have other : b ≠ c := by
        rintro rfl
        rcases h with ⟨same, _⟩ | ⟨quenching, _⟩
        · exact hs (same ▸ dark)
        · rw [dark] at quenching
          cases quenching
      refine h.of_eq ?_ ?_ ?_
      · rw [staged.bank, State.stagedUp_bank_other other]
      · rw [alarm _ _ (by decide), setBankState_alarm_other other rfl]
      · rw [alarm _ _ (by decide), setBankState_alarm_other other rfl]
  down {t c} _ h := by
    by_cases e : b = c
    · subst e
      exact .inr (enterQuenching_bank_self b t)
    · exact h.of_eq (enterQuenching_bank_other e t) (enterQuenching_alarm_other e rfl t)
        (enterQuenching_alarm_other e rfl t)
  last _ _ _ := trivial

theorem review (h : s.burnsOn t b) (hs : (s.bank b).state ≠ .dark) (ch : ChanId) : s.burnsOn (review ch t) b :=
  (keeps hs ch).review (fun _ _ => trivial) h

theorem requestStageUp (h : s.burnsOn t b) (hs : (s.bank b).state ≠ .dark) (ch : ChanId) :
    s.burnsOn (requestStageUp ch t) b := by
  unfold Machine.requestStageUp
  split
  · have counted : s.burnsOn (t.modChan ch fun c => { c with pendingUp := min 4 (c.pendingUp + 1) }) b :=
      h.of_eq rfl rfl rfl
    exact counted.review hs ch
  · exact h

end State.burnsOn

end Sys2Proof.Machine

namespace Sys2Proof.Machine
open Sys2Proof

set_option Elab.async false

/-! ### The tracker takes a sample (03, R42 to R46) -/

/-- A bank whose Sf has taken a value (03, R43). -/
def Bank.filteredBy (v : Nat) (x : Bank) : Bank :=
  { x with tracker := { x.tracker with sf := some (filtered x.tracker.sf v (x.get .filtShift)) } }

section Sample

variable {s : State} {b : BankId} {v : Nat}

theorem takeSample_blank (h : (s.bank b).tracker.blank = true) : takeSample b v s = s := if_pos h

/-- Sf moves in every state of the bank; in WARMING and in RUN of an owned bank the rest of the tracker follows (03, R42,
R46). -/
theorem takeSample_unblanked (h : (s.bank b).tracker.blank = false) : takeSample b v s =
    match (s.bank b).owner, (s.bank b).state with
    | some ch, .warming => warmSample b
        (normalised (filtered (s.bank b).tracker.sf v ((s.bank b).get .filtShift)) (s.chan ch).power.applied)
        (s.modBank b (Bank.filteredBy v))
    | some ch, .run => runSample b
        (normalised (filtered (s.bank b).tracker.sf v ((s.bank b).get .filtShift)) (s.chan ch).power.applied)
        (s.modBank b (Bank.filteredBy v))
    | _, _ => s.modBank b (Bank.filteredBy v) := by
  have base : (s.modBank b fun x => x.setTracker fun t =>
      { t with sf := some (filtered (s.bank b).tracker.sf v ((s.bank b).get .filtShift)) }) =
      s.modBank b (Bank.filteredBy v) := modBank_congr rfl
  have owner : ((s.modBank b (Bank.filteredBy v)).bank b).owner = (s.bank b).owner := by
    rw [State.modBank_bank_self]
    rfl
  unfold takeSample
  dsimp only
  rw [if_neg (by rw [h]; decide), base, State.appliedOf, owner]
  cases (s.bank b).owner with
  | none => rfl
  | some ch => cases (s.bank b).state <;> rfl

theorem takeSample_calm (h : (s.bank b).tracker.blank = false)
    (calm : (s.bank b).owner = none ∨ ((s.bank b).state ≠ .warming ∧ (s.bank b).state ≠ .run)) :
    takeSample b v s = s.modBank b (Bank.filteredBy v) := by
  rw [takeSample_unblanked h]
  rcases calm with unowned | ⟨notWarming, notRun⟩
  · rw [unowned]
  · split
    · next e => exact absurd e notWarming
    · next e => exact absurd e notRun
    · rfl

/-! ### A sample in WARMING (03, R46, R56; 05, R95) -/

/-- A bank in WARMING with Sn and the warm check (03, R46, R56). -/
def Bank.warmed (sn : Nat) (warm : Bool) (x : Bank) : Bank :=
  { x with tracker := { x.tracker with sn := some sn, warm := warm } }

/-- A warm check that does not change, or fails, or finds no bank to run, leaves the bank WARMING (03, R56; 05, R95). -/
theorem warmSample_stays {ch : ChanId} {sn : Nat} {warm : Bool} (owner : (s.bank b).owner = some ch)
    (state : (s.bank b).state = .warming)
    (hw : warm = warmTest sn ((s.bank b).get .expected) ((s.bank b).get .warmPct))
    (h : warm = (s.bank b).tracker.warm ∨ warm = false ∨ (s.chan ch).dormant = true ∨
      s.litCount b < (s.bank b).get .minLampsLit) :
    warmSample b sn s = s.modBank b (Bank.warmed sn warm) := by
  have stored : (s.modBank b fun x => x.setTracker fun t => { t with sn := some sn, warm := warm }) =
      s.modBank b (Bank.warmed sn warm) := rfl
  unfold warmSample
  dsimp only
  rw [← hw, stored]
  split
  · rfl
  · next changed =>
    have bank : (s.modBank b (Bank.warmed sn warm)).bank b = (s.bank b).warmed sn warm := State.modBank_bank_self _ _ _
    unfold judgeLit
    rw [bank, show ((s.bank b).warmed sn warm).owner = some ch from owner]
    dsimp only
    split
    · rfl
    · next governed =>
      have notDark : (s.modBank b (Bank.warmed sn warm)).reachesLit ch b = false := by
        rw [State.reachesLit, bank, show ((s.bank b).warmed sn warm).state = .warming from state]
        rfl
      rw [notDark, if_neg (by decide), judgeBurning, bank, show ((s.bank b).warmed sn warm).state = .warming from state]
      refine if_neg ?_
      rintro ⟨passes, lit⟩
      rcases h with same | fails | dormant | short
      · exact changed same
      · rw [show ((s.bank b).warmed sn warm).tracker.warm = warm from rfl, fails] at passes
        cases passes
      · exact governed dormant
      · exact absurd lit (Nat.not_le.mpr short)

/-- A PASS with enough lit lamps takes the bank to RUN (05, R95). -/
theorem warmSample_runs {ch : ChanId} {sn : Nat} (owner : (s.bank b).owner = some ch)
    (state : (s.bank b).state = .warming) (governed : (s.chan ch).dormant = false)
    (passes : warmTest sn ((s.bank b).get .expected) ((s.bank b).get .warmPct) = true)
    (cold : (s.bank b).tracker.warm = false) (lit : (s.bank b).get .minLampsLit ≤ s.litCount b) :
    warmSample b sn s = runBank b (s.modBank b (Bank.warmed sn true)) := by
  have stored : (s.modBank b fun x => x.setTracker fun t => { t with sn := some sn, warm := true }) =
      s.modBank b (Bank.warmed sn true) := rfl
  have bank : (s.modBank b (Bank.warmed sn true)).bank b = (s.bank b).warmed sn true := State.modBank_bank_self _ _ _
  have notDark : (s.modBank b (Bank.warmed sn true)).reachesLit ch b = false := by
    rw [State.reachesLit, bank, show ((s.bank b).warmed sn true).state = .warming from state]
    rfl
  unfold warmSample
  dsimp only
  rw [passes, stored, cold, if_neg (by decide), judgeLit, bank, show ((s.bank b).warmed sn true).owner = some ch from owner]
  dsimp only
  rw [if_neg (by rw [State.modBank_chan, governed]; decide), notDark, if_neg (by decide), judgeBurning, bank,
    show ((s.bank b).warmed sn true).state = .warming from state]
  exact if_pos ⟨rfl, lit⟩

/-- A WARMING bank takes RUN (03, R54). -/
theorem Bank.entered_run {x : Bank} (h : x.state = .warming) :
    x.entered .run = { x with state := .run, tracker := { x.tracker with warm := false, reseed := true } } := by
  rw [Bank.entered, if_neg (by rw [h]; decide), h]
  simp [Tracker.onState, BankState.warmOrRun]

/-- A bank in RUN (03, R54; 05, R95). -/
theorem enterRun_bank (state : (s.bank b).state = .warming) :
    ((enterRun b s).bank b).state = .run ∧ ((enterRun b s).bank b).warmTimer = none ∧
      ((enterRun b s).bank b).tracker = { (s.bank b).tracker with warm := false, reseed := true } := by
  have entered : (setBankState b .run s).bank b = (s.bank b).entered .run := by
    rw [(setBankState_alarmUnitOnly b .run s).bank, State.modBank_bank_self]
  rw [enterRun, startInterval, State.modBank_modBank, State.modBank_bank_self, entered, Bank.entered_run state]
  split <;> exact ⟨rfl, rfl, rfl⟩

/-- The bank that enters RUN is in RUN after the review, or staged down by it (05, R88, R95). -/
theorem runBank_bank (state : (s.bank b).state = .warming) :
    (((runBank b s).bank b).state = .run ∨ ((runBank b s).bank b).state = .quenching) ∧
      ((runBank b s).bank b).warmTimer = none ∧
      (((runBank b s).bank b).state = .run →
        ((runBank b s).bank b).tracker = { (s.bank b).tracker with warm := false, reseed := true }) := by
  obtain ⟨run, stopped, tracker⟩ := enterRun_bank state
  have burns : (enterRun b s).burnsOn (runBank b s) b := by
    unfold runBank reviewOwner
    split
    · exact (State.burnsOn.refl _ b).review (by rw [run]; decide) _
    · exact .refl _ b
  rcases burns with ⟨same, _⟩ | ⟨quenching, none⟩
  · rw [same]
    exact ⟨.inl run, stopped, fun _ => tracker⟩
  · refine ⟨.inr quenching, none, fun still => ?_⟩
    rw [quenching] at still
    cases still

/-! ### A sample in RUN (03, R42, R48 to R53) -/

/-- The tracker of a bank after a sample in RUN, `start` the sag timer of an onset (03, R42). -/
def Bank.sampled (x : Bank) (sn : Nat) (start : Timer) : Tracker :=
  if (x.tracker.sref = none ∨ x.tracker.reseed = true) ∧ x.tracker.settleTimer = none then
    { x.tracker with sn := some sn, sref := some sn, reseed := false, sag := .clear, sagTimer := none }
  else match x.tracker.sref with
    | none => { x.tracker with sn := some sn }
    | some r => x.runTracker r sn start

/-- Neither seeded nor due for seeding: SAG is not judged (03, R48). -/
def Tracker.unjudged (t : Tracker) : Bool :=
  t.sref = none && t.settleTimer ≠ none

/-- The sag begins (03, R50, R53). -/
def Tracker.onset (old new : Tracker) : Bool :=
  new.sag.holds && !old.sag.holds

/-- The bank with its tracker after a sample in RUN, SAG judged but not OUTPUT_LOW. -/
def sagSampled (b : BankId) (k : Tracker) (s : State) : State :=
  if (s.bank b).tracker.unjudged then s.modBank b fun x => { x with tracker := k }
  else judgeSag b (s.modBank b fun x => { x with tracker := k })

theorem sagSampled_judged {k : Tracker} (h : (s.bank b).tracker.unjudged = false) :
    sagSampled b k s = judgeSag b (s.modBank b fun x => { x with tracker := k }) :=
  if_neg (by rw [h]; decide)

theorem sagSampled_unjudged {k : Tracker} (h : (s.bank b).tracker.unjudged = true) :
    sagSampled b k s = s.modBank b fun x => { x with tracker := k } :=
  if_pos h

/-- A sample in RUN is the tracker's update, the judgments of SAG and of OUTPUT_LOW, and at an onset with SagStage on a
stage-up request (03, R42; 05, R90). -/
theorem runSample_eq {sn : Nat} {k : Tracker} (hk : k = (s.bank b).sampled sn (s.sagStart b)) : runSample b sn s =
    if (s.bank b).tracker.onset k = true ∧ (s.bank b).get .sagStage = 0 then
      requestForBank b (judgeOutputLow b (sagSampled b k s))
    else judgeOutputLow b (sagSampled b k s) := by
  unfold Bank.sampled at hk
  unfold runSample
  dsimp only
  split
  · next due =>
    rw [if_pos due] at hk
    have judged : (s.bank b).tracker.unjudged = false := by
      rw [Tracker.unjudged, due.2]
      simp
    have none : (s.bank b).tracker.onset k = false := by rw [hk]; rfl
    rw [none, if_neg (by simp), sagSampled_judged judged, hk]
    exact congrArg (fun t => judgeOutputLow b (judgeSag b t)) (modBank_congr rfl)
  · next notDue =>
    rw [if_neg notDue] at hk
    split
    · next unseeded =>
      rw [unseeded] at hk
      have judged : (s.bank b).tracker.unjudged = true := by
        rw [Tracker.unjudged, unseeded]
        simp only [decide_true, Bool.true_and, decide_eq_true_eq]
        exact fun e => notDue ⟨.inl unseeded, e⟩
      have none : (s.bank b).tracker.onset k = false := by
        rw [hk, Tracker.onset]
        simp
      rw [none, if_neg (by simp), sagSampled_unjudged judged, hk]
      exact congrArg (judgeOutputLow b) (modBank_congr rfl)
    · next r seeded =>
      rw [seeded] at hk
      have judged : (s.bank b).tracker.unjudged = false := by
        rw [Tracker.unjudged, seeded]
        rfl
      rw [sagSampled_judged judged, hk, runStep, Tracker.onset]
      simp only [Bool.and_eq_true, decide_eq_true_eq]
      rfl

theorem sagSampled_alarmUnitOnly (k : Tracker) :
    (s.modBank b fun x => { x with tracker := k }).alarmUnitOnly (sagSampled b k s) := by
  unfold sagSampled
  split
  · exact .refl _
  · exact judgeSag_alarmUnitOnly b _

theorem sagSampled_alarm_ne {m : AlarmKind} (h : m ≠ .sag) (k : Tracker) (i : Nat) :
    (sagSampled b k s).alarm m i = s.alarm m i := by
  unfold sagSampled
  split
  · rfl
  · exact report_alarm_ne (alarmSlot_kind h) _ _

/-- SAG as the sample leaves it (03, R53). -/
theorem sagSampled_sag (k : Tracker) : ((sagSampled b k s).alarm .sag b.1).cause =
    if (s.bank b).tracker.unjudged then (s.alarm .sag b.1).cause else k.sag.holds := by
  unfold sagSampled
  split
  · rfl
  · rw [judgeSag, report_cause, State.modBank_bank_self]

theorem sagSampled_notesSound (h : s.notesSound) (k : Tracker) : (sagSampled b k s).notesSound := by
  unfold sagSampled
  split
  · exact h.bank b _
  · exact (h.bank b _).report b.isLt _

end Sample

end Sys2Proof.Machine

namespace Sys2Proof.Machine
open Sys2Proof

set_option Elab.async false

/-! ### A sample in RUN in figures (03, R48 to R53, Table 3-5) -/

theorem SagState.holds_iff (x : SagState) : x.holds = true ↔ x = .active ∨ ∃ n, x = .leaving n := by
  cases x <;> simp [SagState.holds]

/-- Table 3-5 enters ACTIVE or LEAVING from CLEAR or ENTERING by ACTIVE alone: that is the onset (03, R50). -/
theorem sagStep_onset (old : SagState) (enter exit : Bool) (e x : Nat) :
    ((sagStep old enter exit e x).holds && !old.holds) = true ↔
      sagStep old enter exit e x = .active ∧ old ≠ .active ∧ ∀ n, old ≠ .leaving n := by
  cases old with
  | clear | entering =>
    unfold sagStep
    cases enter
    · simp [SagState.holds]
    · simp only [if_true]
      split <;> simp [SagState.holds]
  | active | leaving => simp [SagState.holds]

theorem sagStep_eq (old : SagState) (enter exit : Bool) (e x : Nat) : sagStep old enter exit e x =
    match old with
    | .clear => if enter = false then .clear else if e ≤ 1 then .active else .entering 1
    | .entering n => if enter = false then .clear else if e ≤ n + 1 then .active else .entering (n + 1)
    | .active => if exit = false then .active else if x ≤ 1 then .clear else .leaving 1
    | .leaving n => if exit = false then .active else if x ≤ n + 1 then .clear else .leaving (n + 1) := by
  cases old <;> cases enter <;> cases exit <;> rfl

theorem enterTest_iff (r sn pct : Nat) : enterTest r sn pct = true ↔ (r : Int) * pct ≤ ((r : Int) - sn) * 256 :=
  decide_eq_true_iff

theorem exitTest_iff (r sn pct : Nat) : exitTest r sn pct = true ↔ ((r : Int) - sn) * 256 < (r : Int) * pct :=
  decide_eq_true_iff

/-- The tracker of a RUN bank with a seeded reference (03, R49 to R52). -/
theorem Bank.runTracker_eq {x : Bank} {r sn : Nat} {start : Timer} {sag : SagState} {onset : Bool}
    (hsag : sag = sagStep x.tracker.sag (enterTest r sn (x.get .sagPct))
      (exitTest r sn (exitPct (x.get .sagPct) (x.get .sagHys))) (x.get .sagEnter) (x.get .sagExit))
    (honset : onset = true ↔ sag = .active ∧ x.tracker.sag ≠ .active ∧ ∀ n, x.tracker.sag ≠ .leaving n) :
    x.runTracker r sn start = { x.tracker with
      sn := some sn
      sag := sag
      sref := some (
        if x.tracker.settleTimer ≠ none ∨ sag ≠ .clear ∨
            (x.get .haltPct ≠ 0 ∧ (r : Int) * x.get .haltPct ≤ ((r : Int) - sn) * 256) then r
        else moveToward r sn (x.get .refShift))
      sagTimer := if onset = true then start else if sag = .clear then none else x.tracker.sagTimer } := by
  have begins : (sag.holds && !x.tracker.sag.holds) = onset := by
    rw [Bool.eq_iff_iff, honset, hsag]
    exact sagStep_onset _ _ _ _ _
  have halted : (x.tracker.settleTimer.isSome || sag ≠ .clear || haltTest r sn (x.get .haltPct)) = true ↔
      x.tracker.settleTimer ≠ none ∨ sag ≠ .clear ∨
        (x.get .haltPct ≠ 0 ∧ (r : Int) * x.get .haltPct ≤ ((r : Int) - sn) * 256) := by
    simp only [haltTest, Bool.or_eq_true, Bool.and_eq_true, decide_eq_true_eq, enterTest_iff, or_assoc,
      Option.isSome_iff_ne_none]
  have timer : (if sag = .clear then none else if onset = true then start else x.tracker.sagTimer) =
      if onset = true then start else if sag = .clear then none else x.tracker.sagTimer := by
    by_cases begun : onset = true
    · rw [if_pos begun, if_pos begun, if_neg (by rw [(honset.mp begun).1]; decide)]
    · rw [if_neg begun, if_neg begun]
  unfold Bank.runTracker
  dsimp only
  rw [← hsag, begins, if_congr halted rfl rfl, timer]

/-- A sample that seeds the reference (03, R48). -/
theorem Bank.sampled_seeds {x : Bank} (due : x.tracker.sref = none ∨ x.tracker.reseed = true)
    (settled : x.tracker.settleTimer = none) (sn : Nat) (start : Timer) : x.sampled sn start =
      { x.tracker with sn := some sn, sref := some sn, reseed := false, sag := .clear, sagTimer := none } :=
  if_pos ⟨due, settled⟩

/-- An unseeded reference waits for the settle timer (03, R48). -/
theorem Bank.sampled_waits {x : Bank} (unseeded : x.tracker.sref = none) (settling : x.tracker.settleTimer ≠ none) (sn : Nat)
    (start : Timer) : x.sampled sn start = { x.tracker with sn := some sn } := by
  rw [Bank.sampled, if_neg fun h => settling h.2, unseeded]

/-- A seeded reference that is not due for seeding (03, R49, R50). -/
theorem Bank.sampled_tracks {x : Bank} {r : Nat} (seeded : x.tracker.sref = some r)
    (kept : x.tracker.reseed = false ∨ x.tracker.settleTimer ≠ none) (sn : Nat) (start : Timer) :
    x.sampled sn start = x.runTracker r sn start := by
  have notDue : ¬ ((x.tracker.sref = none ∨ x.tracker.reseed = true) ∧ x.tracker.settleTimer = none) := by
    rintro ⟨due, settled⟩
    rw [seeded] at due
    simp [settled] at kept
    simp [kept] at due
  rw [Bank.sampled, if_neg notDue, seeded]

/-! ### What a sample leaves of the rest (03, R42) -/

/-- `t` is the state of a sample's event before a bank's transition or a stage-up request: what staging and
INTENSITY_STALE read is that of `s`. -/
structure State.SampledTo (s t : State) (b : BankId) : Prop where
  staging : s.stagingOnly t
  chan    : ∀ c, t.chan c = s.chan c
  state   : (t.bank b).state = (s.bank b).state
  owner   : (t.bank b).owner = (s.bank b).owner
  stale   : t.alarm .intensityStale b.1 = s.alarm .intensityStale b.1

namespace State.SampledTo

variable {s t u : State} {b : BankId}

theorem refl (s : State) (b : BankId) : s.SampledTo s b := ⟨.refl s, fun _ => rfl, rfl, rfl, rfl⟩

theorem trans (h : s.SampledTo t b) (g : t.SampledTo u b) : s.SampledTo u b where
  staging := h.staging.trans g.staging
  chan c := (g.chan c).trans (h.chan c)
  state := g.state.trans h.state
  owner := g.owner.trans h.owner
  stale := g.stale.trans h.stale

theorem tracker {f : Bank → Bank} (s : State) (b : BankId) (hs : (f (s.bank b)).state = (s.bank b).state := by rfl)
    (ho : (f (s.bank b)).owner = (s.bank b).owner := by rfl) : s.SampledTo (s.modBank b f) b where
  staging := modBank_stagingOnly b f s
  chan _ := rfl
  state := by rw [State.modBank_bank_self, hs]
  owner := by rw [State.modBank_bank_self, ho]
  stale := rfl

theorem unit (h : s.alarmUnitOnly t) (stale : t.alarm .intensityStale b.1 = s.alarm .intensityStale b.1) :
    s.SampledTo t b where
  staging := h.staging
  chan := h.chan
  state := by rw [h.bank]
  owner := by rw [h.bank]
  stale := stale

theorem judgedLow (s : State) (b : BankId) (begins : Bool) : s.SampledTo (s.judgedLow b begins) b := by
  refine tracker s b ?_ ?_ <;>
  · unfold Bank.judgedLow
    split <;> rfl

/-- A sample in RUN up to its stage-up request. -/
theorem runSampled (s : State) (b : BankId) (k : Tracker) : s.SampledTo (judgeOutputLow b (sagSampled b k s)) b := by
  have judged := (State.alarmUnitOnly.refl (sagSampled b k s)).judgeOutputLow (b := b)
  have sag : (sagSampled b k s).SampledTo (judgeOutputLow b (sagSampled b k s)) b :=
    (judgedLow _ b _).trans (unit judged (judgeOutputLow_alarm_ne (by decide) b b.1 _))
  have base : (s.modBank b fun x => { x with tracker := k }).SampledTo (sagSampled b k s) b :=
    unit (sagSampled_alarmUnitOnly k) (sagSampled_alarm_ne (by decide) k b.1)
  exact ((tracker s b).trans base).trans sag

/-- INTENSITY_STALE stands as judged. -/
theorem staleJudged (h : s.SampledTo t b) (hs : s.staleJudged b) : t.staleJudged b :=
  hs.of_eq (h.state ▸ hs.1) h.owner (fun c => by rw [h.chan]) h.staging.points h.stale

end State.SampledTo

section SampleEvent

variable {s : State} {b : BankId} {v : Nat}

/-- A sample ends with the tracker's update, the bank's entry to RUN, or a stage-up request (03, R42; 05, R90, R95). -/
theorem takeSample_cases (s : State) (b : BankId) (v : Nat) : ∃ w, s.SampledTo w b ∧
    (takeSample b v s = w ∨ (takeSample b v s = runBank b w ∧ (s.bank b).state = .warming) ∨
      ∃ ch, takeSample b v s = requestStageUp ch w ∧ (s.bank b).state = .run) := by
  cases blank : (s.bank b).tracker.blank with
  | true => exact ⟨s, .refl s b, .inl (takeSample_blank blank)⟩
  | false =>
    have filter : s.SampledTo (s.modBank b (Bank.filteredBy v)) b := .tracker s b
    rw [takeSample_unblanked blank]
    split
    · next ch owner state =>
      generalize normalised (filtered (s.bank b).tracker.sf v ((s.bank b).get .filtShift)) (s.chan ch).power.applied = sn
      obtain ⟨m, hm⟩ : ∃ m, m = s.modBank b (Bank.filteredBy v) := ⟨_, rfl⟩
      rw [← hm] at filter ⊢
      have owner' := filter.owner.trans owner
      have state' := filter.state.trans state
      by_cases runs : warmTest sn ((m.bank b).get .expected) ((m.bank b).get .warmPct) = true ∧
          (m.bank b).tracker.warm = false ∧ (m.chan ch).dormant = false ∧ (m.bank b).get .minLampsLit ≤ m.litCount b
      · obtain ⟨passes, cold, governed, lit⟩ := runs
        exact ⟨_, filter.trans (.tracker m b),
          .inr (.inl ⟨warmSample_runs owner' state' governed passes cold lit, state⟩)⟩
      · refine ⟨_, filter.trans (.tracker m b), .inl (warmSample_stays owner' state' rfl (by_contra fun moves => runs ?_))⟩
        obtain ⟨changed, passes, governed, lit⟩ := not_or.mp moves |>.imp_right fun h =>
          not_or.mp h |>.imp_right not_or.mp
        rw [Bool.not_eq_false] at passes
        rw [passes, eq_comm, Bool.not_eq_true] at changed
        exact ⟨passes, changed, Bool.eq_false_iff.mpr governed, Nat.le_of_not_lt lit⟩
    · next ch owner state =>
      have owned : ∀ w, s.SampledTo w b → requestForBank b w = requestStageUp ch w := fun w h => by
        rw [requestForBank, h.owner.trans owner]
      have sampled := fun k => filter.trans (State.SampledTo.runSampled (s.modBank b (Bank.filteredBy v)) b k)
      rw [runSample_eq rfl]
      split
      · exact ⟨_, sampled _, .inr (.inr ⟨ch, owned _ (sampled _), state⟩)⟩
      · exact ⟨_, sampled _, .inl rfl⟩
    · exact ⟨_, filter, .inl rfl⟩

theorem takeSample_stagingOnly (s : State) (b : BankId) (v : Nat) : s.stagingOnly (takeSample b v s) := by
  obtain ⟨w, sampled, told | ⟨told, _⟩ | ⟨ch, told, _⟩⟩ := takeSample_cases s b v <;> rw [told]
  · exact sampled.staging
  · exact sampled.staging.trans (runBank_stagingOnly b w)
  · exact sampled.staging.trans (requestStageUp_stagingOnly ch w)

/-- A bank's entry to RUN and the review after it keep INTENSITY_STALE as judged (02, R38). -/
theorem runBank_staleJudged (h : s.staleJudged b) : (runBank b s).staleJudged b := by
  have entered := h.setBankState b (st := .run) (by decide)
  have running : (enterRun b s).staleJudged b := by
    have bank : ((enterRun b s).bank b).state = ((setBankState b .run s).bank b).state ∧
        ((enterRun b s).bank b).owner = ((setBankState b .run s).bank b).owner := by
      rw [enterRun, startInterval, State.modBank_modBank, State.modBank_bank_self]
      dsimp only
      split <;> exact ⟨rfl, rfl⟩
    exact entered.of_eq (bank.1 ▸ entered.1) bank.2 (fun _ => rfl) rfl rfl
  unfold runBank reviewOwner
  split
  · exact running.stages State.stages.refl.review
  · exact running

/-- A sample of the point that serves the bank leaves no INTENSITY_STALE (02, R38). -/
theorem sample_notStale (fresh : s.freshPoint (s.intensityPoint b) = true) :
    ((takeSample b v (judgeIntensityStale b s)).alarm .intensityStale b.1).cause = false := by
  have unit := judgeIntensityStale_alarmUnitOnly b s
  have bank := unit.bank b
  obtain ⟨w, sampled, cases⟩ := takeSample_cases (judgeIntensityStale b s) b v
  have stands : takeSample b v (judgeIntensityStale b s) = w →
      ((takeSample b v (judgeIntensityStale b s)).alarm .intensityStale b.1).cause = false := by
    intro told
    rw [told, sampled.stale, judgeIntensityStale, report_cause, fresh]
    simp
  have judged : (takeSample b v (judgeIntensityStale b s)).staleJudged b →
      ((takeSample b v (judgeIntensityStale b s)).alarm .intensityStale b.1).cause = false := by
    intro judged
    have points : (takeSample b v (judgeIntensityStale b s)).points = s.points :=
      (takeSample_stagingOnly _ b v).points.trans unit.points
    have point : (takeSample b v (judgeIntensityStale b s)).intensityPoint b = s.intensityPoint b :=
      State.servingPoint_congr points _
    rw [judged.2, point, State.freshPoint_congr points, fresh]
    simp
  rcases cases with told | ⟨told, state⟩ | ⟨ch, told, state⟩
  · exact stands told
  · refine judged ?_
    rw [told]
    exact runBank_staleJudged (sampled.staleJudged (.judged (by rw [← bank, state]; decide)))
  · refine judged ?_
    rw [told]
    exact (sampled.staleJudged (.judged (by rw [← bank, state]; decide))).stages (requestStageUp_stages ch)

end SampleEvent

end Sys2Proof.Machine

namespace Sys2Proof.Machine
open Sys2Proof

set_option Elab.async false

/-! ### A bank's intensity point takes an item (02, R32, R38; 03, R42) -/

section Intensity

variable {u t : State} {b : BankId} {ch : ChanId} {v : Nat} {f : Frame}

theorem tellAccepted_intensity {p : PointId} {c : PointCfg} (h : c.targets = .intensity b) (raw : Nat) :
    tellAccepted p c raw u = if u.intensityPoint b = some p then
      takeSample b (scale raw c.gain c.offset) (judgeIntensityStale b u) else u := by
  rw [tellAccepted, h]

/-- The bank whose point has taken an item, its Sf moved and INTENSITY_STALE judged. -/
def filteredSample (b : BankId) (v : Nat) (u : State) : State :=
  (judgeIntensityStale b u).modBank b (Bank.filteredBy v)

theorem filteredSample_alarmUnitOnly (b : BankId) (v : Nat) (u : State) :
    (u.modBank b (Bank.filteredBy v)).alarmUnitOnly (filteredSample b v u) :=
  (judgeIntensityStale_alarmUnitOnly b u).modBank b _

theorem filteredSample_bank (b : BankId) (v : Nat) (u : State) :
    (filteredSample b v u).bank b = (u.bank b).filteredBy v := by
  rw [(filteredSample_alarmUnitOnly b v u).bank, State.modBank_bank_self]

theorem filteredSample_chan (b : BankId) (v : Nat) (u : State) (c : ChanId) :
    (filteredSample b v u).chan c = u.chan c :=
  (filteredSample_alarmUnitOnly b v u).chan c

theorem filteredSample_alarm {k : AlarmKind} (h : k ≠ .intensityStale) (b : BankId) (v : Nat) (u : State) (i : Nat) :
    (filteredSample b v u).alarm k i = u.alarm k i :=
  report_alarm_ne (alarmSlot_kind h) _ _

theorem filteredSample_sagStart (b : BankId) (v : Nat) (u : State) :
    (filteredSample b v u).sagStart b = u.sagStart b := by
  have now := congrArg Outer.now (filteredSample_alarmUnitOnly b v u).event.outer
  have now : (filteredSample b v u).now = u.now := now
  rw [State.sagStart, filteredSample_bank, State.timer, now]
  rfl

theorem filteredSample_litCount (b : BankId) (v : Nat) (u : State) :
    (filteredSample b v u).litCount b = u.litCount b := by
  obtain ⟨_, _, _, e⟩ := filteredSample_alarmUnitOnly b v u
  rw [e]
  rfl

theorem filteredSample_notesSound (h : u.notesSound) (b : BankId) (v : Nat) : (filteredSample b v u).notesSound :=
  (h.report b.isLt _).bank b _

/-- What follows on the filter, by the state of an owned bank (03, R42). -/
theorem takeSample_owned (blank : (u.bank b).tracker.blank = false) (owner : (u.bank b).owner = some ch) {sn : Nat}
    (hsn : sn = normalised (filtered (u.bank b).tracker.sf v ((u.bank b).get .filtShift)) (u.chan ch).power.applied) :
    ((u.bank b).state = .warming →
      takeSample b v (judgeIntensityStale b u) = warmSample b sn (filteredSample b v u)) ∧
    ((u.bank b).state = .run →
      takeSample b v (judgeIntensityStale b u) = runSample b sn (filteredSample b v u)) := by
  have unit := judgeIntensityStale_alarmUnitOnly b u
  have bank := unit.bank b
  have told := takeSample_unblanked (s := judgeIntensityStale b u) (v := v) (by rw [bank]; exact blank)
  rw [bank, owner] at told
  constructor <;>
  · intro state
    rw [told, state, hsn, ← unit.chan]
    rfl

/-- An item while the bank is blanked: INTENSITY_STALE is judged, and nothing else (03, R42). -/
theorem blankedSample_onward (rest : u.atRest) (blank : (u.bank b).tracker.blank = true)
    (onward : (endEvent (takeSample b v (judgeIntensityStale b u))).HasPassedOn t f) : u.onlyAlarms t (some f) := by
  have unit := judgeIntensityStale_alarmUnitOnly b u
  rw [takeSample_blank (by rwa [unit.bank])] at onward
  exact (unit.onlyAlarms rest ((State.notesSound.atRest rest).report b.isLt _)).goesOn onward

/-- An item of a bank that keeps no Sn (03, R42, R43, R46). -/
theorem calmSample_onward (rest : u.atRest) (blank : (u.bank b).tracker.blank = false)
    (calm : (u.bank b).owner = none ∨ ((u.bank b).state ≠ .warming ∧ (u.bank b).state ≠ .run))
    (onward : (endEvent (takeSample b v (judgeIntensityStale b u))).HasPassedOn t f) :
    (u.modBank b (Bank.filteredBy v)).onlyAlarms t (some f) := by
  have bank := (judgeIntensityStale_alarmUnitOnly b u).bank b
  have told : takeSample b v (judgeIntensityStale b u) = filteredSample b v u :=
    takeSample_calm (by rwa [bank]) (by rwa [bank])
  rw [told] at onward
  exact ((filteredSample_alarmUnitOnly b v u).onlyAlarms (rest.of_eq rfl rfl)
    (filteredSample_notesSound (.atRest rest) b v)).goesOn onward

/-- An item in WARMING whose warm check calls for no transition (03, R56). -/
theorem warmingSample_stays {sn : Nat} {warm : Bool} (rest : u.atRest) (blank : (u.bank b).tracker.blank = false)
    (owner : (u.bank b).owner = some ch) (state : (u.bank b).state = .warming)
    (hsn : sn = normalised (filtered (u.bank b).tracker.sf v ((u.bank b).get .filtShift)) (u.chan ch).power.applied)
    (hw : warm = warmTest sn ((u.bank b).get .expected) ((u.bank b).get .warmPct))
    (stays : warm = (u.bank b).tracker.warm ∨ warm = false ∨ (u.chan ch).dormant = true ∨
      u.litCount b < (u.bank b).get .minLampsLit)
    (onward : (endEvent (takeSample b v (judgeIntensityStale b u))).HasPassedOn t f) :
    ((u.modBank b (Bank.filteredBy v)).modBank b (Bank.warmed sn warm)).onlyAlarms t (some f) := by
  have bank := filteredSample_bank b v u
  have told := ((takeSample_owned blank owner hsn).1 state).trans (warmSample_stays (warm := warm) (ch := ch)
    (by rw [bank]; exact owner) (by rw [bank]; exact state) (by rw [bank]; exact hw)
    (by rw [bank, filteredSample_chan, filteredSample_litCount]; exact stays))
  rw [told] at onward
  exact (((filteredSample_alarmUnitOnly b v u).modBank b _).onlyAlarms (rest.of_eq rfl rfl)
    ((filteredSample_notesSound (.atRest rest) b v).bank b _)).goesOn onward

/-- An item in WARMING that takes the bank to RUN (03, R56; 05, R95). -/
theorem warmingSample_runs {sn : Nat} (blank : (u.bank b).tracker.blank = false)
    (owner : (u.bank b).owner = some ch) (state : (u.bank b).state = .warming)
    (hsn : sn = normalised (filtered (u.bank b).tracker.sf v ((u.bank b).get .filtShift)) (u.chan ch).power.applied)
    (passes : warmTest sn ((u.bank b).get .expected) ((u.bank b).get .warmPct) = true)
    (cold : (u.bank b).tracker.warm = false) (governed : (u.chan ch).dormant = false)
    (lit : (u.bank b).get .minLampsLit ≤ u.litCount b)
    (told : t.bank b = (takeSample b v (judgeIntensityStale b u)).bank b) :
    ((t.bank b).state = .run ∨ (t.bank b).state = .quenching) ∧ (t.bank b).warmTimer = none ∧
      ((t.bank b).state = .run → (t.bank b).tracker =
        { ((u.bank b).filteredBy v).tracker with sn := some sn, warm := false, reseed := true }) := by
  have bank := filteredSample_bank b v u
  have runs := ((takeSample_owned blank owner hsn).1 state).trans (warmSample_runs (ch := ch)
    (by rw [bank]; exact owner) (by rw [bank]; exact state) (by rw [filteredSample_chan]; exact governed)
    (by rw [bank]; exact passes) (by rw [bank]; exact cold) (by rw [bank, filteredSample_litCount]; exact lit))
  have warmed : ((filteredSample b v u).modBank b (Bank.warmed sn true)).bank b =
      ((u.bank b).filteredBy v).warmed sn true := by
    rw [State.modBank_bank_self, bank]
  have ran := runBank_bank (s := (filteredSample b v u).modBank b (Bank.warmed sn true)) (b := b)
    (by rw [warmed]; exact state)
  rw [← runs, ← told, warmed] at ran
  exact ran

/-! An item in RUN. -/

/-- The state of a RUN bank's sample before its stage-up request (03, R42). -/
def ranSample (b : BankId) (v : Nat) (k : Tracker) (u : State) : State :=
  judgeOutputLow b (sagSampled b k (filteredSample b v u))

/-- The bank of a RUN sample with its new tracker and the wipe that OUTPUT_LOW starts. -/
def State.ranTo (u : State) (b : BankId) (k : Tracker) (low : Bool) : State :=
  (u.modBank b fun y => { y with tracker := k }).judgedLow b (low && !(u.alarm .outputLow b.1).cause)

section Run

variable {k : Tracker} {low : Bool}

theorem ranSample_alarmUnitOnly (state : (u.bank b).state = .run)
    (hlow : low = true ↔ ∃ q, k.sref = some q ∧ q * 256 < (u.bank b).get .expected * (u.bank b).get .lowPct) :
    (u.ranTo b k low).alarmUnitOnly (ranSample b v k u) := by
  have base : (u.modBank b (Bank.filteredBy v)).modBank b (fun y => { y with tracker := k }) =
      u.modBank b fun y => { y with tracker := k } := by
    rw [State.modBank_modBank]
    rfl
  have tracked := ((filteredSample_alarmUnitOnly b v u).modBank b fun y => { y with tracker := k }).trans
    (sagSampled_alarmUnitOnly k)
  rw [base] at tracked
  have judged := tracked.judgeOutputLow (b := b)
  have outputLow : ((u.modBank b fun y => { y with tracker := k }).bank b).outputLow = low := by
    rw [Bool.eq_iff_iff, hlow, Bank.outputLow_iff, State.modBank_bank_self]
    exact and_iff_right state
  have holds : (sagSampled b k (filteredSample b v u)).holds .outputLow b.1 = (u.alarm .outputLow b.1).cause := by
    rw [State.holds, sagSampled_alarm_ne (by decide), filteredSample_alarm (by decide)]
  rw [outputLow, holds] at judged
  exact judged

theorem ranSample_notesSound (rest : u.atRest) : (ranSample b v k u).notesSound :=
  judgeOutputLow_notesSound (sagSampled_notesSound (filteredSample_notesSound (.atRest rest) b v) k) b

theorem ranSample_sag : ((ranSample b v k u).alarm .sag b.1).cause =
    if (u.bank b).tracker.unjudged then (u.alarm .sag b.1).cause else k.sag.holds := by
  rw [ranSample, judgeOutputLow_alarm_ne (by decide), sagSampled_sag, filteredSample_bank,
    filteredSample_alarm (by decide)]
  rfl

theorem ranSample_outputLow (state : (u.bank b).state = .run)
    (hlow : low = true ↔ ∃ q, k.sref = some q ∧ q * 256 < (u.bank b).get .expected * (u.bank b).get .lowPct) :
    ((ranSample b v k u).alarm .outputLow b.1).cause = low := by
  rw [ranSample, judgeOutputLow_cause, (sagSampled_alarmUnitOnly k).bank, State.modBank_bank_self, filteredSample_bank,
    Bool.eq_iff_iff, hlow, Bank.outputLow_iff]
  exact and_iff_right state

theorem ranSample_bank (state : (u.bank b).state = .run) (owner : (u.bank b).owner = some ch) :
    ((ranSample b v k u).bank b).state = .run ∧ ((ranSample b v k u).bank b).owner = some ch := by
  have sampled := State.SampledTo.runSampled (filteredSample b v u) b k
  have bank := filteredSample_bank b v u
  refine ⟨sampled.state.trans ?_, sampled.owner.trans ?_⟩ <;> rw [bank]
  · exact state
  · exact owner

/-- A sample in RUN that sends no stage-up request, and one that does (03, R42; 05, R90). -/
theorem takeSample_run {sn : Nat} (blank : (u.bank b).tracker.blank = false) (owner : (u.bank b).owner = some ch)
    (state : (u.bank b).state = .run)
    (hsn : sn = normalised (filtered (u.bank b).tracker.sf v ((u.bank b).get .filtShift)) (u.chan ch).power.applied)
    (hk : k = ((u.bank b).filteredBy v).sampled sn (u.sagStart b)) :
    takeSample b v (judgeIntensityStale b u) =
      if (u.bank b).tracker.onset k = true ∧ (u.bank b).get .sagStage = 0 then
        requestStageUp ch (ranSample b v k u)
      else ranSample b v k u := by
  have bank := filteredSample_bank b v u
  have request : requestForBank b (ranSample b v k u) = requestStageUp ch (ranSample b v k u) := by
    rw [requestForBank, (ranSample_bank state owner).2]
  have ran := ((takeSample_owned blank owner hsn).2 state).trans
    (runSample_eq (k := k) (by rw [bank, filteredSample_sagStart]; exact hk))
  rw [bank] at ran
  rw [ran, ← request]
  rfl

/-- An item in RUN without a stage-up request: the bank's update, and the alarm unit's. -/
theorem runSample_quiet (rest : u.atRest) (state : (u.bank b).state = .run)
    (hlow : low = true ↔ ∃ q, k.sref = some q ∧ q * 256 < (u.bank b).get .expected * (u.bank b).get .lowPct)
    (onward : (endEvent (ranSample b v k u)).HasPassedOn t f) : (u.ranTo b k low).onlyAlarms t (some f) :=
  ((ranSample_alarmUnitOnly state hlow).onlyAlarms (rest.of_eq rfl rfl) (ranSample_notesSound rest)).goesOn onward

/-- An item in RUN whose onset requests a stage-up (03, R53; 05, R90). -/
theorem runSample_requests (rest : u.atRest) (state : (u.bank b).state = .run)
    (hlow : low = true ↔ ∃ q, k.sref = some q ∧ q * 256 < (u.bank b).get .expected * (u.bank b).get .lowPct)
    (onward : (endEvent (requestStageUp ch (ranSample b v k u))).HasPassedOn t f) :
    (u.ranTo b k low).requested t ch (some f) := by
  have calm : (u.ranTo b k low).atRest := rest.of_eq rfl rfl
  exact (requested_of calm (ranSample_alarmUnitOnly state hlow) (ranSample_notesSound rest)).goesOn onward

/-- SAG is judged where it begins (03, R48, R53). -/
theorem Bank.onset_judged {x : Bank} {sn : Nat} {start : Timer} (hk : k = x.sampled sn start)
    (onset : x.tracker.onset k = true) : x.tracker.unjudged = false := by
  refine Bool.eq_false_iff.mpr fun unjudged => ?_
  obtain ⟨unseeded, settling⟩ : x.tracker.sref = none ∧ x.tracker.settleTimer ≠ none := by
    simpa [Tracker.unjudged] using unjudged
  rw [hk, Bank.sampled_waits unseeded settling, Tracker.onset] at onset
  simp at onset

/-- An item in RUN: its bank, SAG and OUTPUT_LOW, and the request of an onset with SagStage on (03, R42, R53, R55; 05,
R90). -/
theorem runSample_tells {sn : Nat} (rest : u.atRest) (blank : (u.bank b).tracker.blank = false)
    (owner : (u.bank b).owner = some ch) (state : (u.bank b).state = .run)
    (hsn : sn = normalised (filtered (u.bank b).tracker.sf v ((u.bank b).get .filtShift)) (u.chan ch).power.applied)
    (hk : k = ((u.bank b).filteredBy v).sampled sn (u.sagStart b))
    (hlow : low = true ↔ ∃ q, k.sref = some q ∧ q * 256 < (u.bank b).get .expected * (u.bank b).get .lowPct)
    (onward : (endEvent (takeSample b v (judgeIntensityStale b u))).HasPassedOn t f)
    (bank : t.bank b = (takeSample b v (judgeIntensityStale b u)).bank b) :
    ((u.bank b).tracker.onset k = false ∨ (u.bank b).get .sagStage ≠ 0 →
      (u.ranTo b k low).onlyAlarms t (some f) ∧
        (t.alarm .sag b.1).cause =
          (if (u.bank b).tracker.unjudged then (u.alarm .sag b.1).cause else k.sag.holds) ∧
        (t.alarm .outputLow b.1).cause = low) ∧
    ((u.bank b).tracker.onset k = true → (u.bank b).get .sagStage = 0 →
      (u.ranTo b k low).requested t ch (some f) ∧
        ((t.bank b).state = .run → (t.alarm .sag b.1).cause = true ∧ (t.alarm .outputLow b.1).cause = low)) := by
  rw [takeSample_run blank owner state hsn hk] at onward bank
  have told : ∀ m, m ≠ .transitOverrun → t.alarm m b.1 = _ := fun m hm =>
    (onward.alarm m b.1 hm).trans (endEvent_alarm _ m b.1)
  refine ⟨fun quiet => ?_, fun onset on => ?_⟩
  · have silent : ¬ ((u.bank b).tracker.onset k = true ∧ (u.bank b).get .sagStage = 0) := by
      rintro ⟨onset, on⟩
      exact quiet.elim (fun none => by rw [none] at onset; cases onset) (· on)
    rw [if_neg silent] at onward told
    refine ⟨runSample_quiet rest state hlow onward, ?_, ?_⟩
    · rw [told .sag (by decide), ranSample_sag]
    · rw [told .outputLow (by decide), ranSample_outputLow state hlow]
  · rw [if_pos ⟨onset, on⟩] at onward told
    refine ⟨runSample_requests rest state hlow onward, fun stays => ?_⟩
    rw [if_pos ⟨onset, on⟩] at bank
    have burns := (State.burnsOn.refl (ranSample b v k u) b).requestStageUp
      (by rw [(ranSample_bank state owner).1]; decide) ch
    have judged : (u.bank b).tracker.unjudged = false :=
      Bank.onset_judged (x := (u.bank b).filteredBy v) hk onset
    have holds : k.sag.holds = true := (Bool.and_eq_true_iff.mp onset).1
    rcases burns with ⟨_, sag, outputLow⟩ | ⟨quenching, _⟩
    · rw [told .sag (by decide), told .outputLow (by decide), sag, outputLow, ranSample_sag,
        judged, ranSample_outputLow state hlow]
      exact ⟨holds, rfl⟩
    · rw [bank, quenching] at stays
      cases stays

end Run

end Intensity

end Sys2Proof.Machine

namespace Sys2Proof.Machine
open Sys2Proof

set_option Elab.async false

/-! ### The end of O17 (03, R42 to R56) -/

section Ends

variable {s u : State} {b : BankId} {ch : ChanId} {k k' : Tracker} {sn : Nat} {low : Bool}

theorem warmTest_iff (sn expected pct : Nat) : warmTest sn expected pct = true ↔ expected * pct ≤ sn * 256 :=
  decide_eq_true_iff

/-- The two tests of Table 3-5 in figures (03, R50, R51). -/
theorem Bank.seeded_figures {x : Bank} {r pct : Nat} {delta : Int} {enter exit : Bool} (hdelta : delta = (r : Int) - sn)
    (hpct : pct = x.get .sagPct * (256 - x.get .sagHys) / 256)
    (henter : enter = true ↔ (r : Int) * x.get .sagPct ≤ delta * 256)
    (hexit : exit = true ↔ delta * 256 < (r : Int) * pct) :
    enter = enterTest r sn (x.get .sagPct) ∧ exit = exitTest r sn (exitPct (x.get .sagPct) (x.get .sagHys)) := by
  constructor
  · rw [Bool.eq_iff_iff, henter, enterTest_iff, hdelta]
  · rw [Bool.eq_iff_iff, hexit, exitTest_iff, hdelta, hpct]
    rfl

theorem Tracker.unjudged_iff (t : Tracker) : t.unjudged = true ↔ t.sref = none ∧ t.settleTimer ≠ none := by
  simp [Tracker.unjudged]

/-- A sample begins a sag by ACTIVE alone (03, R50, R53, Table 3-5). -/
theorem Bank.sampled_onset {x : Bank} {start : Timer} (hk : k = x.sampled sn start) :
    x.tracker.onset k = true ↔ k.sag = .active ∧ x.tracker.sag ≠ .active ∧ ∀ n, x.tracker.sag ≠ .leaving n := by
  subst hk
  unfold Bank.sampled Tracker.onset
  split
  · simp [SagState.holds]
  · split
    · cases x.tracker.sag <;> simp [SagState.holds]
    · exact sagStep_onset _ _ _ _ _

/-- The bank of a RUN item, the wipe that OUTPUT_LOW starts written out (06, R101, R107, R109). -/
theorem State.ranTo_eq (owner : (u.bank b).owner = some ch) : u.ranTo b k low = u.modBank b (fun y =>
    if low = true ∧ (u.alarm .outputLow b.1).cause = false ∧ y.running = none ∧ (u.chan ch).dormant = false then
      { y with
        tracker := k
        running := some .wipe
        stepIdx := 0
        stepTimer := some (u.now + 10 * 2 ^ (y.wipe.get 0).k)
        wipeInterval := if y.get .wipeInterval = 0 then y.wipeInterval
          else some (u.now + 60000 * y.get .wipeInterval) }
    else { y with tracker := k }) := by
  have governed : (u.modBank b fun y => { y with tracker := k }).bankGoverned b = true ↔
      (u.chan ch).dormant = false := by
    rw [State.bankGoverned_iff, State.modBank_bank_self]
    simp [owner]
  rw [State.ranTo, State.judgedLow, State.modBank_modBank]
  refine modBank_congr ?_
  unfold Bank.judgedLow
  simp only [governed, Bool.and_eq_true, Bool.not_eq_true', and_assoc]
  rfl

/-- An item of an intensity point, the alarm unit and staging apart (03, R42; 05, R90). -/
theorem intensityItem_staged {t : State} {f : Frame} {v : Nat} (calm : u.atRest)
    (onward : (endEvent (takeSample b v (judgeIntensityStale b u))).HasPassedOn t f) :
    u.StagedOn (takeSample b v (judgeIntensityStale b u)) t f := by
  have judged : (judgeIntensityStale b u).notesSound := (State.notesSound.atRest calm).report b.isLt _
  have staging := (judgeIntensityStale_alarmUnitOnly b u).staging.trans (takeSample_stagingOnly _ b v)
  exact staging.goesOn calm (judged.moves (.takeSample .refl b v)) onward

end Ends

/-- Settles O17: the item reaches its point as O16 has it, and then the tracker by `takeSample`, whose cases are the
bank's state and, in RUN, the seeding of the reference. -/
theorem intensitySampleReachesItsTracker : Obligations.IntensitySampleReachesItsTracker := by
  intro dst src i p x b k v sf sn f s u hf rest hn hi hr hx station index unique quality least most role serving hk hv hu
    hsf hsn
  subst hf
  have measured : ∀ c, x.cfg.targets ≠ .wiper c := fun c e => by rw [role] at e; cases e
  have found : s.matchPoint (stationOf src) i.index = some p := State.matchPoint_of hx station index unique
  obtain ⟨t, f, run, onward, plain⟩ := exec_sampleFrame_accepted (dst := dst) hn ⟨hi, hr⟩ found hx
    ((x.cfg.accepts_iff i).mpr ⟨quality, least, most, fun c e => absurd e (measured c)⟩)
  obtain ⟨rfl, -⟩ := plain (by simp [role])
  have taken : s.setPoint p (some (x.taken i s.now)) = u := by
    rw [hu, Point.taken, PointCfg.valueOf_scaled measured, hv]
    rfl
  have took : s.TookItem (tellAccepted p x.cfg i.raw (s.setPoint p (some (x.taken i s.now)))) t p x i _ :=
    ⟨tellAccepted_eventOnly _ _ _ _, onward⟩
  have serves : u.intensityPoint b = some p := taken ▸ (State.taken_servingPoint hx i _).trans serving
  have scaled : scale i.raw x.cfg.gain x.cfg.offset = v := hv.symm
  rw [tellAccepted_intensity role, taken, if_pos serves, scaled] at took onward
  have calm : u.atRest := hu ▸ rest.of_eq rfl rfl
  have bank : u.bank b = s.bank b := hu ▸ rfl
  have chan : ∀ ch, u.chan ch = s.chan ch := fun ch => hu ▸ rfl
  have staged := intensityItem_staged calm onward
  have filtering : sf = filtered (s.bank b).tracker.sf v ((s.bank b).get .filtShift) := by
    rw [hk] at hsf
    refine hsf.trans ?_
    cases (s.bank b).tracker.sf <;> rfl
  have normal : ∀ ch, (s.bank b).owner = some ch →
      sn = normalised (filtered (u.bank b).tracker.sf v ((u.bank b).get .filtShift)) (u.chan ch).power.applied := by
    intro ch owner
    rw [hsn ch owner, bank, chan, filtering]
    rfl
  have fresh : u.freshPoint (u.intensityPoint b) = true := by
    have point : u.point p = some (x.taken i s.now) := by
      rw [← taken, State.setPoint_point, if_pos rfl]
    rw [serves, State.freshPoint_some point]
    rfl
  clear hsf hsn
  subst hk filtering
  refine ⟨t, run, took.outer, exec_tables rfl run, taken ▸ took.points, ?_, ?_, ?_, ?_, fun blank => ?_, fun clear => ?_⟩
  · rw [staged.lamps, hu]
    rfl
  · rw [staged.south, hu]
    rfl
  · subst hu
    exact staged.north
  · rw [took.alarm (by decide)]
    exact sample_notStale fresh
  · exact blankedSample_onward calm (bank ▸ blank) onward
  have blank : (u.bank b).tracker.blank = false := bank ▸ clear
  have lit : u.litCount b = s.litCount b := hu ▸ rfl
  refine ⟨fun still => ?_, fun ch owner => ⟨fun state warm hwarm => ⟨fun stays => ?_, fun cold passes governed enough => ?_⟩,
    fun state k' onset low w honset tracked hlow hw => ?_⟩⟩
  · rw [show (u.modBank b _) = u.modBank b (Bank.filteredBy v) from modBank_congr (by rw [bank]; rfl)]
    exact calmSample_onward calm blank (bank ▸ still) onward
  · have only := warmingSample_stays (warm := warm) calm blank (bank ▸ owner) (bank ▸ state) (normal ch owner)
      (by rw [bank, Bool.eq_iff_iff, hwarm, warmTest_iff]) (by rw [bank, chan, lit]; exact stays) onward
    rw [State.modBank_modBank] at only
    refine (congrArg (fun v : State => v.onlyAlarms t _) (modBank_congr ?_)).mpr only
    rw [bank]
    rfl
  · have ran := warmingSample_runs blank (bank ▸ owner) (bank ▸ state) (normal ch owner)
      (by rw [bank, warmTest_iff]; exact hwarm.mp passes) (bank ▸ cold) (by rw [chan]; exact governed)
      (by rw [bank, lit]; exact enough) (staged.bank b)
    rw [bank] at ran
    exact ran
  · have sampled : k' = ((u.bank b).filteredBy v).sampled sn (u.sagStart b) := by
      rw [bank]
      rcases tracked with ⟨due, settled, seeds⟩ | ⟨unseeded, settling, waits⟩ |
        ⟨r, pct, delta, enter, exit, sag, seeded, kept, hdelta, hpct, henter, hexit, hsag, tracks⟩
      · exact seeds.trans (Bank.sampled_seeds (x := (s.bank b).filteredBy v) due settled sn _).symm
      · exact waits.trans (Bank.sampled_waits (x := (s.bank b).filteredBy v) unseeded settling sn _).symm
      · have step : sag = sagStep (s.bank b).tracker.sag (enterTest r sn ((s.bank b).get .sagPct))
            (exitTest r sn (exitPct ((s.bank b).get .sagPct) ((s.bank b).get .sagHys)))
            ((s.bank b).get .sagEnter) ((s.bank b).get .sagExit) := by
          obtain ⟨enters, exits⟩ := Bank.seeded_figures hdelta hpct henter hexit
          subst enters exits
          refine hsag.trans (Eq.trans ?_ (sagStep_eq _ _ _ _ _).symm)
          cases (s.bank b).tracker.sag <;> rfl
        have begins : onset = true ↔ sag = .active ∧ (s.bank b).tracker.sag ≠ .active ∧
            ∀ n, (s.bank b).tracker.sag ≠ .leaving n := by
          rw [tracks] at honset
          exact honset
        have start : u.sagStart b = if (s.bank b).get .sagTimeout = 0 then none
            else some (s.now + 1000 * (s.bank b).get .sagTimeout) := hu ▸ rfl
        rw [tracks, start, hdelta]
        exact ((Bank.sampled_tracks (x := (s.bank b).filteredBy v) seeded kept sn _).trans
          (Bank.runTracker_eq (x := (s.bank b).filteredBy v) step begins)).symm
    have begins : (u.bank b).tracker.onset k' = onset := by
      rw [Bool.eq_iff_iff, honset, bank]
      rw [bank] at sampled
      exact Bank.sampled_onset (x := (s.bank b).filteredBy v) sampled
    have written : u.ranTo b k' low = w := by
      rw [hw, State.ranTo_eq (bank ▸ owner), hu]
      rfl
    have told := runSample_tells calm blank (bank ▸ owner) (bank ▸ state) (normal ch owner) sampled
      (by rw [bank]; exact hlow) onward (staged.bank b)
    rw [begins, written, bank] at told
    obtain ⟨quiet, requests⟩ := told
    refine ⟨fun silent => ?_, requests⟩
    obtain ⟨only, sag, outputLow⟩ := quiet silent
    have alarm : u.alarm .sag b.1 = s.alarm .sag b.1 := hu ▸ rfl
    refine ⟨only, ?_, outputLow⟩
    rw [sag, ← and_assoc, ← Tracker.unjudged_iff, ← SagState.holds_iff, alarm]
    cases (s.bank b).tracker.unjudged <;> simp

end Sys2Proof.Machine

namespace Sys2Proof.Machine
open Sys2Proof

set_option Elab.async false

/-! ### One lamp acts, and the commands that lamps make (07, R118, R120, R131, R132) -/

section LampActs

variable {s t u : State} {l : LampId} {x y w : Lamp}

/-- A lamp's record `x` becomes `y`; a command made in its empty slot is noted (08, R144). -/
def State.lampActs (s : State) (l : LampId) (x y : Lamp) : State :=
  { s.setLamp l (some y) with
    slotsMade := if x.cmd = none ∧ y.cmd ≠ none then insertSlot (lampPos l) s.slotsMade else s.slotsMade }

theorem modLamp_eq (hx : s.lamp l = some x) (f : Lamp → Lamp) : s.modLamp l f = s.setLamp l (some (f x)) := by
  rw [State.modLamp, hx]
  rfl

theorem setLamp_lampActs (hw : w.cmd = x.cmd) : (s.setLamp l (some w)).lampActs l w y = s.lampActs l x y := by
  unfold State.lampActs
  rw [hw, State.setLamp_setLamp]
  rfl

theorem lampActs_quiet (h : y.cmd = x.cmd) : s.lampActs l x y = s.setLamp l (some y) := by
  unfold State.lampActs
  rw [h, if_neg (fun e => e.2 e.1)]
  rfl

theorem lampActs_same (hx : s.lamp l = some x) : s.lampActs l x x = s := by
  rw [lampActs_quiet rfl, ← hx, State.setLamp_same]

theorem placeLamp_eq (hx : s.lamp l = some x) (c : LampCmd) :
    placeLamp l c s = s.lampActs l x { x with cmd := some (mergeCmd x.cmd c) } := by
  unfold placeLamp State.lampActs
  rw [modLamp_eq hx, hx]
  dsimp only
  split
  · next empty => rw [if_pos ⟨empty, Option.some_ne_none _⟩]; rfl
  · next full => rw [if_neg fun e => full e.1]; rfl

/-- Only a SET merges with a waiting STRIKE (07, R131). -/
theorem mergeCmd_strike (old : Option LampCmd) (code : Nat) : mergeCmd old (.strike code) = .strike code := by
  unfold mergeCmd
  split
  · next e => cases e
  · rfl

theorem mergeCmd_quench (old : Option LampCmd) : mergeCmd old .quench = .quench := by
  unfold mergeCmd
  split
  · next e => cases e
  · rfl

/-- A lamp on the strike path (07, R120). -/
def State.struck (s : State) (x : Lamp) : Lamp :=
  match (s.bank x.bank).owner with
  | some ch =>
    if (s.chan ch).dormant = false ∧ x.state = .off ∧ x.wanted = true ∧ x.unconfirmed = false ∧
        x.cool ≤ (s.chan ch).get .restrikeLevel then
      { x with
        state := .striking
        strikeTimer := some (s.now + 1000 * (s.chan ch).get .strikeWindow)
        cmd := some (.strike (s.chan ch).power.code) }
    else x
  | none => x

theorem strikePath_eq (hx : s.lamp l = some x) : strikePath l s = s.lampActs l x (s.struck x) := by
  unfold State.struck
  cases owner : (s.bank x.bank).owner with
  | none =>
    have idle : s.strikeReady l = false := by
      simp [State.strikeReady, hx, State.lampGoverned, State.bankGoverned, owner]
    rw [strikePath, idle, lampActs_same hx]
    rfl
  | some ch =>
    have ready : s.strikeReady l = true ↔ (s.chan ch).dormant = false ∧ x.state = .off ∧ x.wanted = true ∧
        x.unconfirmed = false ∧ x.cool ≤ (s.chan ch).get .restrikeLevel := by
      simp [State.strikeReady, hx, State.lampGoverned, State.bankGoverned, owner, State.lampSetting, State.lampOwner,
        and_assoc]
    dsimp only
    unfold strikePath
    split
    · next h =>
      have code : s.strikeCode l = (s.chan ch).power.code := by
        simp [State.strikeCode, State.lampOwner, hx, owner]
      have window : s.lampSetting l .strikeWindow = (s.chan ch).get .strikeWindow := by
        simp [State.lampSetting, State.lampOwner, hx, owner]
      rw [if_pos (ready.mp h), code, window, modLamp_eq hx, placeLamp_eq (State.setLamp_lamp_self _ _ _),
        mergeCmd_strike, setLamp_lampActs (x := x) (by rfl)]
      rfl
    · next h =>
      rw [if_neg (mt ready.mpr h), lampActs_same hx]

/-- A LIT lamp put out (07, R118). -/
def Lamp.quenched (x : Lamp) : Lamp :=
  { x with state := .off, wanted := false, clearTimer := none, cmd := some .quench }

theorem putOutLit_eq (hx : s.lamp l = some x) : putOutLit l s = s.lampActs l x x.quenched := by
  rw [putOutLit, modLamp_eq hx, placeLamp_eq (State.setLamp_lamp_self _ _ _), mergeCmd_quench,
    setLamp_lampActs (x := x) (by rfl)]
  rfl

/-- A lamp that becomes governed (07, R132). -/
def State.tended (s : State) (x : Lamp) : Lamp :=
  if x.state = .lit ∧ x.wanted = false then { x with unconfirmed := false }.quenched
  else s.struck { x with unconfirmed := false }

theorem becomeGoverned_eq (hx : s.lamp l = some x) : becomeGoverned l s = s.lampActs l x (s.tended x) := by
  have stored := State.setLamp_lamp_self s l (some { x with unconfirmed := false })
  unfold becomeGoverned State.tended
  rw [modLamp_eq hx]
  dsimp only
  rw [stored]
  dsimp only
  split
  · rw [putOutLit_eq stored, setLamp_lampActs (x := x) (by rfl)]
  · rw [strikePath_eq stored, setLamp_lampActs (x := x) (by rfl)]
    rfl

/-- A lamp whose bank changed governance (07, R132). -/
def State.regoverned (s : State) (before : Bool) (x : Lamp) : Lamp :=
  if before = true ∧ s.bankGoverned x.bank = false then x.ungoverned
  else if before = false ∧ s.bankGoverned x.bank = true then s.tended x
  else x

theorem regovern_eq (hx : s.lamp l = some x) (before : Bool) :
    regovern before l s = s.lampActs l x (s.regoverned before x) := by
  have governed : s.lampGoverned l = s.bankGoverned x.bank := by rw [State.lampGoverned, hx]
  unfold regovern State.regoverned
  rw [governed]
  cases before <;> cases s.bankGoverned x.bank
  · exact (lampActs_same hx).symm
  · exact becomeGoverned_eq hx
  · exact (modLamp_eq hx _).trans (lampActs_quiet rfl).symm
  · exact (lampActs_same hx).symm

/-! ### Lamps that act one after the other -/

theorem lampActs_lamp (k : LampId) : (s.lampActs l x y).lamp k = if k = l then some y else s.lamp k :=
  s.setLamp_lamp l k (some y)

theorem lampActs_lampsOnly : s.lampsOnly (s.lampActs l x y) := ⟨_, _, rfl⟩

theorem mem_lampActs_slotsMade {pos : SlotId} : pos ∈ (s.lampActs l x y).slotsMade ↔
    pos ∈ s.slotsMade ∨ pos = lampPos l ∧ x.cmd = none ∧ y.cmd ≠ none := by
  unfold State.lampActs
  dsimp only
  split
  · next made => rw [mem_insertSlot, or_comm]; simp [made]
  · next quiet => simp only [quiet, and_false, or_false]

/-- The lamps of a list have acted, each by `g`; the slots they filled are noted. -/
structure State.LampsActed (s t : State) (l : List LampId) (g : Lamp → Lamp) : Prop where
  lamp  : ∀ k, t.lamp k = if k ∈ l then (s.lamp k).map g else s.lamp k
  slots : ∀ pos, pos ∈ t.slotsMade ↔ pos ∈ s.slotsMade ∨
    ∃ k ∈ l, pos = lampPos k ∧ ∃ x, s.lamp k = some x ∧ x.cmd = none ∧ (g x).cmd ≠ none

theorem lampsActed_of {f : LampId → State → State} {g : Lamp → Lamp} {l : List LampId} (distinct : l.Nodup)
    (there : ∀ k ∈ l, ∃ x, s.lamp k = some x)
    (acts : ∀ k ∈ l, ∀ t x, s.lampsOnly t → t.lamp k = some x → f k t = t.lampActs k x (g x)) :
    s.lampsOnly (forEach l f s) ∧ s.LampsActed (forEach l f s) l g := by
  induction l generalizing s with
  | nil => exact ⟨.refl s, fun k => by simp, fun pos => by simp⟩
  | cons l rest ih =>
    obtain ⟨fresh, distinct⟩ := List.nodup_cons.mp distinct
    obtain ⟨x, hx⟩ := there l List.mem_cons_self
    have step := acts l List.mem_cons_self s x (.refl s) hx
    obtain ⟨m, hm⟩ : ∃ m, m = s.lampActs l x (g x) := ⟨_, rfl⟩
    have only : s.lampsOnly m := hm ▸ lampActs_lampsOnly
    have lamp : ∀ k, m.lamp k = if k = l then some (g x) else s.lamp k := fun k => hm ▸ lampActs_lamp k
    have kept : ∀ k ∈ rest, m.lamp k = s.lamp k := fun k hk => by
      rw [lamp, if_neg]
      rintro rfl
      exact fresh hk
    rw [forEach_cons, step, ← hm]
    obtain ⟨onlyRest, acted⟩ := ih (s := m) distinct
      (fun k hk => (kept k hk).symm ▸ there k (List.mem_cons_of_mem l hk))
      (fun k hk t y ht => acts k (List.mem_cons_of_mem l hk) t y (only.trans ht))
    refine ⟨only.trans onlyRest, fun k => ?_, fun pos => ?_⟩
    · rw [acted.lamp]
      by_cases here : k = l
      · subst here
        rw [if_neg fresh, if_pos List.mem_cons_self, lamp, if_pos rfl, hx]
        rfl
      · rw [lamp, if_neg here]
        exact if_congr (by simp [here]) rfl rfl
    · have others : (∃ k ∈ rest, pos = lampPos k ∧ ∃ y, m.lamp k = some y ∧ y.cmd = none ∧ (g y).cmd ≠ none) ↔
          ∃ k ∈ rest, pos = lampPos k ∧ ∃ y, s.lamp k = some y ∧ y.cmd = none ∧ (g y).cmd ≠ none :=
        exists_congr fun k => and_congr_right fun hk => by rw [kept k hk]
      rw [acted.slots, others, hm, mem_lampActs_slotsMade, or_assoc]
      simp [hx]

/-! ### The end of an event in which lamps acted (08, R144) -/

theorem tryDirect_lampPos_bank (l : LampId) (s : State) (b : BankId) :
    (tryDirect (lampPos l) s).bank b = s.bank b := by
  unfold tryDirect enterSouth clearSlot
  rw [slotOwner_lampPos]
  dsimp only
  split
  · split <;> rfl
  · rfl

theorem endEvent_bank (sound : s.notesSound) (lamps : ∀ pos ∈ s.slotsMade, ∃ k, pos = lampPos k) (b : BankId) :
    (endEvent s).bank b = s.bank b := by
  obtain ⟨_, _, _, e⟩ := State.gainsAlerts.flushAlerts sound
  obtain ⟨m, hm⟩ : ∃ m, m = { flushAlerts s with slotsMade := [] } := ⟨_, rfl⟩
  have slots : (flushAlerts s).slotsMade = s.slotsMade := by rw [e]
  have bank : m.bank b = s.bank b := by
    rw [hm, e]
    rfl
  rw [endEvent, flushSlots, slots, ← hm]
  refine forEach_keeps (P := fun t => t.bank b = s.bank b) (fun pos made t ht => ?_) bank
  obtain ⟨k, rfl⟩ := lamps pos made
  exact (tryDirect_lampPos_bank k t b).trans ht

/-- A lamp that acted, at the end of the event: its command has entered the south queue or waits (07, R131; 08, R144). -/
theorem State.LampsActed.ends {g : Lamp → Lamp} {ls : List LampId} (h : s.LampsActed u ls g) (hs : s.slotsMade = [])
    (e : u.Ends t) {k : LampId} (hx : s.lamp k = some x) :
    (k ∉ ls → t.lamp k = some x) ∧
    (k ∈ ls →
      ((g x).cmd = x.cmd → t.lamp k = some (g x)) ∧
      (∀ c, (g x).station = x.station → (g x).cmd = some c →
        ∃ z, t.lamp k = some z ∧ z = { g x with cmd := z.cmd } ∧ u.cmdMade t x z c)) := by
  have noted : lampPos k ∈ u.slotsMade ↔ k ∈ ls ∧ x.cmd = none ∧ (g x).cmd ≠ none := by
    rw [h.slots, hs]
    constructor
    · rintro (none | ⟨l, hl, same, y, hy, made⟩)
      · cases none
      · obtain rfl := lampPos_injective same
        rw [hx] at hy
        exact ⟨hl, Option.some.inj hy ▸ made⟩
    · rintro ⟨hk, made⟩
      exact .inr ⟨k, hk, rfl, x, hx, made⟩
  have lamp := h.lamp k
  rw [hx] at lamp
  rcases e.lamp k with ⟨kept, full⟩ | ⟨y, d, hy, hd, sent, south, made⟩
  · refine ⟨fun out => kept.trans (lamp.trans (if_neg out)), fun hit => ?_⟩
    have acted : u.lamp k = some (g x) := lamp.trans (if_pos hit)
    refine ⟨fun _ => kept.trans acted, fun c _ hc => ⟨g x, kept.trans acted, rfl, .inl ⟨hc, ?_⟩⟩⟩
    by_cases empty : x.cmd = none
    · have made : (g x).cmd ≠ none := by rw [hc]; exact Option.some_ne_none c
      exact .inr (full (noted.mpr ⟨hit, empty, made⟩) _ acted made)
    · exact .inl empty
  · obtain ⟨hit, empty, made⟩ := noted.mp made
    have acted : u.lamp k = some (g x) := lamp.trans (if_pos hit)
    obtain rfl := Option.some.inj (hy.symm.trans acted)
    refine ⟨fun out => absurd hit out, fun _ => ⟨fun same => absurd (same.trans empty) made, fun c station hc => ?_⟩⟩
    obtain rfl := Option.some.inj (hd.symm.trans hc)
    rw [station] at south
    exact ⟨_, sent, rfl, .inr ⟨empty, rfl, south⟩⟩

end LampActs

end Sys2Proof.Machine

namespace Sys2Proof.Machine
open Sys2Proof

set_option Elab.async false

/-! ### A bank changes hands (05, R94; 07, R132) -/

/-- A bank under a new owner: its program abandoned, its tracker reset (03, R58; 06, R105). -/
def Bank.handed (new : Option ChanId) (x : Bank) : Bank :=
  { x with owner := new, running := none, stepTimer := none, wipeDue := false, tracker := Tracker.reset }

/-- The event of a bank's new owner: the lamps installed act, and the bank is judged. -/
def handOver (b : BankId) (before : Bool) (m : State) : State :=
  judgeBank b (forEach (m.installed b) (regovern before) m)

theorem setOwner_changed {u : State} {b : BankId} {new : Option ChanId} (h : (u.bank b).owner ≠ new) :
    setOwner b new u = handOver b (u.bankGoverned b) (u.modBank b (Bank.handed new)) := if_neg h

section HandOver

variable {s t m : State} {b : BankId} {before : Bool} {x y : Lamp} {l : LampId}

theorem State.installed_nodup (s : State) (b : BankId) : (s.installed b).Nodup :=
  (List.nodup_finRange 64).filter _

theorem handOver_lamps (b : BankId) (before : Bool) (m : State) :
    m.lampsOnly (forEach (m.installed b) (regovern before) m) ∧
      m.LampsActed (forEach (m.installed b) (regovern before) m) (m.installed b) (m.regoverned before) := by
  refine lampsActed_of (m.installed_nodup b) (fun k hk => ?_) fun k _ t x only hx => ?_
  · obtain ⟨x, hx, _⟩ := (m.mem_installed b k).mp hk
    exact ⟨x, hx⟩
  · rw [regovern_eq hx]
    obtain ⟨_, _, rfl⟩ := only
    rfl

theorem handOver_acted (b : BankId) (before : Bool) (m : State) :
    m.LampsActed (handOver b before m) (m.installed b) (m.regoverned before) := by
  obtain ⟨_, acted⟩ := handOver_lamps b before m
  obtain ⟨_, _, _, e⟩ := judgeBank_alarmUnitOnly b (forEach (m.installed b) (regovern before) m)
  rw [handOver, e]
  exact ⟨acted.lamp, acted.slots⟩

/-- Beside the lamps the event reaches the alarm unit alone. -/
theorem handOver_rest (b : BankId) (before : Bool) (m : State) :
    ∃ lamps alarms line due slots, handOver b before m = { m with
      lamps := lamps, alarms := alarms, alertLine := line, alertsDue := due, slotsMade := slots } := by
  obtain ⟨⟨_, _, only⟩, _⟩ := handOver_lamps b before m
  obtain ⟨_, _, _, e⟩ := judgeBank_alarmUnitOnly b (forEach (m.installed b) (regovern before) m)
  rw [handOver, e, only]
  exact ⟨_, _, _, _, _, rfl⟩

theorem handOver_notesSound (rest : m.atRest) (b : BankId) (before : Bool) : (handOver b before m).notesSound :=
  (State.notesSound.atRest rest).moves (.judgeBank (.each (fun l _ h => h.regovern _ l) _ .refl) b)

theorem handOver_bankFault (b : BankId) (before : Bool) (m : State) :
    ((handOver b before m).alarm .bankFault b.1).cause = (m.bankWatched b && (m.bank b).state = .faulted) := by
  obtain ⟨⟨_, _, only⟩, _⟩ := handOver_lamps b before m
  rw [handOver, judgeBank_bankFault, only]
  rfl

/-- Between `m` and `t` a bank changed hands and the event ended. -/
structure State.HandedOver (m t : State) (b : BankId) (before : Bool) : Prop where
  ends  : (handOver b before m).Ends t
  rest  : m.atRest
  banks : ∀ c, t.bank c = m.bank c

theorem endEvent_handedOver (rest : m.atRest) (b : BankId) (before : Bool) :
    m.HandedOver (endEvent (handOver b before m)) b before where
  ends := endEvent_ends (handOver_notesSound rest b before)
  rest := rest
  banks c := by
    have lamps : ∀ pos ∈ (handOver b before m).slotsMade, ∃ k, pos = lampPos k := by
      intro pos made
      rw [(handOver_acted b before m).slots, rest.2] at made
      obtain none | ⟨k, _, same, _⟩ := made
      · cases none
      · exact ⟨k, same⟩
    obtain ⟨_, _, _, _, _, e⟩ := handOver_rest b before m
    rw [endEvent_bank (handOver_notesSound rest b before) lamps, e]
    rfl

namespace State.HandedOver

theorem outer (h : m.HandedOver t b before) : t.outer = m.outer := by
  obtain ⟨_, _, _, _, _, e⟩ := handOver_rest b before m
  rw [h.ends.outer, e]
  rfl

theorem channels (h : m.HandedOver t b before) : t.channels = m.channels := by
  obtain ⟨_, _, _, _, _, e⟩ := handOver_rest b before m
  obtain ⟨_, _, _, _, _, ends⟩ := h.ends.frame
  rw [ends, e]

theorem points (h : m.HandedOver t b before) : t.points = m.points := by
  obtain ⟨_, _, _, _, _, e⟩ := handOver_rest b before m
  rw [h.ends.points, e]

theorem north (h : m.HandedOver t b before) : ∃ made, m.areAlerts made ∧ t.north.queue = m.north.queue ++ made := by
  obtain ⟨made, alerts, queue⟩ := h.ends.north
  obtain ⟨_, _, _, _, _, e⟩ := handOver_rest b before m
  rw [e] at alerts queue
  exact ⟨made, alerts, queue⟩

theorem south (h : m.HandedOver t b before) : ∃ made, m.areCommands made ∧ t.south.queue = m.south.queue ++ made := by
  obtain ⟨made, commands, queue⟩ := h.ends.south
  obtain ⟨_, _, _, _, _, e⟩ := handOver_rest b before m
  rw [e] at commands queue
  exact ⟨made, commands, queue⟩

theorem bankFault (h : m.HandedOver t b before) :
    (t.alarm .bankFault b.1).cause = (m.bankWatched b && (m.bank b).state = .faulted) := by
  rw [h.ends.alarm, handOver_bankFault]

/-- A lamp of another bank keeps its record. -/
theorem lamp_other (h : m.HandedOver t b before) (hx : m.lamp l = some x) (other : x.bank ≠ b) :
    t.lamp l = some x := by
  refine ((handOver_acted b before m).ends h.rest.2 h.ends hx).1 fun hl => ?_
  obtain ⟨y, hy, hb⟩ := (m.mem_installed b l).mp hl
  rw [hx] at hy
  exact other (Option.some.inj hy ▸ hb)

/-- An installed lamp after it acted on its governance. -/
theorem lamp (h : m.HandedOver t b before) (hx : m.lamp l = some x) (hb : x.bank = b) :
    ((m.regoverned before x).cmd = x.cmd → t.lamp l = some (m.regoverned before x)) ∧
    (∀ c, (m.regoverned before x).station = x.station → (m.regoverned before x).cmd = some c →
      ∃ z, t.lamp l = some z ∧ z = { m.regoverned before x with cmd := z.cmd } ∧ m.cmdMade t x z c) := by
  obtain ⟨quiet, made⟩ := ((handOver_acted b before m).ends h.rest.2 h.ends hx).2
    ((m.mem_installed b l).mpr ⟨x, hx, hb⟩)
  obtain ⟨_, _, _, _, _, e⟩ := handOver_rest b before m
  refine ⟨quiet, fun c station hc => ?_⟩
  obtain ⟨z, hz, same, cmd⟩ := made c station hc
  exact ⟨z, hz, same, State.cmdMade_congr cmd (by rw [e]) (by rw [e]) rfl rfl⟩

end State.HandedOver

/-! What an installed lamp does, by the governance before and after (07, R132). -/

theorem State.regoverned_same (h : m.bankGoverned x.bank = before) : m.regoverned before x = x := by
  unfold State.regoverned
  rw [h]
  cases before <;> rfl

theorem State.regoverned_loses (h : m.bankGoverned x.bank = false) : m.regoverned true x = x.ungoverned :=
  if_pos ⟨rfl, h⟩

theorem State.regoverned_gains (h : m.bankGoverned x.bank = true) : m.regoverned false x = m.tended x := by
  unfold State.regoverned
  rw [if_neg (fun g => Bool.noConfusion g.1), if_pos ⟨rfl, h⟩]

theorem State.struck_ready {ch : ChanId} (owner : (m.bank y.bank).owner = some ch)
    (ready : (m.chan ch).dormant = false ∧ y.state = .off ∧ y.wanted = true ∧ y.unconfirmed = false ∧
      y.cool ≤ (m.chan ch).get .restrikeLevel) :
    m.struck y = { y with
      state := .striking
      strikeTimer := some (m.now + 1000 * (m.chan ch).get .strikeWindow)
      cmd := some (.strike (m.chan ch).power.code) } := by
  unfold State.struck
  rw [owner]
  exact if_pos ready

theorem State.struck_unready {ch : ChanId} (owner : (m.bank y.bank).owner = some ch)
    (unready : ¬ ((m.chan ch).dormant = false ∧ y.state = .off ∧ y.wanted = true ∧ y.unconfirmed = false ∧
      y.cool ≤ (m.chan ch).get .restrikeLevel)) : m.struck y = y := by
  unfold State.struck
  rw [owner]
  exact if_neg unready

/-- A strike path tried is so from every state that shows the lamp the same channels and the same south port. -/
theorem State.strikeTried_congr {s m t : State} {y z : Lamp} (h : m.strikeTried t y z)
    (owner : (s.bank y.bank).owner = (m.bank y.bank).owner)
    (chan : ∀ ch, (s.chan ch).dormant = (m.chan ch).dormant ∧ (s.chan ch).settings = (m.chan ch).settings ∧
      (s.chan ch).power = (m.chan ch).power)
    (now : s.now = m.now) (address : m.address = s.address) (south : m.south = s.south) : s.strikeTried t y z := by
  have setting : ∀ ch k, (s.chan ch).get k = (m.chan ch).get k := fun ch k =>
    congrArg (fun v => Vector.get v (ChanSetting.idx k)) (chan ch).2.1
  unfold State.strikeTried at h ⊢
  rw [owner]
  cases e : (m.bank y.bank).owner with
  | none => rwa [e] at h
  | some ch =>
    rw [e] at h
    dsimp only at h ⊢
    rw [(chan ch).1, (chan ch).2.2, setting, setting, now]
    split
    · next ready =>
      rw [if_pos ready] at h
      exact ⟨h.1, State.cmdMade_congr h.2 address south rfl rfl⟩
    · next unready =>
      rwa [if_neg unready] at h

/-- A lamp that comes to be governed is put out where it is LIT and unwanted, and else tries the strike path (07, R132). -/
theorem State.HandedOver.lamp_tended {ch : ChanId} (h : m.HandedOver t b false) (hx : m.lamp l = some x) (hb : x.bank = b)
    (owner : (m.bank b).owner = some ch) (governed : (m.chan ch).dormant = false)
    (hy : y = { x with unconfirmed := false }) :
    ∃ z, t.lamp l = some z ∧ (x.state = .lit → x.wanted = false → m.putOut t y z) ∧
      (x.state ≠ .lit ∨ x.wanted = true → m.strikeTried t y z) := by
  have gains : m.regoverned false x = m.tended x := by
    refine State.regoverned_gains ?_
    rw [hb, State.bankGoverned_iff]
    exact ⟨ch, owner, governed⟩
  obtain ⟨quiet, made⟩ := h.lamp hx hb
  rw [gains] at quiet made
  have owner' : (m.bank y.bank).owner = some ch := by
    rw [hy]
    exact hb ▸ owner
  unfold State.tended at quiet made
  by_cases lit : x.state = .lit ∧ x.wanted = false
  · rw [if_pos lit, ← hy] at made
    obtain ⟨z, hz, same, cmd⟩ := made .quench (by rw [hy]; rfl) rfl
    refine ⟨z, hz, fun _ _ => ⟨same, by rw [hy]; exact cmd⟩, fun other => ?_⟩
    rcases other with dark | wanted
    · exact absurd lit.1 dark
    · rw [lit.2] at wanted
      cases wanted
  · rw [if_neg lit, ← hy] at quiet made
    have tried : ∃ z, t.lamp l = some z ∧ m.strikeTried t y z := by
      unfold State.strikeTried
      rw [owner']
      dsimp only
      by_cases ready : (m.chan ch).dormant = false ∧ y.state = .off ∧ y.wanted = true ∧ y.unconfirmed = false ∧
          y.cool ≤ (m.chan ch).get .restrikeLevel
      · rw [State.struck_ready owner' ready] at made
        obtain ⟨z, hz, same, cmd⟩ := made _ (by rw [hy]) rfl
        refine ⟨z, hz, ?_⟩
        rw [if_pos ready]
        exact ⟨same, by rw [hy]; exact cmd⟩
      · rw [State.struck_unready owner' ready] at quiet
        refine ⟨y, quiet (by rw [hy]), ?_⟩
        rw [if_neg ready]
    obtain ⟨z, hz, tried⟩ := tried
    exact ⟨z, hz, fun h1 h2 => absurd ⟨h1, h2⟩ lit, fun _ => tried⟩

end HandOver

end Sys2Proof.Machine

namespace Sys2Proof.Machine
open Sys2Proof

set_option Elab.async false

/-! ### A write of a bank's owner (05, R94; 09, R154, R155) -/

section OwnerWrite

variable {r : Sender} {b : BankId} {v : Half} {new : Option ChanId} {s : State}

theorem ownerRef_of (h : new.elim (v = 0) fun ch => v.toNat = ch.1 + 1) : ownerRef v.toNat = some new := by
  cases new with
  | none =>
    have zero : v = 0 := h
    rw [zero]
    rfl
  | some ch =>
    have code : v.toNat = ch.1 + 1 := h
    rw [ownerRef, code, if_neg (Nat.succ_ne_zero _), Nat.add_sub_cancel, indexOf_val]
    rfl

theorem ownerRoom_iff : s.ownerRoom b new = true ↔ ∀ ch, new = some ch →
    ((List.finRange 12).filter fun c => c ≠ b ∧ (s.bank c).owner = some ch).length < 4 := by
  cases new with
  | none => simp [State.ownerRoom]
  | some ch => simp [State.ownerRoom, State.ownedBanks, allBanks, List.filter_filter]

theorem writeBankRecord_owner (station : Nat) (h : ownerRef v.toNat = some new) :
    writeBankRecord station (BitVec.ofNat 8 b.1) 15 v s =
      takeWrite [s.lockTest station ((s.bank b).owner.toList ++ new.toList), test (s.ownerRoom b new) .duplicate,
          test (decide ((s.bank b).owner = new) || (s.bank b).state.idle) .inUse]
        ((s.bank b).owner.toList ++ new.toList) false (setOwner b new) s := by
  have field : writeBankRecord station (BitVec.ofNat 8 b.1) 15 v s = writeOwner station b v s := by
    rw [writeBankRecord, byteOf_bank, indexOf_val]
    rfl
  rw [field, writeOwner, h]

/-- A write that a test refuses is answered so, and nothing else happens (09, R153). -/
theorem exec_writeOwner_refused {reason : Reason} (hs : s.ready) (h : ownerRef v.toNat = some new)
    (locks : s.holdsLocks r.station ((s.bank b).owner.toList ++ new.toList))
    (refused : [test (s.ownerRoom b new) .duplicate,
      test (decide ((s.bank b).owner = new) || (s.bank b).state.idle) .inUse].findSome? id = some reason) :
    exec (.writeBankRecord r (BitVec.ofNat 8 b.1) 15 v) s =
      .next (s.withReply r 0x03 (Answer.refused reason []).bytes) := by
  have handled : writeBankRecord r.station (BitVec.ofNat 8 b.1) 15 v s = (s, .refused reason []) := by
    rw [writeBankRecord_owner r.station h, takeWrite, lockTest_holds locks]
    have first : ∀ l : List (Option Reason), (none :: l).findSome? id = l.findSome? id := fun _ => rfl
    rw [first, refused]
    rfl
  rw [exec_writeBankRecord hs handled rfl, endEvent_atRest hs.2.2.2]

theorem setOwner_address (b : BankId) (new : Option ChanId) (s : State) : (setOwner b new s).address = s.address := by
  by_cases same : (s.bank b).owner = new
  · rw [setOwner, if_pos same]
  · obtain ⟨_, _, _, _, _, e⟩ := handOver_rest b (s.bankGoverned b) (s.modBank b (Bank.handed new))
    rw [setOwner_changed same, e]
    rfl

/-- A write that passes sets the owner (05, R94). -/
theorem exec_writeOwner (hs : s.ready) (h : ownerRef v.toNat = some new)
    (locks : s.holdsLocks r.station ((s.bank b).owner.toList ++ new.toList)) (room : s.ownerRoom b new = true)
    (idle : (s.bank b).owner = new ∨ (s.bank b).state.idle = true) :
    exec (.writeBankRecord r (BitVec.ofNat 8 b.1) 15 v) s =
      .next ((endEvent (setOwner b new (s.flagsCleared ((s.bank b).owner.toList ++ new.toList)))).withReply r 0x03
        [0]) := by
  have handled : writeBankRecord r.station (BitVec.ofNat 8 b.1) 15 v s =
      (setOwner b new (s.flagsCleared ((s.bank b).owner.toList ++ new.toList)), .done false []) := by
    rw [writeBankRecord_owner r.station h]
    refine takeWrite_passed ?_ _ _ _ s
    simp [lockTest_holds locks, test, room, idle]
  exact exec_writeBankRecord hs handled (setOwner_address b new _)

/-! What the new owner does to a bank, once its profiles' flags are cleared. -/

/-- The state in which the lamps act: the flags cleared, the bank in its new owner's hands. -/
def State.givenTo (s : State) (b : BankId) (new : Option ChanId) (chs : List ChanId) : State :=
  (s.flagsCleared chs).modBank b (Bank.handed new)

variable {chs : List ChanId}

theorem setOwner_given (h : (s.bank b).owner ≠ new) :
    setOwner b new (s.flagsCleared chs) = handOver b (s.bankGoverned b) (s.givenTo b new chs) := by
  rw [← s.flagsCleared_bankGoverned chs b]
  exact setOwner_changed (u := s.flagsCleared chs) h

theorem State.givenTo_bank : (s.givenTo b new chs).bank b = (s.bank b).handed new := State.modBank_bank_self _ _ _

theorem State.givenTo_keeps {α : Type} (f : Channel → α) (c : ChanId)
    (hf : ∀ x : Channel, f { x with profileValid := false } = f x := by intro _; rfl) :
    f ((s.givenTo b new chs).chan c) = f (s.chan c) :=
  s.flagsCleared_keeps f chs c hf

theorem State.givenTo_bankGoverned :
    (s.givenTo b new chs).bankGoverned b = true ↔ ∃ ch, new = some ch ∧ (s.chan ch).dormant = false := by
  have dormant : ∀ c, ((s.givenTo b new chs).chan c).dormant = (s.chan c).dormant := fun c =>
    State.givenTo_keeps Channel.dormant c
  rw [State.bankGoverned_iff, State.givenTo_bank]
  simp only [dormant]
  rfl

theorem State.givenTo_bankWatched :
    (s.givenTo b new chs).bankWatched b = true ↔ ∃ ch, new = some ch ∧ (s.chan ch).mode ≠ .unarmed := by
  have mode : ∀ c, ((s.givenTo b new chs).chan c).mode = (s.chan c).mode := fun c => State.givenTo_keeps Channel.mode c
  rw [State.bankWatched, State.givenTo_bank]
  cases new <;> simp [Bank.handed, mode]

/-- The same, the strike path of the lamp read from the state before the write (07, R132). -/
theorem State.HandedOver.lamp_given {t : State} {l : LampId} {x : Lamp} {ch : ChanId}
    (h : (s.givenTo b (some ch) chs).HandedOver t b false) (hx : s.lamp l = some x) (hb : x.bank = b)
    (governed : (s.chan ch).dormant = false) :
    ∃ z, t.lamp l = some z ∧ ∀ y, y = { x with unconfirmed := false } →
      (x.state = .lit → x.wanted = false → s.putOut t y z) ∧
      (x.state ≠ .lit ∨ x.wanted = true → (s.modBank b fun c => { c with owner := some ch }).strikeTried t y z) := by
  have dormant : ∀ c, ((s.givenTo b (some ch) chs).chan c).dormant = (s.chan c).dormant := fun c =>
    State.givenTo_keeps Channel.dormant c
  obtain ⟨z, hz, putOut, tried⟩ := h.lamp_tended (ch := ch) hx hb (by rw [State.givenTo_bank]; rfl)
    ((dormant ch).trans governed) rfl
  refine ⟨z, hz, fun y hy => ⟨fun lit unwanted => ?_, fun other => ?_⟩⟩
  · rw [hy]
    exact putOut lit unwanted
  · rw [hy]
    refine State.strikeTried_congr (tried other) ?_ (fun c => ⟨?_, ?_, ?_⟩) rfl rfl rfl
    · show ((s.modBank b fun c => { c with owner := some ch }).bank x.bank).owner =
        ((s.givenTo b (some ch) chs).bank x.bank).owner
      rw [hb, State.givenTo_bank, State.modBank_bank_self]
      rfl
    · exact (dormant c).symm
    · exact (State.givenTo_keeps (s := s) (b := b) (new := some ch) (chs := chs) Channel.settings c).symm
    · exact (State.givenTo_keeps (s := s) (b := b) (new := some ch) (chs := chs) Channel.power c).symm

end OwnerWrite

theorem BankState.idle_iff (x : BankState) : x.idle = true ↔ x = .dark ∨ x = .faulted ∨ x = .locked := by
  cases x <;> decide

theorem Lamp.ungoverned_eq (x : Lamp) : x.ungoverned = { x with
    state := if x.state = .striking ∨ x.state = .retryWait ∨ x.state = .longWait then .off else x.state
    strikeTimer := none
    waitTimer := none
    clearTimer := none } := by
  unfold Lamp.ungoverned
  cases x.state <;> rfl

/-- Settles O39: the tests decide a refusal; else the bank is handed over, each installed lamp acting for itself on its
governance before and after. -/
theorem ownerIsWritten : Obligations.OwnerIsWritten := by
  intro r b v new chs s u hs code hchs locks hu
  have ref := ownerRef_of code
  subst hchs
  refine ⟨fun ⟨ch, named, full⟩ => ?_, fun few => ?_⟩
  · have noRoom : s.ownerRoom b new = false := by
      refine Bool.eq_false_iff.mpr fun room => ?_
      exact Nat.not_lt.mpr full (ownerRoom_iff.mp room ch named)
    exact exec_writeOwner_refused (reason := .duplicate) hs ref locks (by rw [noRoom]; rfl)
  have room := ownerRoom_iff.mpr few
  refine ⟨fun same => ?_, fun changed => ⟨fun notDark notFaulted notLocked => ?_, fun idle => ?_⟩⟩
  · have unchanged : setOwner b new u = u := by
      rw [hu]
      exact if_pos same
    have rest : u.atRest := hu ▸ hs.flagsCleared_atRest _
    rw [exec_writeOwner hs ref locks room (.inl same), ← hu, unchanged, endEvent_atRest rest]
  · have busy : (s.bank b).state.idle = false := by
      refine Bool.eq_false_iff.mpr fun idle => ?_
      rcases (BankState.idle_iff _).mp idle with e | e | e
      · exact notDark e
      · exact notFaulted e
      · exact notLocked e
    exact exec_writeOwner_refused (reason := .inUse) hs ref locks (by rw [room, busy, decide_eq_false changed]; rfl)
  · have run := exec_writeOwner hs ref locks room (.inr ((BankState.idle_iff _).mpr idle))
    rw [setOwner_given changed] at run
    have handed := endEvent_handedOver (m := s.givenTo b new ((s.bank b).owner.toList ++ new.toList))
      (hs.2.2.2.of_eq rfl rfl) b (s.bankGoverned b)
    obtain ⟨t, ht⟩ : ∃ t, t = endEvent (handOver b (s.bankGoverned b)
      (s.givenTo b new ((s.bank b).owner.toList ++ new.toList))) := ⟨_, rfl⟩
    rw [← ht] at handed
    have before : ∀ l x, s.lamp l = some x → x.bank = b → s.lampGoverned l = s.bankGoverned b := by
      intro l x hx hb
      rw [State.lampGoverned, hx, ← hb]
    refine ⟨t, ht ▸ run, handed.outer, hu ▸ handed.channels, handed.points, fun c other => ?_, ?_, handed.north,
      handed.south, fun l x hx => ⟨handed.lamp_other hx, fun hb same => ?_, fun hb free ch named governed => ?_,
        fun hb governed free => ?_⟩, ?_⟩
    · rw [handed.banks, State.givenTo, State.modBank_bank, if_neg other]
      rfl
    · rw [handed.banks, State.givenTo_bank]
      rfl
    · have unmoved := State.regoverned_same (x := x) (before := s.bankGoverned b)
        (m := s.givenTo b new ((s.bank b).owner.toList ++ new.toList))
        (by rw [Bool.eq_iff_iff, hb, State.givenTo_bankGoverned, ← same, before l x hx hb])
      have lamp := (handed.lamp hx hb).1
      rw [unmoved] at lamp
      exact lamp rfl
    · subst named
      rw [← before l x hx hb, free] at handed
      exact handed.lamp_given hx hb governed
    · rw [← before l x hx hb, governed] at handed
      have lost : (s.givenTo b new ((s.bank b).owner.toList ++ new.toList)).bankGoverned x.bank = false := by
        refine Bool.eq_false_iff.mpr fun still => ?_
        rw [hb, State.givenTo_bankGoverned] at still
        obtain ⟨ch, named, awake⟩ := still
        rw [free ch named] at awake
        cases awake
      have lamp := (handed.lamp hx hb).1
      rw [State.regoverned_loses lost, Lamp.ungoverned_eq] at lamp
      exact lamp rfl
    · rw [handed.bankFault, Bool.and_eq_true, State.givenTo_bankWatched, State.givenTo_bank, decide_eq_true_iff, and_comm]
      rfl

end Sys2Proof.Machine

namespace Sys2Proof.Machine
open Sys2Proof

/-! ### The rate limiter (04, R62 to R66) -/

/-- A clamped value lies in its range, but for an upper bound below the lower one. -/
theorem clampInt_mem {x lo hi : Int} (h : lo ≤ hi) : lo ≤ clampInt x lo hi ∧ clampInt x lo hi ≤ hi := by
  unfold clampInt
  split
  · omega
  · split <;> omega

/-- A clamped target is not negative where both its bounds are not. -/
theorem clampInt_nonneg {x lo hi : Int} (hlo : 0 ≤ lo) (hhi : 0 ≤ hi) : 0 ≤ clampInt x lo hi := by
  unfold clampInt
  split
  · exact hlo
  · split <;> omega

section RateLimit

variable {praw : Int} {pd down up : Nat}

/-- A limited change lies between 0 and the whole change, and is the whole change within the limits. -/
theorem clampInt_change (d : Int) (down up : Nat) :
    min d 0 ≤ clampInt d (-(down : Int)) up ∧ clampInt d (-(down : Int)) up ≤ max d 0 ∧
      (-(down : Int) ≤ d → d ≤ up → clampInt d (-(down : Int)) up = d) := by
  unfold clampInt
  split
  · omega
  · split <;> omega

/-- Toward a target that is not negative the limited demand loses nothing in `toNat` (04, R63). -/
theorem rateLimit_cast (h : 0 ≤ praw) :
    (rateLimit pd praw down up : Int) = pd + clampInt (praw - pd) (-(down : Int)) up := by
  have change := clampInt_change (praw - pd) down up
  unfold rateLimit
  omega

/-- The limited demand lies between the old demand and the target, and reaches a target within the limits (04, R63). -/
theorem rateLimit_between (h : 0 ≤ praw) :
    min praw pd ≤ rateLimit pd praw down up ∧ (rateLimit pd praw down up : Int) ≤ max praw pd ∧
      (-(down : Int) ≤ praw - pd → praw - pd ≤ up → (rateLimit pd praw down up : Int) = praw) := by
  have change := clampInt_change (praw - pd) down up
  rw [rateLimit_cast h]
  omega

end RateLimit

/-- In AUTO and in MANUAL the demand is the rate-limited way to the target of the mode (04, R62 to R64). -/
theorem Channel.nextDemand_limited {c : Channel} {e praw : Int}
    (h : (c.mode = .auto ∧ praw = clampInt (c.power.pd +
          (((c.get .kp : Int) * (e - c.power.ePrev) + (c.get .ki : Int) * e).tdiv 256)) (c.get .pmin) 1000) ∨
        (c.mode = .manual ∧ praw = clampInt c.manualValue (c.get .pmin) 1000)) :
    c.nextDemand e = rateLimit c.power.pd praw c.rampDown (c.get .rampUp) := by
  unfold Channel.nextDemand
  rcases h with ⟨mode, rfl⟩ | ⟨mode, rfl⟩
  · rw [mode]
    rfl
  · rw [mode]

/-- The target of a mode is clamped to Pmin and 1000 (04, R62, R64). -/
theorem Channel.target_clamped {c : Channel} {praw : Int} {x y : Int}
    (h : (c.mode = .auto ∧ praw = clampInt x (c.get .pmin) 1000) ∨
        (c.mode = .manual ∧ praw = clampInt y (c.get .pmin) 1000)) :
    0 ≤ praw ∧ (c.get .pmin ≤ 1000 → (c.get .pmin : Int) ≤ praw ∧ praw ≤ 1000) := by
  have target : ∀ x : Int, 0 ≤ clampInt x (c.get .pmin) 1000 ∧
      (c.get .pmin ≤ 1000 → (c.get .pmin : Int) ≤ clampInt x (c.get .pmin) 1000 ∧ clampInt x (c.get .pmin) 1000 ≤ 1000) :=
    fun x => ⟨clampInt_nonneg (Int.natCast_nonneg _) (by decide), fun h => clampInt_mem (by omega)⟩
  rcases h with ⟨_, rfl⟩ | ⟨_, rfl⟩ <;> exact target _

/-- Settles O20: AUTO and MANUAL share the rate limiter, whose target is not negative. -/
theorem demandMovesWithinItsRateLimits : Obligations.DemandMovesWithinItsRateLimits := by
  intro c e praw up down pmin hup hdown hpmin
  subst hup hpmin
  have ramp : c.rampDown = down := hdown.symm
  refine ⟨fun mode => ?_, fun mode => ?_, fun target => ?_⟩
  · unfold Channel.nextDemand
    rw [mode]
  · unfold Channel.nextDemand
    rw [mode]
  · obtain ⟨nonneg, within⟩ := Channel.target_clamped target
    rw [Channel.nextDemand_limited target, ramp]
    obtain ⟨low, high, reaches⟩ := rateLimit_between (pd := c.power.pd) (down := down) (up := c.get .rampUp) nonneg
    exact ⟨rateLimit_cast nonneg, reaches, low, high, within, fun hlo hhi => by omega⟩

end Sys2Proof.Machine

namespace Sys2Proof.Machine
open Sys2Proof

/-! ### Channel settings (09, R151, R153, R156) -/

/-- The settings whose write does more than store a value (01, R19; 04, R72; 07, R130). -/
def actingSettings : List ChanSetting :=
  [.pulseVolume, .pmin, .firstSetRetries, .runSetRetries, .maxSets]

/-- The settings whose write stores the clamped value and does nothing else, by number and range (01 Table 1-2, 02 Table
2-6, 04 Table 4-2, 05 Table 5-2, 07 Table 7-3, 10 Table 10-3). -/
def plainSettings : List (Nat × Nat × Nat) :=
  [(1, 10, 2000), (2, 1, 30000), (3, 1, 30000), (4, 1, 30000), (5, 0, 1000), (6, 1, 255), (7, 200, 5000),
    (9, 0, 3600), (10, 0, 255), (11, 0, 255), (12, 1, 200), (15, 1, 255), (16, 1, 255), (17, 100, 1000),
    (18, 0, 4), (19, 1, 60), (20, 1, 600), (21, 2, 32), (26, 60, 3600), (27, 0, 1000), (28, 0, 1023),
    (29, 1, 1000), (30, 1, 8), (31, 0, 1000), (32, 20, 1000), (33, 20, 1000)]

theorem plainSettings_range : ∀ t ∈ plainSettings, ∀ x ∈ chanSettingOfCode t.1,
    x.range.lo = t.2.1 ∧ x.range.hi = t.2.2 ∧ x ∉ actingSettings ∧ enumeratedSetting x = false := by
  decide

theorem chanSettingActs_plain {x : ChanSetting} (h : x ∉ actingSettings) (ch : ChanId) (old v : Nat) (s : State) :
    chanSettingActs ch x old v s = s := by
  unfold chanSettingActs
  split
  case h_6 => rfl
  all_goals exact absurd (by decide) h

/-- The retry limits, by number and range (07, Table 7-3). -/
theorem retryLimits_range : ∀ t ∈ [(22, 1, 4), (23, 1, 4), (24, 1, 15)], ∀ x ∈ chanSettingOfCode t.1,
    x.range.lo = t.2.1 ∧ x.range.hi = t.2.2 ∧ enumeratedSetting x = false ∧
      (x = .firstSetRetries ∧ t.1 = 22 ∨ x = .runSetRetries ∧ t.1 = 23 ∨ x = .maxSets ∧ t.1 = 24) := by
  decide

section ChannelWrite

variable {r : Sender} {ch : ChanId} {n : Byte} {v : Half} {x : ChanSetting} {s t : State}

/-- A write that passes the tests clears the profile-valid flag and stores the clamped value (09, R151, R153, R156). -/
theorem writeChannelSetting_taken (hl : (s.chan ch).holder = some r.station) (hx : chanSettingOfCode n.toNat = some x)
    (valid : enumeratedSetting x = false ∨ v.toNat ≤ 1) :
    writeChannelSetting (stationOf r.src) (BitVec.ofNat 8 ch.1) n v s =
      (storeChanSetting ch x (x.range.clamp v.toNat) (s.modChan ch fun c => { c with profileValid := false }),
        .done (x.range.outside v.toNat) []) := by
  have passes : (!enumeratedSetting x || decide (v.toNat ≤ 1)) = true := by
    rcases valid with h | h <;> simp [h]
  simp only [writeChannelSetting, byteOf_chan, indexOf_val, hx, takeWrite, stationOf_src, lockTest_holder hl, test, passes,
    if_true, List.findSome?_cons, List.findSome?_nil, id, clearFlags_one]

/-- The answer to a taken write (09, R151). -/
theorem exec_writeChannelSetting (hs : s.ready) (hl : (s.chan ch).holder = some r.station)
    (hx : chanSettingOfCode n.toNat = some x) (valid : enumeratedSetting x = false ∨ v.toNat ≤ 1) {lo hi : Nat}
    (range : x.range.lo = lo ∧ x.range.hi = hi)
    (stored : storeChanSetting ch x (clampNat v.toNat lo hi) (s.modChan ch fun c => { c with profileValid := false }) = t)
    (rest : t.atRest) (address : t.address = s.address) :
    exec (.writeChannelSetting r (BitVec.ofNat 8 ch.1) n v) s = .next (t.withReply r 0x03 [clampMark v.toNat lo hi]) := by
  obtain ⟨rfl, rfl⟩ := range
  have taken := writeChannelSetting_taken hl hx valid
  rw [show x.range.clamp v.toNat = clampNat v.toNat x.range.lo x.range.hi from rfl, stored] at taken
  refine congrArg Host.Outcome.next ((requestRow_handled r _ _ hs taken rest address).trans ?_)
  rw [clampMark_eq]
  cases x.range.outside v.toNat <;> rfl

/-- An enumerated setting refuses a value that names nothing (09, R153; 11, R183). -/
theorem exec_writeChannelSetting_undefined (hs : s.ready) (hx : chanSettingOfCode n.toNat = some x)
    (enumerated : enumeratedSetting x = true) (hv : 2 ≤ v.toNat) :
    exec (.writeChannelSetting r (BitVec.ofNat 8 ch.1) n v) s = .next (s.withReply r 0x03 [2, 2]) := by
  have refused : writeChannelSetting (stationOf r.src) (BitVec.ofNat 8 ch.1) n v s = refuse .badReference s := by
    simp only [writeChannelSetting, byteOf_chan, indexOf_val, hx, takeWrite, test, enumerated, Bool.not_true,
      Bool.false_or, decide_eq_false (Nat.not_le.mpr hv), Bool.false_eq_true, if_false, List.findSome?_cons, id]
  exact congrArg Host.Outcome.next (requestRow_unchanged r _ _ hs refused)

/-- The stored value and the cleared flag. -/
theorem storeChanSetting_cleared (w : Nat) :
    storeChanSetting ch x w (s.modChan ch fun c => { c with profileValid := false }) =
      chanSettingActs ch x ((s.chan ch).get x) w
        (s.modChan ch fun c => { c with settings := put c.settings x.idx w, profileValid := false }) := by
  rw [storeChanSetting, State.modChan_modChan, State.modChan_chan_self]
  rfl

/-- A plain setting is stored, and that is all. -/
theorem storeChanSetting_plain (h : x ∉ actingSettings) (w : Nat) :
    storeChanSetting ch x w (s.modChan ch fun c => { c with profileValid := false }) =
      s.modChan ch fun c => { c with settings := put c.settings x.idx w, profileValid := false } := by
  rw [storeChanSetting_cleared, chanSettingActs_plain h]

/-- Lowered retry limits adjust the lamps of the channel's banks, each by itself (07, R130). -/
theorem storeChanSetting_retries (h : x = .firstSetRetries ∨ x = .runSetRetries ∨ x = .maxSets) (w : Nat) :
    storeChanSetting ch x w (s.modChan ch fun c => { c with profileValid := false }) =
      { s.modChan ch (fun c => { c with settings := put c.settings x.idx w, profileValid := false }) with
        lamps := build fun l => (s.lamp l).map fun y =>
          if (s.bank y.bank).owner = some ch then y.adjust x ((s.chan ch).get x) w else y } := by
  rw [storeChanSetting_cleared]
  have acts : ∀ u : State, chanSettingActs ch x ((s.chan ch).get x) w u =
      forEach (u.channelLamps ch) (fun l u => u.modLamp l (Lamp.adjust x ((s.chan ch).get x) w)) u := by
    rcases h with rfl | rfl | rfl <;> exact fun _ => rfl
  rw [acts, forEach_channelLamps]
  rfl

/-- What a lowered retry limit makes of a lamp, by the setting's number (07, R130). -/
theorem Lamp.adjust_eq {n : Nat}
    (h : x = .firstSetRetries ∧ n = 22 ∨ x = .runSetRetries ∧ n = 23 ∨ x = .maxSets ∧ n = 24) (old w : Nat) (y : Lamp) :
    y.adjust x old w = if w < old then
        (if n = 24 then (if w < y.sets then { y with sets := w } else y)
        else if (n = 22 ↔ y.sets = 0) ∧ w ≤ y.attempts then { y with attempts := w - 1 } else y)
      else y := by
  rcases h with ⟨rfl, rfl⟩ | ⟨rfl, rfl⟩ | ⟨rfl, rfl⟩ <;> by_cases lowered : w < old <;> simp [Lamp.adjust, lowered]

end ChannelWrite

/-- Settles O35: a taken write stores the clamped value under a cleared flag; what it does besides is nothing, Pmin's
raise of the demand, or the adjustment of the channel's lamps. -/
theorem channelSettingIsWritten : Obligations.ChannelSettingIsWritten := by
  intro r ch n v x lo hi w s hs hl hx hw
  subst hw
  have rest : s.atRest := hs.2.2.2
  refine ⟨fun plain => ?_, fun named hv => ?_, fun named hv => ?_, fun named hlo hhi => ?_, fun retry => ?_⟩
  · obtain ⟨lo', hi', acts, free⟩ := plainSettings_range _ plain x hx
    exact exec_writeChannelSetting hs hl hx (.inl free) ⟨lo', hi'⟩ (storeChanSetting_plain acts _) (rest.of_eq rfl rfl) rfl
  · have range : x.range.lo = 0 ∧ x.range.hi = 1 ∧ x ∉ actingSettings := by
      rcases named with rfl | rfl <;> obtain rfl := Option.some.inj hx <;> decide
    have inside := clampNat_inside (Nat.zero_le v.toNat) hv
    have written := exec_writeChannelSetting hs hl hx (.inr hv) ⟨range.1, range.2.1⟩ (storeChanSetting_plain range.2.2 _)
      (rest.of_eq rfl rfl) rfl
    rw [inside, show clampMark v.toNat 0 1 = 0 from if_neg (by omega)] at written
    exact written
  · refine exec_writeChannelSetting_undefined hs hx ?_ hv
    rcases named with rfl | rfl <;> obtain rfl := Option.some.inj hx <;> rfl
  · subst named hlo hhi
    obtain rfl := Option.some.inj hx
    refine exec_writeChannelSetting hs hl hx (.inl rfl) ⟨rfl, rfl⟩ ?_ (rest.of_eq rfl rfl) rfl
    rw [storeChanSetting_cleared, chanSettingActs, State.modChan_modChan]
    rfl
  · obtain ⟨lo', hi', free, limit⟩ := retryLimits_range _ retry x hx
    refine exec_writeChannelSetting hs hl hx (.inl free) ⟨lo', hi'⟩ ?_ (rest.of_eq rfl rfl) rfl
    rw [storeChanSetting_retries (by tauto)]
    have number : n = 24 ↔ n.toNat = 24 := by rw [← BitVec.toNat_inj]; rfl
    have number' : n = 22 ↔ n.toNat = 22 := by rw [← BitVec.toNat_inj]; rfl
    simp only [Lamp.adjust_eq limit, number, number', ite_and]

end Sys2Proof.Machine

namespace Sys2Proof.Machine
open Sys2Proof

/-! ### SET MODE takes the mode (05, R80; 09, R161) -/

/-- A channel that changes its mode: its pending count and its counters become 0, a manual lease stops (05, R80). -/
def Channel.changed (m : Mode) (c : Channel) : Channel :=
  { c with
    mode := m
    pendingUp := 0
    manualLease := if c.mode = .manual then none else c.manualLease
    upCount := 0
    downCount := 0 }

/-- A channel that takes a mode. -/
def Channel.moded (m : Mode) (c : Channel) : Channel :=
  if c.mode = m then c else c.changed m

/-- A channel that takes, for MANUAL, its value, bank count and lease in seconds (05, R80). -/
def Channel.given (m : Mode) (value count lease now : Nat) (c : Channel) : Channel :=
  if m = .manual then
    { c with manualValue := value, manualCount := count, manualLease := some (now + 1000 * lease) }
  else c

/-- The state in which a taken SET MODE begins its review. -/
def modeTaken (ch : ChanId) (m : Mode) (value count lease : Nat) (s : State) : State :=
  let u := if (s.chan ch).mode = m then s else changeMode ch m s
  if m = .manual then setManual ch value count lease u else u

theorem takeMode_eq (ch : ChanId) (m : Mode) (value count lease : Nat) (s : State) :
    takeMode ch m value count lease s = review ch (modeTaken ch m value count lease s) := rfl

theorem Channel.moded_keeps {α : Type} (f : Channel → α) (m : Mode) (c : Channel)
    (hf : ∀ x : Channel, f (x.changed m) = f x := by intro _; rfl) : f (c.moded m) = f c := by
  unfold Channel.moded
  split
  · rfl
  · exact hf c

theorem Channel.given_keeps {α : Type} (f : Channel → α) (m : Mode) (value count lease now : Nat) (c : Channel)
    (hf : ∀ (x : Channel) (v n : Nat) (l : Timer), f { x with manualValue := v, manualCount := n, manualLease := l } = f x := by
      intro _ _ _ _; rfl) : f (c.given m value count lease now) = f c := by
  unfold Channel.given
  split
  · exact hf c _ _ _
  · rfl

section ModeTaken

variable {ch : ChanId} {m : Mode} {value count lease : Nat} {s : State}

/-- A change of mode differs from one update of the channel by the report of STAGE_EXHAUSTED alone. -/
theorem changeMode_alarmUnitOnly (h : (s.chan ch).mode ≠ m) :
    (s.modChan ch (Channel.moded m)).alarmUnitOnly (changeMode ch m s) := by
  have base : s.modChan ch (Channel.moded m) = zeroCounters ch (s.modChan ch fun c => { c with
      mode := m, pendingUp := 0, manualLease := if (s.chan ch).mode = .manual then none else c.manualLease }) := by
    rw [zeroCounters, State.modChan_modChan]
    exact modChan_congr (if_neg h)
  rw [base]
  exact report_alarmUnitOnly _ _ _ _

theorem moded_alarmUnitOnly : (s.modChan ch (Channel.moded m)).alarmUnitOnly
    (if (s.chan ch).mode = m then s else changeMode ch m s) := by
  split
  · next h =>
    have same : s.modChan ch (Channel.moded m) = s :=
      (modChan_congr (f := Channel.moded m) (g := fun c => c) (if_pos h)).trans (s.modChan_id ch)
    rw [same]
    exact .refl s
  · next h => exact changeMode_alarmUnitOnly h

theorem modeTaken_alarmUnitOnly :
    (s.modChan ch fun c => (c.moded m).given m value count lease s.now).alarmUnitOnly
      (modeTaken ch m value count lease s) := by
  have moded := moded_alarmUnitOnly (s := s) (ch := ch) (m := m)
  unfold modeTaken
  dsimp only
  by_cases manual : m = .manual
  · have given := moded.modChan ch (Channel.given m value count lease s.now)
    rw [State.modChan_modChan] at given
    have set : setManual ch value count lease (if (s.chan ch).mode = m then s else changeMode ch m s) =
        (if (s.chan ch).mode = m then s else changeMode ch m s).modChan ch (Channel.given m value count lease s.now) := by
      refine modChan_congr ?_
      rw [Channel.given, if_pos manual, State.timer, moded.now]
      rfl
    rw [if_pos manual, set]
    exact given
  · have plain : (s.modChan ch fun c => (c.moded m).given m value count lease s.now) = s.modChan ch (Channel.moded m) :=
      modChan_congr (if_neg manual)
    rw [if_neg manual, plain]
    exact moded

theorem modeTaken_notesSound (h : s.notesSound) : (modeTaken ch m value count lease s).notesSound := by
  have moded : (if (s.chan ch).mode = m then s else changeMode ch m s).notesSound := by
    split
    · exact h
    · exact ((h.chan ch _).chan ch _).report ch.isLt false
  unfold modeTaken
  dsimp only
  split
  · exact moded.chan ch _
  · exact moded

/-- A SET MODE naming the mode the channel is in gives MANUAL its items, and nothing else (05, R80). -/
theorem modeTaken_same (h : (s.chan ch).mode = m) : modeTaken ch m value count lease s =
    s.modChan ch (Channel.given m value count lease s.now) := by
  unfold modeTaken
  dsimp only
  rw [if_pos h]
  split
  · next manual => exact modChan_congr (if_pos manual).symm
  · next plain => exact ((modChan_congr (g := fun c => c) (if_neg plain)).trans (s.modChan_id ch)).symm

theorem takeMode_stagingOnly : s.stagingOnly (takeMode ch m value count lease s) :=
  (modChan_stagingOnly ch _ s).trans (modeTaken_alarmUnitOnly.staging.trans (review_stagingOnly ch _))

/-- The answer to SET MODE of an armed channel naming an armed mode, CLAMPED for MANUAL only (09, R151, R161). -/
theorem exec_setMode {r : Sender} {mb n : Byte} {v l : Half} (hs : s.ready) (armed : (s.chan ch).mode.armed = true)
    (hm : mb = 1 ∧ m = .auto ∨ mb = 2 ∧ m = .manual ∨ mb = 3 ∧ m = .full ∨ mb = 4 ∧ m = .standdown) :
    exec (.setMode r (BitVec.ofNat 8 ch.1) mb v n l) s = .next
      ((endEvent (takeMode ch m (clampNat v.toNat 0 1000) (clampNat n.toNat 0 4) (clampNat l.toNat 10 3600) s)).withReply
        r 0x06 [if m = .manual then clampMark v.toNat 0 1000 ||| clampMark n.toNat 0 4 ||| clampMark l.toNat 10 3600
          else 0]) := by
  have named : mb ≠ unarmByte ∧ armedModeOf mb = some m := by
    rcases hm with ⟨rfl, rfl⟩ | ⟨rfl, rfl⟩ | ⟨rfl, rfl⟩ | ⟨rfl, rfl⟩ <;> decide
  have handled : handleSetMode (BitVec.ofNat 8 ch.1) mb v n l s =
      (takeMode ch m (clampNat v.toNat 0 1000) (clampNat n.toNat 0 4) (clampNat l.toNat 10 3600) s,
        .done (m = .manual && (manualValueRange.outside v.toNat || manualCountRange.outside n.toNat ||
          manualLeaseRange.outside l.toNat)) []) := by
    rw [handleSetMode, if_neg named.1, named.2]
    dsimp only
    rw [handleArmedMode, forChannel_ofNat]
    exact if_pos armed
  have address : (takeMode ch m (clampNat v.toNat 0 1000) (clampNat n.toNat 0 4) (clampNat l.toNat 10 3600) s).address =
      s.address := congrArg Outer.address takeMode_stagingOnly.event.outer
  refine congrArg Host.Outcome.next ((requestRow_event r _ _ hs handled address).trans ?_)
  have mark : (Answer.done (m = .manual && (manualValueRange.outside v.toNat || manualCountRange.outside n.toNat ||
      manualLeaseRange.outside l.toNat)) []).bytes = [if m = .manual then
        clampMark v.toNat 0 1000 ||| clampMark n.toNat 0 4 ||| clampMark l.toNat 10 3600 else 0] := by
    rw [show clampMark v.toNat 0 1000 = _ from clampMark_eq v.toNat manualValueRange,
      show clampMark n.toNat 0 4 = _ from clampMark_eq n.toNat manualCountRange,
      show clampMark l.toNat 10 3600 = _ from clampMark_eq l.toNat manualLeaseRange]
    by_cases manual : m = .manual
    · rw [if_pos manual, decide_eq_true manual, Bool.true_and]
      cases manualValueRange.outside v.toNat <;> cases manualCountRange.outside n.toNat <;>
        cases manualLeaseRange.outside l.toNat <;> rfl
    · rw [if_neg manual, decide_eq_false manual, Bool.false_and]
      rfl
  rw [mark]
  rfl

end ModeTaken

/-! ### What a review leaves of its channel (05, R88 to R93) -/

section ReviewKeeps

variable {ch : ChanId} {s t : State}

/-- Stage actions that are a chain of stage actions of every channel move of their own channel the list alone. -/
theorem butList_of_stages (h : ∀ d : ChanId, s.stages d t) : (t.chan ch).butList = (s.chan ch).butList := by
  obtain ⟨d, hd⟩ : ∃ d : ChanId, ch ≠ d := ⟨if ch = 0 then 1 else 0, by split <;> simp [*]⟩
  exact (h d).butList hd

/-- A stage-up of steps 2 and 3 leaves the pending count. -/
theorem stageUpIf_pendingUp (called : Bool) : ((stageUpIf ch called s).chan ch).pendingUp = (s.chan ch).pendingUp := by
  have up := butList_of_stages (ch := ch) fun _ => State.stages.stageUp (.refl (s := s)) ch
  unfold stageUpIf
  split
  · rw [zeroCounters, State.modChan_chan_self]
    have kept := Channel.of_butList Channel.pendingUp (fun _ => rfl) up
    exact kept
  · rfl

/-- An AUTO review without pending requests leaves none (05, R92). -/
theorem autoSteps_pendingUp (h : (s.chan ch).pendingUp = 0) : ((autoSteps ch s).chan ch).pendingUp = 0 := by
  have idle : servePending ch 12 s = s := if_neg fun hp => absurd hp.1 (by omega)
  unfold autoSteps
  rw [idle]
  extract_lets served floor full
  have none : (full.chan ch).pendingUp = 0 := by rw [stageUpIf_pendingUp, stageUpIf_pendingUp, h]
  split
  · have down := butList_of_stages (ch := ch) fun _ =>
      State.stages.stageDown (.refl (s := full.modChan ch fun c => { c with pendingUp := 0 })) ch
    rw [zeroCounters, State.modChan_chan_self]
    have kept := Channel.of_butList Channel.pendingUp (fun _ => rfl) down
    rw [State.modChan_chan_self] at kept
    exact kept
  · exact none

theorem review_pendingUp (h : (s.chan ch).pendingUp = 0) : ((review ch s).chan ch).pendingUp = 0 := by
  by_cases auto : (s.chan ch).mode ≠ .auto ∨ (s.chan ch).adoption ≠ none
  · have kept := butList_of_stages (ch := ch) fun _ => State.stages.reviewOther (.refl (s := s)) ch auto
    exact (Channel.of_butList Channel.pendingUp (fun _ => rfl) kept).trans h
  · rw [not_or, not_not, not_not] at auto
    rw [review_auto auto.1 auto.2, report_chan]
    exact autoSteps_pendingUp h

end ReviewKeeps

/-- From rest, an event of channels, banks and the alarm unit sends ALERT frames and moves nothing else. -/
theorem State.stagingOnly.ends {s v : State} (h : s.stagingOnly v) (hs : s.atRest) (hv : v.notesSound) :
    (endEvent v).outer = s.outer ∧ (endEvent v).points = s.points ∧ (endEvent v).lamps = s.lamps ∧
      (endEvent v).south = s.south ∧ ∃ made, s.areAlerts made ∧ (endEvent v).north.queue = s.north.queue ++ made := by
  have ends := endEvent_ends hv
  obtain ⟨lamps, slots⟩ := h.lamps
  obtain ⟨lampsEnd, southEnd⟩ := ends.still (slots.trans hs.2)
  have south : v.south = s.south := by
    obtain ⟨_, _, _, _, _, rfl⟩ := h
    rfl
  exact ⟨ends.outer.trans h.event.outer, ends.points.trans h.event.points, lampsEnd.trans lamps, southEnd.trans south,
    (h.event.sends ends).1⟩

/-- The state after a taken SET MODE, but for the staging (05, R80; 04, R67). -/
theorem takeMode_ends {ch : ChanId} {m : Mode} {value count lease : Nat} {s t : State} (hs : s.atRest)
    (ht : t = endEvent (takeMode ch m value count lease s)) :
    s.sameBase t ∧ t.lamps = s.lamps ∧ t.south = s.south ∧
      (∀ d, d ≠ ch → (t.chan d).butList = (s.chan d).butList) ∧
      (t.chan ch).butStaging = (((s.chan ch).moded m).given m value count lease s.now).butStaging ∧
      ((s.chan ch).mode ≠ m → (t.chan ch).pendingUp = 0) := by
  have taken := modeTaken_alarmUnitOnly (ch := ch) (m := m) (value := value) (count := count) (lease := lease) (s := s)
  have noted : (takeMode ch m value count lease s).notesSound :=
    (modeTaken_notesSound (.atRest hs)).moves (.review .refl ch)
  have stages : (modeTaken ch m value count lease s).stages ch (takeMode ch m value count lease s) :=
    State.stages.review .refl
  have chan : ∀ d, t.chan d = (takeMode ch m value count lease s).chan d := ht ▸ (endEvent_ends noted).chan
  obtain ⟨outer, points, lamps, south, north⟩ := takeMode_stagingOnly.ends hs noted
  rw [← ht] at outer points lamps south north
  have other : ∀ d, d ≠ ch → (t.chan d).butList = (s.chan d).butList := fun d hd => by
    rw [chan, stages.butList hd, taken.chan, State.modChan_chan, if_neg hd]
  have own : (t.chan ch).butStaging = (((s.chan ch).moded m).given m value count lease s.now).butStaging := by
    rw [chan, stages.moves.butStaging, taken.chan, State.modChan_chan_self]
  have acct : ∀ d, (t.chan d).acct = (s.chan d).acct := fun d => by
    by_cases hd : d = ch
    · rw [hd, Channel.of_butStaging Channel.acct (fun _ => rfl) own, Channel.given_keeps Channel.acct,
        Channel.moded_keeps Channel.acct]
    · exact Channel.of_butList Channel.acct (fun _ => rfl) (other d hd)
  refine ⟨⟨outer, ?_, fun d => ?_, points, north, [], ?_, ?_⟩, lamps, south, other, own, fun changed => ?_⟩
  · rw [ht, endEvent_tables, takeMode_tables]
  · simp only [State.totals, acct]
  · exact fun _ hq => absurd hq List.not_mem_nil
  · rw [south, List.append_nil]
  · have none : ((modeTaken ch m value count lease s).chan ch).pendingUp = 0 := by
      rw [taken.chan, State.modChan_chan_self, Channel.given_keeps Channel.pendingUp, Channel.moded, if_neg changed]
      rfl
    rw [chan]
    exact review_pendingUp none

end Sys2Proof.Machine

namespace Sys2Proof.Machine
open Sys2Proof

/-! ### The bank that staging selects is one (05, R91) -/

theorem State.before_asymm {s : State} {a b : BankId} (h : s.before a b) : ¬ s.before b a := by
  unfold State.before at *
  rw [Fin.lt_def] at *
  omega

/-- The selected bank is the only DARK bank that goes before every other (05, R91; log 29). -/
theorem State.selected_unique {s : State} {ch : ChanId} {b c : BankId} (h : s.selected ch b) (dark : s.darkOf ch c)
    (first : ∀ d, s.darkOf ch d → d ≠ c → s.goesBefore ch c d) : c = b := by
  by_contra ne
  obtain ⟨darkb, chosen⟩ := h
  obtain ⟨cool, before⟩ := first b darkb (Ne.symm ne)
  rcases chosen with ⟨coolb, least⟩ | ⟨warm, least⟩
  · have coolc := cool coolb
    exact State.before_asymm (before (iff_of_true coolc coolb)) (least c dark coolc ne)
  · exact State.before_asymm (before (iff_of_false (warm c dark) (warm b darkb))) (least c dark ne)

theorem State.selected_darkCount {s : State} {ch : ChanId} {b : BankId} (h : s.selected ch b) : s.darkCount ch ≠ 0 := by
  rw [← State.darkBanks_length]
  exact (List.length_pos_of_mem ((s.mem_darkBanks ch b).mpr h.1)).ne'

theorem State.selected_select {s : State} {ch : ChanId} {b : BankId} (h : s.selected ch b) : s.selectBank ch = some b := by
  obtain ⟨c, hc⟩ := State.selectBank_isSome (State.selected_darkCount h)
  obtain ⟨dark, first⟩ := State.selectBank_some hc
  rw [hc, State.selected_unique h dark first]

/-! ### The steps of the AUTO review, each by what calls for it (05, R92) -/

/-- What a review of an AUTO channel that stages up or down once leaves of its counts (05, R92). -/
def Channel.quiet (c : Channel) : Channel :=
  { c with pendingUp := 0, upCount := 0, downCount := 0 }

section AutoSteps

variable {ch : ChanId} {s : State}

theorem State.noDark_false (h : s.darkCount ch ≠ 0) : s.noDark ch = false :=
  Bool.eq_false_iff.mpr fun noDark => h ((s.noDark_iff ch).mp noDark)

theorem State.belowFloor_iff : s.belowFloor ch = true ↔
    (s.chan ch).startList.length < (s.chan ch).get .minBanks ∧ ¬ s.listLighting ch := by
  rw [← State.lighting_iff]
  simp [State.belowFloor]

theorem State.saturated_iff : s.saturated ch = true ↔
    (s.chan ch).get .stageUpPasses ≤ (s.chan ch).upCount ∧ ¬ s.listLighting ch := by
  rw [← State.lighting_iff]
  simp [State.saturated]

theorem State.autoExhausted_iff : s.autoExhausted ch = true ↔ s.darkCount ch = 0 ∧ (0 < (s.chan ch).pendingUp ∨
    ((s.chan ch).startList.length < (s.chan ch).get .minBanks ∧ ¬ s.listLighting ch) ∨
    ((s.chan ch).get .stageUpPasses ≤ (s.chan ch).upCount ∧ ¬ s.listLighting ch)) := by
  rw [State.autoExhausted, Bool.and_eq_true, Bool.or_eq_true, Bool.or_eq_true, State.noDark_iff, State.belowFloor_iff,
    State.saturated_iff, decide_eq_true_eq, or_assoc]

theorem stageUpIf_taken {called : Bool} (h : called = true) (dark : s.darkCount ch ≠ 0) :
    stageUpIf ch called s = zeroCounters ch (stageUp ch s) := by
  exact if_pos (by rw [h, State.noDark_false dark]; rfl)

theorem stageUpIf_idle {called : Bool} (h : called = true → s.darkCount ch = 0) : stageUpIf ch called s = s := by
  refine if_neg fun taken => ?_
  rw [Bool.and_eq_true, Bool.not_eq_true'] at taken
  rw [(s.noDark_iff ch).mpr (h taken.1)] at taken
  cases taken.2

theorem servePending_idle (h : (s.chan ch).pendingUp = 0 ∨ s.darkCount ch = 0) (n : Nat) : servePending ch n s = s := by
  cases n with
  | zero => rfl
  | succ n =>
    refine if_neg fun ⟨pending, dark⟩ => ?_
    rcases h with h | h
    · omega
    · rw [(s.noDark_iff ch).mpr h] at dark
      cases dark

/-- Where no step of the AUTO review is called for and possible, it leaves the state (05, R92). -/
theorem autoSteps_idle (requests : (s.chan ch).pendingUp = 0 ∨ s.darkCount ch = 0)
    (floor : s.belowFloor ch = true → s.darkCount ch = 0) (full : s.saturated ch = true → s.darkCount ch = 0)
    (surplus : ¬ s.surplus ch = true) : autoSteps ch s = s := by
  simp only [autoSteps, servePending_idle requests, stageUpIf_idle floor, stageUpIf_idle full]
  exact if_neg surplus

/-- Where step 4 alone is called for and possible, the AUTO review stages down (05, R92). -/
theorem autoSteps_down (requests : (s.chan ch).pendingUp = 0 ∨ s.darkCount ch = 0)
    (full : s.saturated ch = true → s.darkCount ch = 0) (surplus : s.surplus ch = true) : autoSteps ch s =
      zeroCounters ch (stageDown ch (s.modChan ch fun c => { c with pendingUp := 0 })) := by
  have floor : s.belowFloor ch = true → s.darkCount ch = 0 := fun below => by
    have above := ((s.surplus_iff ch).mp surplus).2.2
    have low := (State.belowFloor_iff.mp below).1
    omega
  simp only [autoSteps, servePending_idle requests, stageUpIf_idle floor, stageUpIf_idle full]
  exact if_pos surplus

/-- A stage-up of step 2 or 3 is the AUTO review's only action, since the bank staged up is STRIKING (05, R92). -/
theorem autoSteps_up (requests : (s.chan ch).pendingUp = 0) (dark : s.darkCount ch ≠ 0)
    (called : s.belowFloor ch = true ∨ s.saturated ch = true) : autoSteps ch s = zeroCounters ch (stageUp ch s) := by
  obtain ⟨_, lit⟩ := stageUp_acted dark
  have later : ∀ u : State, u.lighting ch = true → stageUpIf ch (u.saturated ch) u = u ∧ u.surplus ch = false :=
    fun u lit => by simp [stageUpIf, State.saturated, State.surplus, lit]
  obtain ⟨noFull, noSurplus⟩ := later _ lit
  have noRequests := servePending_idle (.inl requests) 12
  by_cases floor : s.belowFloor ch = true
  · simp only [autoSteps, noRequests, stageUpIf_taken floor dark, noFull, noSurplus]
    exact if_neg Bool.false_ne_true
  · have full := called.resolve_left floor
    simp only [autoSteps, noRequests, stageUpIf_idle fun below => absurd below floor, stageUpIf_taken full dark, noSurplus]
    exact if_neg Bool.false_ne_true

/-- A lone request is the AUTO review's only action, for the same reason (05, R92). -/
theorem autoSteps_request (request : (s.chan ch).pendingUp = 1) (dark : s.darkCount ch ≠ 0) : autoSteps ch s =
    zeroCounters ch ((stageUp ch s).modChan ch fun c => { c with pendingUp := c.pendingUp - 1 }) := by
  obtain ⟨b, hb⟩ := State.selectBank_isSome dark
  have served := stageUp_served hb
  obtain ⟨u, hu⟩ : ∃ u, u = zeroCounters ch ((stageUp ch s).modChan ch fun c => { c with pendingUp := c.pendingUp - 1 }) :=
    ⟨_, rfl⟩
  rw [← hu] at served ⊢
  have noRequests : (u.chan ch).pendingUp = 0 := by
    rw [served.chan, State.served_chan, Channel.served, request]
    rfl
  have step : servePending ch 12 s = u := by
    have first : servePending ch 12 s = servePending ch 11 u := by
      rw [hu]
      exact if_pos ⟨by omega, by rw [State.noDark_false dark]; rfl⟩
    rw [first, servePending_idle (.inl noRequests)]
  have lit : (servePending ch 12 s).lighting ch = true := by
    rw [step, served.lighting]
    exact State.served_lighting (List.cons_ne_nil b [])
  rw [autoSteps_lighting lit, step]

theorem State.stagedUp_pendingUp (b : BankId) : ((s.stagedUp ch b).chan ch).pendingUp = (s.chan ch).pendingUp := by
  rw [State.stagedUp_eq, State.modChan_chan_self]
  rfl

/-- The one stage-up of an AUTO review, for a lone request, the floor or saturation (05, R91, R92). -/
theorem autoSteps_upOnce {b : BankId} (sel : s.selected ch b) (called : (s.chan ch).pendingUp = 1 ∨
      ((s.chan ch).pendingUp = 0 ∧ (s.belowFloor ch = true ∨ s.saturated ch = true))) :
    ((s.stagedUp ch b).modChan ch Channel.quiet).alarmUnitOnly (autoSteps ch s) := by
  have dark := State.selected_darkCount sel
  have up := stageUp_alarmUnitOnly (State.selected_select sel)
  rcases called with request | ⟨noRequests, called⟩
  · have acted := (up.modChan ch fun c => { c with pendingUp := c.pendingUp - 1 }).modChan ch
      fun c => { c with upCount := 0, downCount := 0 }
    have base : (s.stagedUp ch b).modChan ch Channel.quiet =
        ((s.stagedUp ch b).modChan ch fun c => { c with pendingUp := c.pendingUp - 1 }).modChan ch
          fun c => { c with upCount := 0, downCount := 0 } := by
      rw [State.modChan_modChan]
      refine modChan_congr ?_
      rw [Channel.quiet, State.stagedUp_pendingUp, request]
    rw [base, autoSteps_request request dark]
    exact acted
  · have acted := up.modChan ch fun c => { c with upCount := 0, downCount := 0 }
    have base : (s.stagedUp ch b).modChan ch Channel.quiet =
        (s.stagedUp ch b).modChan ch fun c => { c with upCount := 0, downCount := 0 } := by
      refine modChan_congr ?_
      rw [Channel.quiet, State.stagedUp_pendingUp, noRequests]
    rw [base, autoSteps_up noRequests dark called]
    exact acted

end AutoSteps
end Sys2Proof.Machine

namespace Sys2Proof.Machine
open Sys2Proof

/-! ### The review of a channel by its mode (05, R88, R92, R93) -/

section Review

variable {ch : ChanId} {s : State} {b : BankId}

theorem review_notesSound (h : s.notesSound) : (review ch s).notesSound := h.moves (.review .refl ch)

/-- An event that differs from `s` by the alarm unit alone, from rest, and ends with a review. -/
theorem onlyAlarms_of_review {u : State} (hs : s.atRest) (h : s.alarmUnitOnly (review ch u)) (hu : u.atRest) :
    s.onlyAlarms (endEvent (review ch u)) :=
  h.onlyAlarms hs (review_notesSound (.atRest hu))

theorem State.atRest.stagedUp (hs : s.atRest) : (s.stagedUp ch b).atRest := hs.of_eq rfl rfl

/-- An event that stages a listed bank down, the channel's own items moved by `g` besides, as the obligations say it:
the bank's tracker is described apart (05, R92, R97; 03, R44, R54). -/
theorem stagedDown_of {v : State} {g : Channel → Channel} (hs : s.atRest)
    (h : ((s.quenched ch b).modChan ch g).alarmUnitOnly v) (hv : v.notesSound) :
    ((s.stagedDown (endEvent v) ch b).modChan ch g).onlyAlarms (endEvent v) ∧
      Tracker.left (s.bank b).tracker ((endEvent v).bank b).tracker (s.bank b).state := by
  have only := h.onlyAlarms (hs.of_eq rfl rfl) hv
  have tracker : ((endEvent v).bank b).tracker = (s.bank b).quenchedTracker := by
    rw [only.bank]
    exact State.quenched_tracker s ch b
  rw [State.stagedDown_eq tracker, tracker]
  exact ⟨only, Bank.quenchedTracker_left _⟩

/-! #### AUTO -/

/-- Where no step is called for and possible the review reports STAGE_EXHAUSTED alone (05, R91, R92). -/
theorem autoReview_idle (hs : s.atRest) (auto : (s.chan ch).mode = .auto) (window : (s.chan ch).adoption = none)
    (idle : autoSteps ch s = s) : s.onlyAlarms (endEvent (review ch s)) ∧
      ((endEvent (review ch s)).alarm .stageExhausted ch.1).cause = s.autoExhausted ch := by
  have reviewed := review_auto auto window
  rw [idle] at reviewed
  refine ⟨onlyAlarms_of_review hs ?_ hs, ?_⟩
  · rw [reviewed]
    exact report_alarmUnitOnly _ _ _ _
  · rw [endEvent_alarm, reviewed, report_cause]

/-- A bank staged up is STRIKING and holds staging back (05, R92). -/
theorem State.stagedUp_lighting : (s.stagedUp ch b).lighting ch = true := by
  rw [State.lighting_iff]
  refine ⟨b, ?_, .inl ?_⟩
  · rw [State.stagedUp_chan]
    exact List.mem_append_right _ (List.mem_singleton_self b)
  · rw [State.stagedUp_bank]
    rfl

/-- The one stage-up of an AUTO review (05, R91, R92). -/
theorem autoReview_up (hs : s.atRest) (auto : (s.chan ch).mode = .auto) (window : (s.chan ch).adoption = none)
    (sel : s.selected ch b) (called : (s.chan ch).pendingUp = 1 ∨
      ((s.chan ch).pendingUp = 0 ∧ (s.belowFloor ch = true ∨ s.saturated ch = true))) :
    ((s.stagedUp ch b).modChan ch Channel.quiet).onlyAlarms (endEvent (review ch s)) ∧
      ((endEvent (review ch s)).alarm .stageExhausted ch.1).cause = false := by
  have acted := autoSteps_upOnce sel called
  have reviewed := review_auto auto window
  have quiet : ((s.stagedUp ch b).modChan ch Channel.quiet).lighting ch = true := by
    rw [← State.stagedUp_lighting (s := s) (ch := ch) (b := b), State.lighting, State.modChan_chan_self]
    rfl
  have lit : (autoSteps ch s).lighting ch = true := (acted.lighting ch).trans quiet
  have served : ((autoSteps ch s).chan ch).pendingUp = 0 := by
    rw [acted.chan, State.modChan_chan_self]
    rfl
  refine ⟨onlyAlarms_of_review (hs.of_eq rfl rfl) ?_ hs, ?_⟩
  · rw [reviewed]
    exact acted.report _ _ _
  · rw [endEvent_alarm, reviewed, report_cause]
    simp [State.autoExhausted, State.belowFloor, State.saturated, lit, served]

/-- The stage-down of an AUTO review, step 4 alone being called for and possible (05, R92). -/
theorem autoReview_down (hs : s.atRest) (auto : (s.chan ch).mode = .auto) (window : (s.chan ch).adoption = none)
    (own : ∀ b ∈ (s.chan ch).startList, (s.bank b).owner = some ch)
    (requests : (s.chan ch).pendingUp = 0 ∨ s.darkCount ch = 0) (full : s.saturated ch = true → s.darkCount ch = 0)
    (surplus : s.surplus ch = true) : s.surplusServed (endEvent (review ch s)) ch := by
  intro b last
  have down : (((s.modChan ch fun c => { c with pendingUp := 0 }).quenched ch b).modChan ch
      fun c => { c with upCount := 0, downCount := 0 }).alarmUnitOnly (autoSteps ch s) := by
    rw [autoSteps_down requests full surplus]
    have staged := stageDown_alarmUnitOnly (s := s.modChan ch fun c => { c with pendingUp := 0 }) (ch := ch) (b := b)
      (by rw [State.modChan_chan_self]; exact last) (own b (List.mem_of_getLast? last))
    exact staged.modChan ch fun c => { c with upCount := 0, downCount := 0 }
  have base : (((s.modChan ch fun c => { c with pendingUp := 0 }).quenched ch b).modChan ch
      fun c => { c with upCount := 0, downCount := 0 }) = (s.quenched ch b).modChan ch Channel.quiet := by
    have moved : (s.modChan ch fun c => { c with pendingUp := 0 }).quenched ch b =
        ((s.modBank b (Bank.quenched s.now)).modChan ch fun c => { c with pendingUp := 0 }).modChan ch
          fun c => { c with startList := c.startList.filter (· ≠ b) } := rfl
    rw [moved, State.quenched, State.modChan_modChan, State.modChan_modChan, State.modChan_modChan]
    rfl
  rw [base] at down
  refine stagedDown_of hs ?_ (review_notesSound (.atRest hs))
  rw [review_auto auto window]
  exact down.report _ _ _

/-! #### MANUAL -/

theorem review_manual (manual : (s.chan ch).mode = .manual) (window : (s.chan ch).adoption = none) : review ch s =
    report .stageExhausted ch.1 ((manualSteps ch s).noDark ch &&
      ((manualSteps ch s).chan ch).startList.length < ((manualSteps ch s).chan ch).manualCount) (manualSteps ch s) := by
  simp [review, manual, window]

/-- Below N the review stages up, if no list bank lights (05, R93). -/
theorem manualReview_up (hs : s.atRest) (manual : (s.chan ch).mode = .manual) (window : (s.chan ch).adoption = none)
    (few : (s.chan ch).startList.length < (s.chan ch).manualCount) (calm : ¬ s.listLighting ch) (sel : s.selected ch b) :
    (s.stagedUp ch b).onlyAlarms (endEvent (review ch s)) := by
  have unlit : s.lighting ch = false := Bool.eq_false_iff.mpr fun lit => calm ((s.lighting_iff ch).mp lit)
  have steps : manualSteps ch s = stageUp ch s := by
    simp [manualSteps, few, unlit, State.noDark_false (State.selected_darkCount sel)]
  refine onlyAlarms_of_review hs.stagedUp ?_ hs
  rw [review_manual manual window, steps]
  exact (stageUp_alarmUnitOnly (State.selected_select sel)).report _ _ _

/-- Above N the review stages down, if no bank of the channel quenches (05, R93). -/
theorem manualReview_down (hs : s.atRest) (manual : (s.chan ch).mode = .manual) (window : (s.chan ch).adoption = none)
    (many : (s.chan ch).manualCount < (s.chan ch).startList.length)
    (calm : ∀ b, (s.bank b).owner = some ch → (s.bank b).state ≠ .quenching)
    (last : (s.chan ch).startList.getLast? = some b) (own : (s.bank b).owner = some ch) :
    (s.stagedDown (endEvent (review ch s)) ch b).onlyAlarms (endEvent (review ch s)) ∧
      Tracker.left (s.bank b).tracker ((endEvent (review ch s)).bank b).tracker (s.bank b).state := by
  have steps : manualSteps ch s = stageDown ch s := by
    unfold manualSteps
    dsimp only
    rw [if_neg (Nat.lt_asymm many), if_pos]
    refine ⟨many, ?_⟩
    rw [Bool.not_eq_true', List.any_eq_false]
    exact fun b hb => fun quenching => calm b ((s.mem_ownedBanks ch b).mp hb) (of_decide_eq_true quenching)
  have down := stagedDown_of (g := fun c => c) (v := review ch s) hs (by
    rw [State.modChan_id, review_manual manual window, steps]
    exact (stageDown_alarmUnitOnly last own).report _ _ _) (review_notesSound (.atRest hs))
  rwa [State.modChan_id] at down

/-- At N, or held back, the review stages nothing (05, R93). -/
theorem manualReview_idle (hs : s.atRest) (manual : (s.chan ch).mode = .manual) (window : (s.chan ch).adoption = none)
    (held : (s.chan ch).startList.length = (s.chan ch).manualCount ∨
      ((s.chan ch).startList.length < (s.chan ch).manualCount ∧ (s.listLighting ch ∨ s.darkCount ch = 0)) ∨
      ((s.chan ch).manualCount < (s.chan ch).startList.length ∧
        ∃ b, (s.bank b).owner = some ch ∧ (s.bank b).state = .quenching)) :
    s.onlyAlarms (endEvent (review ch s)) := by
  have steps : manualSteps ch s = s := by
    unfold manualSteps
    dsimp only
    rcases held with same | ⟨few, held⟩ | ⟨many, b, own, quenching⟩
    · rw [if_neg (by omega), if_neg fun h => by omega]
    · rw [if_pos few, if_neg]
      rw [← State.lighting_iff, ← State.noDark_iff] at held
      rcases held with lit | dark
      · simp [lit]
      · simp [dark]
    · rw [if_neg (Nat.lt_asymm many), if_neg]
      rintro ⟨_, calm⟩
      rw [Bool.not_eq_true', List.any_eq_false] at calm
      exact calm b ((s.mem_ownedBanks ch b).mpr own) (decide_eq_true quenching)
  refine onlyAlarms_of_review hs ?_ hs
  rw [review_manual manual window, steps]
  exact report_alarmUnitOnly _ _ _ _

theorem State.darkCount_congr {s t : State} (ch : ChanId) (ho : ∀ b, (t.bank b).owner = (s.bank b).owner)
    (hb : ∀ b, (t.bank b).state = (s.bank b).state) : t.darkCount ch = s.darkCount ch := by
  simp only [State.darkCount, ho, hb]

/-- In MANUAL STAGE_EXHAUSTED holds exactly below N without a DARK bank (05, R91, R93). -/
theorem manualReview_exhausted (hs : s.atRest) (manual : (s.chan ch).mode = .manual)
    (window : (s.chan ch).adoption = none) :
    ((endEvent (review ch s)).alarm .stageExhausted ch.1).cause = true ↔ (endEvent (review ch s)).darkCount ch = 0 ∧
      ((endEvent (review ch s)).chan ch).startList.length < (s.chan ch).manualCount := by
  have ends := endEvent_ends (review_notesSound (ch := ch) (.atRest hs))
  have reviewed := review_manual manual window
  have chan : (endEvent (review ch s)).chan ch = (manualSteps ch s).chan ch := by
    rw [ends.chan, reviewed, report_chan]
  have dark : (endEvent (review ch s)).darkCount ch = (manualSteps ch s).darkCount ch :=
    State.darkCount_congr ch (fun b => by rw [ends.bankKeeps Bank.owner, reviewed, report_bank])
      fun b => by rw [ends.bankKeeps Bank.state, reviewed, report_bank]
  have count : ((manualSteps ch s).chan ch).manualCount = (s.chan ch).manualCount :=
    (State.moves.manualSteps .refl ch).keeps Channel.manualCount ch
  rw [chan, dark, endEvent_alarm, reviewed, report_cause, Bool.and_eq_true, State.noDark_iff, decide_eq_true_eq, count]

/-! #### FULL -/

theorem review_full (full : (s.chan ch).mode = .full) (window : (s.chan ch).adoption = none) : review ch s =
    report .stageExhausted ch.1 false (if !s.lighting ch && !s.noDark ch then stageUp ch s else s) := by
  simp [review, full, window]

/-- The review stages up, if no list bank lights (05, R93). -/
theorem fullReview_up (hs : s.atRest) (full : (s.chan ch).mode = .full) (window : (s.chan ch).adoption = none)
    (calm : ¬ s.listLighting ch) (sel : s.selected ch b) : (s.stagedUp ch b).onlyAlarms (endEvent (review ch s)) := by
  have unlit : s.lighting ch = false := Bool.eq_false_iff.mpr fun lit => calm ((s.lighting_iff ch).mp lit)
  refine onlyAlarms_of_review hs.stagedUp ?_ hs
  rw [review_full full window, unlit, State.noDark_false (State.selected_darkCount sel)]
  exact (stageUp_alarmUnitOnly (State.selected_select sel)).report _ _ _

theorem fullReview_idle (hs : s.atRest) (full : (s.chan ch).mode = .full) (window : (s.chan ch).adoption = none)
    (held : s.listLighting ch ∨ s.darkCount ch = 0) : s.onlyAlarms (endEvent (review ch s)) := by
  refine onlyAlarms_of_review hs ?_ hs
  have steps : ¬ (!s.lighting ch && !s.noDark ch) = true := by
    rw [← State.lighting_iff, ← State.noDark_iff] at held
    rcases held with lit | dark
    · simp [lit]
    · simp [dark]
  rw [review_full full window, if_neg steps]
  exact report_alarmUnitOnly _ _ _ _

theorem fullReview_exhausted (full : (s.chan ch).mode = .full) (window : (s.chan ch).adoption = none) :
    ((endEvent (review ch s)).alarm .stageExhausted ch.1).cause = false := by
  rw [endEvent_alarm, review_full full window, report_cause]

/-! #### STANDDOWN -/

theorem review_standdown (down : (s.chan ch).mode = .standdown) (window : (s.chan ch).adoption = none) : review ch s =
    report .stageExhausted ch.1 false (forEach (s.chan ch).startList enterQuenching s) := by
  simp [review, down, window]

/-- The banks of a list staged down one after the other (05, R93, R97). -/
def State.quenchedAll (s : State) (ch : ChanId) (l : List BankId) : State :=
  forEach l (fun b u => u.quenched ch b) s

theorem State.quenched_bank (c : BankId) :
    (s.quenched ch b).bank c = if c = b then (s.bank b).quenched s.now else s.bank c := by
  rw [State.quenched, State.modChan_bank, State.modBank_bank]

theorem State.quenched_owner (c : BankId) : ((s.quenched ch b).bank c).owner = (s.bank c).owner := by
  rw [State.quenched_bank]
  split
  · next e =>
    rw [e]
    rfl
  · rfl

theorem enterQuenchings_alarmUnitOnly {l : List BankId} {t : State} (h : s.alarmUnitOnly t)
    (own : ∀ b ∈ l, (s.bank b).owner = some ch) : (s.quenchedAll ch l).alarmUnitOnly (forEach l enterQuenching t) := by
  induction l generalizing s t with
  | nil => exact h
  | cons b l ih =>
    have owner : (t.bank b).owner = some ch := by
      rw [h.bank]
      exact own b List.mem_cons_self
    refine ih ((h.quenched ch b).trans (enterQuenching_alarmUnitOnly owner)) fun c hc => ?_
    rw [State.quenched_owner]
    exact own c (List.mem_cons_of_mem b hc)

theorem State.atRest.quenchedAll (hs : s.atRest) (l : List BankId) : (s.quenchedAll ch l).atRest :=
  forEach_keeps (P := State.atRest) (f := fun b u => u.quenched ch b) (fun _ _ _ h => h.of_eq rfl rfl) hs

theorem State.quenchedAll_bank {l : List BankId} (distinct : l.Nodup) (c : BankId) :
    (s.quenchedAll ch l).bank c = if c ∈ l then (s.bank c).quenched s.now else s.bank c := by
  induction l generalizing s with
  | nil => exact (if_neg List.not_mem_nil).symm
  | cons b l ih =>
    obtain ⟨fresh, distinct⟩ := List.nodup_cons.mp distinct
    refine (ih (s := s.quenched ch b) distinct).trans ?_
    rw [State.quenched_bank]
    by_cases e : c = b
    · subst e
      rw [if_neg fresh, if_pos rfl, if_pos List.mem_cons_self]
    · rw [if_neg e]
      simp only [List.mem_cons, e, false_or]
      rfl

theorem State.mem_quenchedAll_startList (l : List BankId) (c : BankId) :
    c ∈ ((s.quenchedAll ch l).chan ch).startList ↔ c ∈ (s.chan ch).startList ∧ c ∉ l := by
  induction l generalizing s with
  | nil => exact (and_iff_left List.not_mem_nil).symm
  | cons b l ih =>
    refine (ih (s := s.quenched ch b)).trans ?_
    rw [State.quenched, State.modChan_chan_self, List.mem_filter, State.modBank_chan, List.mem_cons, not_or, and_assoc,
      decide_eq_true_eq]

/-- The review of a channel that stands down puts every list bank to QUENCHING (05, R93, R97). -/
theorem standdownReview (hs : s.atRest) (down : (s.chan ch).mode = .standdown) (window : (s.chan ch).adoption = none)
    (lists : s.listsSound) : ((endEvent (review ch s)).chan ch).startList = [] ∧
      ((endEvent (review ch s)).alarm .stageExhausted ch.1).cause = false ∧
      ∀ b, (endEvent (review ch s)).bank b =
        if b ∈ (s.chan ch).startList then (s.bank b).quenched s.now else s.bank b := by
  have quenched := enterQuenchings_alarmUnitOnly (State.alarmUnitOnly.refl s)
    fun b hb => (((lists ch).2 b).mp hb).1
  have reviewed := review_standdown down window
  have staged : (s.quenchedAll ch (s.chan ch).startList).alarmUnitOnly (review ch s) := by
    rw [reviewed]
    exact quenched.report _ _ _
  have only := onlyAlarms_of_review (hs.quenchedAll _) staged hs
  have chan : (endEvent (review ch s)).chan ch = (s.quenchedAll ch (s.chan ch).startList).chan ch := by
    rw [(endEvent_ends (review_notesSound (.atRest hs))).chan, staged.chan]
  refine ⟨?_, ?_, fun b => ?_⟩
  · rw [chan, List.eq_nil_iff_forall_not_mem]
    exact fun c hc => ((State.mem_quenchedAll_startList _ c).mp hc).2 ((State.mem_quenchedAll_startList _ c).mp hc).1
  · rw [endEvent_alarm, reviewed, report_cause]
  · rw [only.bank, State.quenchedAll_bank (lists ch).1]

end Review
end Sys2Proof.Machine

namespace Sys2Proof.Machine
open Sys2Proof

/-! ### SET MODE settled (05, R80, R88 to R93) -/

section Given

variable {ch : ChanId} {s : State} {g : Channel → Channel}

/-- Staging selects among the banks by their settings, their states and their lamps alone (05, R91). -/
theorem State.selected_modChan (same : ∀ k, (g (s.chan ch)).get k = (s.chan ch).get k) (b : BankId) :
    (s.modChan ch g).selected ch b ↔ s.selected ch b := by
  have cooled : ∀ c, (s.modChan ch g).cooled ch c ↔ s.cooled ch c := fun c => by
    rw [State.cooled, State.modChan_chan_self, same]
    rfl
  unfold State.selected
  simp only [cooled]
  rfl

theorem State.listLighting_modChan (same : (g (s.chan ch)).startList = (s.chan ch).startList) :
    (s.modChan ch g).listLighting ch ↔ s.listLighting ch := by
  rw [State.listLighting, State.modChan_chan_self, same]
  rfl

end Given

/-- What a SET MODE takes of the channel it names, but for the staging (05, R80; 04, R67). -/
theorem Channel.of_moded_given {m : Mode} {value count lease now : Nat} {c d : Channel}
    (h : d.butStaging = ((c.moded m).given m value count lease now).butStaging) :
    d.mode = m ∧ d.power = c.power ∧ d.acct = c.acct ∧ d.profileValid = c.profileValid ∧ d.adoption = c.adoption ∧
      (m = .manual → d.manualValue = value ∧ d.manualCount = count ∧ d.manualLease = some (now + 1000 * lease)) ∧
      (m ≠ .manual → d.manualValue = c.manualValue ∧ d.manualCount = c.manualCount ∧
        d.manualLease = if c.mode = .manual then none else c.manualLease) := by
  have mode : (c.moded m).mode = m := by
    unfold Channel.moded
    split
    · assumption
    · rfl
  refine ⟨?_, ?_, ?_, ?_, ?_, fun manual => ?_, fun other => ?_⟩
  · rw [Channel.of_butStaging Channel.mode (fun _ => rfl) h, Channel.given_keeps Channel.mode, mode]
  · rw [Channel.of_butStaging Channel.power (fun _ => rfl) h, Channel.given_keeps Channel.power,
      Channel.moded_keeps Channel.power]
  · rw [Channel.of_butStaging Channel.acct (fun _ => rfl) h, Channel.given_keeps Channel.acct,
      Channel.moded_keeps Channel.acct]
  · rw [Channel.of_butStaging Channel.profileValid (fun _ => rfl) h, Channel.given_keeps Channel.profileValid,
      Channel.moded_keeps Channel.profileValid]
  · rw [Channel.of_butStaging Channel.adoption (fun _ => rfl) h, Channel.given_keeps Channel.adoption,
      Channel.moded_keeps Channel.adoption]
  · rw [Channel.given, if_pos manual] at h
    exact ⟨Channel.of_butStaging Channel.manualValue (fun _ => rfl) h,
      Channel.of_butStaging Channel.manualCount (fun _ => rfl) h,
      Channel.of_butStaging Channel.manualLease (fun _ => rfl) h⟩
  · rw [Channel.given, if_neg other] at h
    refine ⟨?_, ?_, ?_⟩
    · rw [Channel.of_butStaging Channel.manualValue (fun _ => rfl) h, Channel.moded_keeps Channel.manualValue]
    · rw [Channel.of_butStaging Channel.manualCount (fun _ => rfl) h, Channel.moded_keeps Channel.manualCount]
    · rw [Channel.of_butStaging Channel.manualLease (fun _ => rfl) h, Channel.moded]
      split
      · next same => exact (if_neg fun manual => other (same.symm.trans manual)).symm
      · rfl

/-- Settles O48. The review after the mode is taken is described mode by mode above; that it is reached from a state that
differs from `s` by MANUAL's items alone is `modeTaken_same`. -/
theorem setModeTakesTheMode : Obligations.SetModeTakesTheMode := by
  unfold Obligations.SetModeTakesTheMode
  refine ⟨fun r ch mb count v lease m s hs armed named => ?_, fun r ch mb count v lease m s u hs lists hm named hu => ?_⟩
  · obtain ⟨base, lamps, south, others, own, changed⟩ := takeMode_ends (ch := ch) (m := m)
      (value := clampNat v.toNat 0 1000) (count := clampNat count.toNat 0 4) (lease := clampNat lease.toNat 10 3600)
      hs.2.2.2 rfl
    obtain ⟨mode, power, acct, valid, adoption, given, kept⟩ := Channel.of_moded_given own
    exact ⟨_, exec_setMode hs armed named, base, lamps, south, others, mode, power, acct, valid, adoption, changed, given,
      kept⟩
  · have rest : s.atRest := hs.2.2.2
    have armed : (s.chan ch).mode.armed = true := by
      rcases named with ⟨_, rfl⟩ | ⟨_, rfl⟩ | ⟨_, rfl⟩ | ⟨_, rfl⟩ <;> rw [hm] <;> rfl
    have row := exec_setMode (r := r) (n := count) (v := v) (l := lease) hs armed named
    rw [takeMode_eq, modeTaken_same hm] at row
    have given : s.modChan ch (Channel.given m (clampNat v.toNat 0 1000) (clampNat count.toNat 0 4)
      (clampNat lease.toNat 10 3600) s.now) = u := hu.symm
    rw [given] at row
    have urest : u.atRest := given ▸ rest.of_eq rfl rfl
    have uchan : u.chan ch = (s.chan ch).given m (clampNat v.toNat 0 1000) (clampNat count.toNat 0 4)
        (clampNat lease.toNat 10 3600) s.now := by rw [← given, State.modChan_chan_self]
    have umode : (u.chan ch).mode = m := by rw [uchan, Channel.given_keeps Channel.mode, hm]
    have uwindow : (u.chan ch).adoption = (s.chan ch).adoption := by rw [uchan, Channel.given_keeps Channel.adoption]
    have plain : m ≠ .manual → u = s := fun other => by
      rw [← given]
      exact (modChan_congr (g := fun c => c) (if_neg other)).trans (s.modChan_id ch)
    refine ⟨_, _, row, fun window => ?_, fun window => ⟨fun auto => ?_, fun manual n hn => ?_, fun full => ?_,
      fun down => ?_⟩⟩
    · rw [review_idle (.inr (by rwa [uwindow])), endEvent_atRest urest]
    · rw [plain (by rw [auto]; exact Mode.noConfusion)]
      rw [auto] at hm
      refine ⟨fun requests floor full surplus => ?_, fun b sel called => ?_, fun pending dark => ?_,
        fun requests calm passes above full => ?_⟩
      · rw [← State.autoExhausted_iff, ← Bool.eq_iff_iff]
        exact autoReview_idle rest hm window (autoSteps_idle requests
          (fun below => by have := State.belowFloor_iff.mp below; tauto)
          (fun called => by have := State.saturated_iff.mp called; tauto)
          fun called => by have := (s.surplus_iff ch).mp called; tauto)
      · refine autoReview_up rest hm window sel (called.imp_right ?_)
        rintro ⟨noRequests, calm, called⟩
        exact ⟨noRequests, called.imp (fun few => State.belowFloor_iff.mpr ⟨few, calm⟩)
          fun passes => State.saturated_iff.mpr ⟨passes, calm⟩⟩
      · exact requestsServed_of rest (.refl s) (.atRest rest) hm window pending dark
      · refine autoReview_down rest hm window (fun b hb => (((lists ch).2 b).mp hb).1) requests (fun called => ?_)
          ((s.surplus_iff ch).mpr ⟨passes, calm, above⟩)
        have reached := (State.saturated_iff.mp called).1
        omega
    · have count : (u.chan ch).manualCount = n := by rw [uchan, Channel.given, if_pos manual, hn]
      have list : (u.chan ch).startList = (s.chan ch).startList := by rw [uchan, Channel.given_keeps Channel.startList]
      have lit : u.listLighting ch ↔ s.listLighting ch := by
        rw [← given]
        exact State.listLighting_modChan (Channel.given_keeps Channel.startList ..)
      have bank : ∀ b, u.bank b = s.bank b := by
        rw [← given]
        exact fun _ => rfl
      have dark : u.darkCount ch = s.darkCount ch :=
        State.darkCount_congr ch (fun b => by rw [bank]) fun b => by rw [bank]
      rw [← uwindow] at window
      rw [manual] at umode
      rw [← list, ← lit, ← dark, ← count]
      refine ⟨fun few calm b sel => ?_, fun many calm b last => ?_, fun held => ?_, ?_⟩
      · refine manualReview_up urest umode window few calm ?_
        rw [← given]
        exact (State.selected_modChan (fun k => Channel.given_keeps (fun c => c.get k) ..) b).mpr sel
      · rw [← bank]
        exact manualReview_down urest umode window many (fun b => by rw [bank]; exact calm b) last
          (by rw [bank]; exact (((lists ch).2 b).mp (list ▸ List.mem_of_getLast? last)).1)
      · exact manualReview_idle urest umode window (by simpa only [bank] using held)
      · exact manualReview_exhausted urest umode window
    · rw [plain (by rw [full]; exact Mode.noConfusion)]
      rw [full] at hm
      exact ⟨fun calm b sel => fullReview_up rest hm window calm sel, fullReview_idle rest hm window,
        fullReview_exhausted hm window⟩
    · rw [plain (by rw [down]; exact Mode.noConfusion)]
      rw [down] at hm
      obtain ⟨list, cause, banks⟩ := standdownReview rest hm window lists
      refine ⟨list, cause, fun b hb => by rw [banks, if_neg hb], fun b hb => ?_⟩
      rw [banks, if_pos hb]
      exact ⟨rfl, rfl, rfl, rfl, rfl, rfl, Bank.quenchedTracker_left _⟩

end Sys2Proof.Machine

namespace Sys2Proof.Machine
open Sys2Proof

set_option Elab.async false

/-! ### Events of lamp machines alone (07) -/

/-- `t` is `s` but for lamp machines, the notes of slots filled and the alarm unit. -/
def State.lampwise (s t : State) : Prop :=
  ∃ x q a l d, t = { s with lamps := x, slotsMade := q, alarms := a, alertLine := l, alertsDue := d }

namespace State.lampwise

variable {s t : State}

theorem refl (s : State) : s.lampwise s := ⟨_, _, _, _, _, rfl⟩

theorem trans {u : State} (h : s.lampwise t) (g : t.lampwise u) : s.lampwise u := by
  obtain ⟨_, _, _, _, _, rfl⟩ := h
  obtain ⟨x, q, a, l, d, rfl⟩ := g
  exact ⟨x, q, a, l, d, rfl⟩

theorem channels (h : s.lampwise t) : t.channels = s.channels := by
  obtain ⟨_, _, _, _, _, rfl⟩ := h
  rfl

theorem banks (h : s.lampwise t) : t.banks = s.banks := by
  obtain ⟨_, _, _, _, _, rfl⟩ := h
  rfl

theorem chan (h : s.lampwise t) (c : ChanId) : t.chan c = s.chan c := by
  rw [State.chan, h.channels, State.chan]

theorem bank (h : s.lampwise t) (b : BankId) : t.bank b = s.bank b := by
  rw [State.bank, h.banks, State.bank]

theorem unit (h : s.lampwise t) {u : State} (g : t.alarmUnitOnly u) : s.lampwise u := by
  obtain ⟨_, _, _, rfl⟩ := g
  exact h.trans ⟨_, _, _, _, _, rfl⟩

theorem lamp (h : s.lampwise t) (l : LampId) (f : Lamp → Lamp) : s.lampwise (t.modLamp l f) :=
  h.trans ⟨_, _, _, _, _, rfl⟩

theorem each {α : Type} {f : α → State → State} (turn : ∀ x {t : State}, s.lampwise t → s.lampwise (f x t)) (l : List α)
    (h : s.lampwise t) : s.lampwise (forEach l f t) :=
  forEach_keeps (fun x _ _ h => turn x h) h

theorem placeLamp (h : s.lampwise t) (l : LampId) (c : LampCmd) : s.lampwise (placeLamp l c t) := by
  unfold Machine.placeLamp
  split
  · exact h
  · dsimp only
    split
    · exact (h.lamp l _).trans ⟨_, _, _, _, _, rfl⟩
    · exact h.lamp l _

theorem strikePath (h : s.lampwise t) (l : LampId) : s.lampwise (strikePath l t) := by
  unfold Machine.strikePath
  split
  · exact (h.lamp l _).placeLamp l _
  · exact h

theorem putOutLit (h : s.lampwise t) (l : LampId) : s.lampwise (putOutLit l t) := (h.lamp l _).placeLamp l _

theorem actUnwanted (h : s.lampwise t) (l : LampId) : s.lampwise (actUnwanted l t) := by
  unfold Machine.actUnwanted
  split
  · exact h
  · split
    · exact (h.lamp l _).placeLamp l _
    · exact h.putOutLit l
    · exact h.lamp l _
    · exact h.lamp l _
    · exact h
    · exact h

theorem setWanted (h : s.lampwise t) (w : Bool) (l : LampId) : s.lampwise (setWanted w l t) := by
  unfold Machine.setWanted
  split
  · exact h
  · dsimp only
    split
    · exact h
    · split
      · exact h.lamp l _
      · split
        · split
          · exact (h.lamp l _).strikePath l
          · exact h.lamp l _
        · exact (h.lamp l _).actUnwanted l

theorem wantAll (h : s.lampwise t) (w : Bool) (b : BankId) : s.lampwise (wantAll w b t) :=
  h.each (fun l _ h => h.setWanted w l) _

theorem applyLampSet (h : s.lampwise t) (b : BankId) (m : Byte) : s.lampwise (applyLampSet b m t) := by
  refine h.each (fun l t h => ?_) _
  split
  · exact h.setWanted _ l
  · exact h

theorem enterDead (h : s.lampwise t) (l : LampId) : s.lampwise (enterDead l t) := by
  unfold Machine.enterDead
  split
  · exact h
  · exact ((h.lamp l _).placeLamp l .quench).unit (raise_alarmUnitOnly _ _ _)

theorem strikeFailure (h : s.lampwise t) (l : LampId) : s.lampwise (strikeFailure l t) := by
  unfold Machine.strikeFailure
  split
  · exact h
  · dsimp only
    split
    · exact (h.lamp l _).placeLamp l _
    · split
      · exact (h.lamp l _).placeLamp l _
      · exact (h.lamp l _).enterDead l

theorem dropoutLamp (h : s.lampwise t) (l : LampId) : s.lampwise (dropoutLamp l t) := by
  unfold Machine.dropoutLamp
  split
  · exact h
  · dsimp only
    split
    · exact (h.lamp l _).enterDead l
    · exact (h.lamp l _).placeLamp l _

theorem overtempOut (h : s.lampwise t) (l : LampId) : s.lampwise (overtempOut l t) := (h.lamp l _).placeLamp l _

theorem becomeLit (h : s.lampwise t) (a : Bool) (l : LampId) : s.lampwise (becomeLit a l t) := h.lamp l _

theorem becomeGoverned (h : s.lampwise t) (l : LampId) : s.lampwise (becomeGoverned l t) := by
  unfold Machine.becomeGoverned
  dsimp only
  split
  · exact h.lamp l _
  · split
    · exact (h.lamp l _).putOutLit l
    · exact (h.lamp l _).strikePath l

theorem regovern (h : s.lampwise t) (before : Bool) (l : LampId) : s.lampwise (regovern before l t) := by
  unfold Machine.regovern
  split
  · exact h.lamp l _
  · split
    · exact h.becomeGoverned l
    · exact h

theorem strikeWindowEnds (h : s.lampwise t) (l : LampId) : s.lampwise (strikeWindowEnds l t) := by
  unfold Machine.strikeWindowEnds
  split
  · exact h
  · split
    · exact h.strikeFailure l
    · exact h

theorem waitEnds (h : s.lampwise t) (l : LampId) : s.lampwise (waitEnds l t) := by
  unfold Machine.waitEnds
  split
  · exact h
  · split
    · exact (h.lamp l _).strikePath l
    · exact h

theorem dropoutsClear (h : s.lampwise t) (l : LampId) : s.lampwise (dropoutsClear l t) := by
  unfold Machine.dropoutsClear
  split
  · exact h
  · split
    · exact h.lamp l _
    · exact h

theorem coolLamp (h : s.lampwise t) (l : LampId) : s.lampwise (coolLamp l t) := by
  unfold Machine.coolLamp
  split
  · exact h
  · split
    · dsimp only
      split
      · exact (h.lamp l _).strikePath l
      · exact h.lamp l _
    · exact h

theorem confirmAtEnd (h : s.lampwise t) (l : LampId) : s.lampwise (confirmAtEnd l t) := by
  unfold Machine.confirmAtEnd
  split
  · exact h
  · split
    · exact (h.lamp l _).strikePath l
    · exact h

theorem putOutUnlisted (h : s.lampwise t) (l : LampId) : s.lampwise (putOutUnlisted l t) := by
  unfold Machine.putOutUnlisted
  split
  · exact h
  · split
    · exact h.putOutLit l
    · exact h

end State.lampwise

/-! ### What modes, locks, start lists and programs are (05, Tables 5-1 and 5-6; 06, R101; 09, Table 9-4) -/

/-- Where a channel stands: its mode, the mode EDIT was entered from, the holder of its lock, its start order list. -/
structure Channel.Standing where
  mode   : Mode
  prev   : Mode
  holder : Option Nat
  list   : List BankId

def Channel.standing (c : Channel) : Channel.Standing := ⟨c.mode, c.prevMode, c.holder, c.startList⟩

/-- Where a bank stands: its state, its owner and its running program. -/
structure Bank.Standing where
  state   : BankState
  owner   : Option ChanId
  running : Option ProgKind

def Bank.standing (x : Bank) : Bank.Standing := ⟨x.state, x.owner, x.running⟩

/-- Between `s` and `t` every channel and every bank has kept its standing. -/
structure State.steadfast (s t : State) : Prop where
  chans : ∀ c, (t.chan c).standing = (s.chan c).standing
  banks : ∀ b, (t.bank b).standing = (s.bank b).standing

namespace State.steadfast

variable {s t : State}

theorem refl (s : State) : s.steadfast s := ⟨fun _ => rfl, fun _ => rfl⟩

theorem trans {u : State} (h : s.steadfast t) (g : t.steadfast u) : s.steadfast u :=
  ⟨fun c => (g.chans c).trans (h.chans c), fun b => (g.banks b).trans (h.banks b)⟩

theorem symm (h : s.steadfast t) : t.steadfast s := ⟨fun c => (h.chans c).symm, fun b => (h.banks b).symm⟩

theorem of_eq (hc : t.channels = s.channels) (hb : t.banks = s.banks) : s.steadfast t :=
  ⟨fun c => by rw [State.chan, hc, State.chan], fun b => by rw [State.bank, hb, State.bank]⟩

theorem unit (h : s.steadfast t) {u : State} (g : t.alarmUnitOnly u) : s.steadfast u :=
  h.trans ⟨fun c => by rw [g.chan], fun b => by rw [g.bank]⟩

theorem report (h : s.steadfast t) (k : AlarmKind) (i : Nat) (holds : Bool) : s.steadfast (report k i holds t) :=
  h.unit (report_alarmUnitOnly k i holds t)

theorem raise (h : s.steadfast t) (k : AlarmKind) (i : Nat) : s.steadfast (raise k i t) :=
  h.unit (raise_alarmUnitOnly k i t)

theorem lampwise (h : s.steadfast t) {u : State} (g : t.lampwise u) : s.steadfast u :=
  h.trans (.of_eq g.channels g.banks)

theorem chan (h : s.steadfast t) (c : ChanId) {f : Channel → Channel}
    (hf : ∀ x : Channel, (f x).standing = x.standing := by exact fun _ => rfl) : s.steadfast (t.modChan c f) :=
  h.trans ⟨fun d => by
    rw [State.modChan_chan]
    split
    · next e => rw [hf, e]
    · rfl, fun _ => rfl⟩

theorem bank (h : s.steadfast t) (b : BankId) {f : Bank → Bank}
    (hf : ∀ x : Bank, (f x).standing = x.standing := by exact fun _ => rfl) : s.steadfast (t.modBank b f) :=
  h.trans ⟨fun _ => rfl, fun c => by
    rw [State.modBank_bank]
    split
    · next e => rw [hf, e]
    · rfl⟩

theorem port (h : s.steadfast t) (p : Port) (f : PortState → PortState) : s.steadfast (t.modPort p f) :=
  h.trans (.of_eq (State.modPort_channels t p f) (State.modPort_banks t p f))

theorem each {α : Type} {f : α → State → State} (turn : ∀ x {t : State}, s.steadfast t → s.steadfast (f x t))
    (l : List α) (h : s.steadfast t) : s.steadfast (forEach l f t) :=
  forEach_keeps (fun x _ _ h => turn x h) h

/-! #### Frames and the end of an event (08) -/

theorem pushFrame (h : s.steadfast t) (p : Port) (q : QFrame) : s.steadfast (pushFrame p q t) := h.port p _

theorem clearSlot (h : s.steadfast t) (pos : SlotId) : s.steadfast (clearSlot pos t) := by
  unfold Machine.clearSlot
  split
  · exact h.lampwise (.lamp (.refl t) _ _)
  · exact h.bank _

theorem enterSouth (h : s.steadfast t) (pos : SlotId) : s.steadfast (enterSouth pos t) := by
  unfold Machine.enterSouth
  split
  · exact (h.pushFrame .south _).clearSlot pos
  · exact h

theorem tryDirect (h : s.steadfast t) (pos : SlotId) : s.steadfast (tryDirect pos t) := by
  unfold Machine.tryDirect
  split
  · exact h.enterSouth pos
  · exact h

theorem makeAlert (h : s.steadfast t) (n : AlertNote) : s.steadfast (makeAlert n t) := by
  unfold Machine.makeAlert
  split
  · dsimp only
    split
    · exact h.pushFrame .north _
    · exact h.trans (.of_eq rfl rfl)
  · exact h

theorem endEvent (h : s.steadfast t) : s.steadfast (endEvent t) := by
  have alerts : s.steadfast (flushAlerts t) :=
    (h.trans (.of_eq rfl rfl : t.steadfast { t with alertsDue := [] })).each (fun n _ h => h.makeAlert n) _
  exact (alerts.trans (.of_eq rfl rfl : (flushAlerts t).steadfast { flushAlerts t with slotsMade := [] })).each
    (fun q _ h => h.tryDirect q) _

theorem forwardFrame (h : s.steadfast t) (p : Port) (f : Frame) : s.steadfast (forwardFrame p f t) := by
  unfold Machine.forwardFrame
  split
  · exact h.pushFrame _ _
  · exact h.raise _ _

theorem passOn (h : s.steadfast t) (p : Port) (f : Frame) : s.steadfast (passOn p f t) := by
  unfold Machine.passOn
  split
  · exact h
  · exact (h.forwardFrame p f).endEvent

theorem faultyFrame (h : s.steadfast t) (p : Port) : s.steadfast (faultyFrame p t) := by
  unfold Machine.faultyFrame
  dsimp only
  split
  · split
    · exact (h.port p _).raise _ _
    · exact h.port p _
  · exact h

theorem fromNorth (h : s.steadfast t) (f : Frame) : s.steadfast (fromNorth f t) := by
  unfold Machine.fromNorth northLampCmd northWiperCmd
  split
  · exact h
  · split
    · split
      · exact (h.raise _ _).endEvent
      · exact h.passOn _ _
    · split
      · split
        · exact h.passOn _ _
        · exact (h.each (fun ch _ h => h.raise _ _) _).endEvent
      · exact h.passOn _ _

theorem sendReply (h : s.steadfast t) (r : Sender) (kind : Byte) (restart : Bool) (a : Answer) :
    s.steadfast (sendReply r kind restart a t) := by
  unfold Machine.sendReply
  dsimp only
  split
  · exact h.pushFrame _ _
  · exact h.trans (.of_eq rfl rfl)

theorem arbiter (h : s.steadfast t) (p : Port) : s.steadfast (arbiter p t) := by
  have other : s.steadfast (serveOther p t) := by
    unfold serveOther serveAlert serveSlots
    cases p
    · dsimp only
      split
      · next f _ => exact (h.pushFrame .north ⟨f, true, false⟩).trans (.of_eq rfl rfl)
      · exact h
    · dsimp only
      split
      · exact (h.enterSouth _).trans (.of_eq rfl rfl)
      · exact h
  unfold Machine.arbiter
  split
  · split
    · split
      · next w _ _ => exact (h.pushFrame p ⟨w.frame, true, w.restart⟩).trans (.of_eq rfl rfl)
      · exact other
    · exact other
  · exact h

/-! #### Passes and points (01, 02, 04) -/

theorem accrue (h : s.steadfast t) (ch : ChanId) (litres : Nat) : s.steadfast (accrue ch litres t) := by
  rw [accrue_eq]
  refine h.chan ch fun c => ?_
  unfold Channel.accrued
  dsimp only
  split <;> rfl

theorem volumeStage (h : s.steadfast t) (ch : ChanId) (qm : Nat) (offSpec : Bool) :
    s.steadfast (volumeStage ch qm offSpec t) := by
  unfold Machine.volumeStage
  dsimp only
  split
  · exact ((h.chan ch).chan ch).accrue ch _
  · exact h.chan ch

theorem recode (h : s.steadfast t) (ch : ChanId) : s.steadfast (recode ch t) := by
  unfold Machine.recode changeCode
  dsimp only
  split
  · exact h
  · refine State.steadfast.each (fun b t h => h.bank b) _ (State.steadfast.each (fun l t h => ?_) _ (h.chan ch))
    obtain ⟨_, _, e⟩ := setLampCode_lampsOnly _ l t
    exact h.trans (.of_eq (by rw [e]) (by rw [e]))

theorem setUvt (h : s.steadfast t) (ch : ChanId) (u : UvtUse) (hold : Timer) : s.steadfast (setUvt ch u hold t) :=
  (h.chan ch).report _ _ _

theorem uvtStale (h : s.steadfast t) (ch : ChanId) (value : Option Nat) : s.steadfast (uvtStale ch value t) := by
  unfold Machine.uvtStale
  dsimp only
  split
  · split
    · exact h.setUvt ch _ _
    · exact h.setUvt ch _ _
  · exact h.setUvt ch _ _
  · exact h
  · exact h

theorem startFallback (h : s.steadfast t) (ch : ChanId) : s.steadfast (startFallback ch t) := h.chan ch

theorem stopFallback (h : s.steadfast t) (ch : ChanId) : s.steadfast (stopFallback ch t) := h.chan ch

theorem flowStale (h : s.steadfast t) (ch : ChanId) : s.steadfast (flowStale ch t) := by
  unfold Machine.flowStale
  refine State.steadfast.report ?_ _ _ _
  split
  · exact h.startFallback ch
  · exact h

theorem rechooseFlow (h : s.steadfast t) (ch : ChanId) (old : Option PointId) : s.steadfast (rechooseFlow ch old t) := by
  unfold Machine.rechooseFlow
  split
  · exact h
  · split
    · exact (h.stopFallback ch).report _ _ _
    · exact h.flowStale ch

theorem rechooseUvt (h : s.steadfast t) (ch : ChanId) (old : Option PointId) : s.steadfast (rechooseUvt ch old t) := by
  unfold Machine.rechooseUvt
  split
  · split
    · exact h
    · exact h.setUvt ch _ _
  · split
    · exact h
    · exact h.setUvt ch _ _

theorem wiperReport (h : s.steadfast t) (b : BankId) (w : WiperPos) : s.steadfast (wiperReport b w t) := by
  unfold Machine.wiperReport wipeFails
  split
  · exact h
  · exact h
  · exact h.bank b
  · exact (h.bank b).raise _ _
  · exact h.bank b
  · exact h
  · exact (h.bank b).raise _ _

/-! #### Modes, programs and writes (05, 06, 09, 10) -/

theorem calmStaging (h : s.steadfast t) (ch : ChanId) : s.steadfast (calmStaging ch t) := (h.chan ch).report _ _ _

theorem clearAccounting (h : s.steadfast t) (ch : ChanId) : s.steadfast (clearAccounting ch t) :=
  ((h.chan ch).report _ _ _).report _ _ _

theorem fallbackIfStale (h : s.steadfast t) (ch : ChanId) : s.steadfast (fallbackIfStale ch t) := by
  unfold Machine.fallbackIfStale
  split
  · exact h
  · exact h.startFallback ch

theorem judgeChannel (h : s.steadfast t) (ch : ChanId) : s.steadfast (judgeChannel ch t) :=
  h.unit (judgeChannel_alarmUnitOnly ch t)

theorem judgeBank (h : s.steadfast t) (b : BankId) : s.steadfast (judgeBank b t) :=
  h.unit (judgeBank_alarmUnitOnly b t)

theorem startInterval (h : s.steadfast t) (b : BankId) : s.steadfast (startInterval b t) :=
  h.bank b fun x => by split <;> rfl

theorem placeWiper (h : s.steadfast t) (b : BankId) (st : Nat) : s.steadfast (placeWiper b st t) := by
  unfold Machine.placeWiper
  dsimp only
  split
  · exact (h.bank b (f := fun x => { x with wiperSlot := some st })).trans (.of_eq rfl rfl)
  · exact h.bank b

theorem wiperStart (h : s.steadfast t) (b : BankId) : s.steadfast (wiperStart b t) := by
  unfold Machine.wiperStart
  split
  · exact h
  · exact (h.bank b).placeWiper b _

theorem applyBlank (h : s.steadfast t) (b : BankId) (op : BlankOp) : s.steadfast (applyBlank b op t) := by
  unfold Machine.applyBlank
  split
  · exact h.bank b
  · exact h.bank b
  · exact h

theorem clearFlags (h : s.steadfast t) (chs : List ChanId) : s.steadfast (clearFlags chs t) :=
  h.each (fun ch _ h => h.chan ch) chs

theorem storeChanSetting (h : s.steadfast t) (ch : ChanId) (x : ChanSetting) (v : Nat) :
    s.steadfast (storeChanSetting ch x v t) := by
  have stored := h.chan ch (f := fun c => { c with settings := put c.settings x.idx v })
  have lamps : ∀ (f : Lamp → Lamp) (l : List LampId) {u : State}, s.steadfast u →
      s.steadfast (forEach l (fun l s => s.modLamp l f) u) :=
    fun f l _ hu => hu.each (fun l t h => h.lampwise (.lamp (.refl t) l f)) l
  unfold Machine.storeChanSetting chanSettingActs
  split
  · exact stored.accrue ch 0
  · exact stored.chan ch
  · exact lamps _ _ stored
  · exact lamps _ _ stored
  · exact lamps _ _ stored
  · exact stored

theorem setPriority (h : s.steadfast t) (k : AlarmKind) (new : Nat) : s.steadfast (setPriority k new t) := by
  unfold Machine.setPriority
  dsimp only
  split
  · exact h
  · have stored : s.steadfast { t with priorities := put t.priorities k.idx new } := h.trans (.of_eq rfl rfl)
    refine State.steadfast.unit (State.steadfast.each (fun i t h => ?_) _ stored) (judgeLine_alarmUnitOnly _)
    unfold reprioritise
    split
    · exact h.unit (leavePending_alarmUnitOnly k i .idle t)
    · split
      · exact h.unit (enterPending_alarmUnitOnly k i t)
      · exact h

theorem storeDevice (h : s.steadfast t) (x : DeviceSetting) (v : Nat) : s.steadfast (storeDevice x v t) := by
  cases x with
  | errorLimit p => exact h.port p fun q => { q with errorLimit := v }
  | threshold => exact h.trans (.of_eq rfl rfl)
  | alertDest => exact h.trans (.of_eq rfl rfl)

theorem pulseGapEnds (h : s.steadfast t) (ch : ChanId) : s.steadfast (pulseGapEnds ch t) := by
  unfold Machine.pulseGapEnds
  split
  · split
    · exact h.chan ch
    · exact h.chan ch
  · exact h

end State.steadfast

end Sys2Proof.Machine

namespace Sys2Proof.Machine
open Sys2Proof

set_option Elab.async false

/-! ### Invariants over modes, locks, start lists and programs

Every command is an event that keeps all standings, or one of those below. -/

/-- `P` reads the standings alone, and every event that changes one keeps it. -/
structure State.Invariant (P : State → Prop) : Prop where
  still      : ∀ {s t : State}, s.steadfast t → P s → P t
  review     : ∀ {s : State}, P s → ∀ ch, P (review ch s)
  wipe       : ∀ {s : State}, P s → ∀ b, P (startWipe b s)
  judgeLit   : ∀ {s : State}, P s → ∀ b, P (judgeLit b s)
  recheck    : ∀ {s : State}, P s → ∀ b, P (recheckFaulted b s)
  lock       : ∀ {s : State}, P s → ∀ b, P (lockBank b s)
  unlock     : ∀ {s : State}, P s → ∀ b, P (unlockBank b s)
  endProgram : ∀ {s : State}, P s → ∀ b k, (s.bank b).running = some k → P (endProgram b k s)
  run        : ∀ {s : State}, P s → ∀ b, (s.bank b).state = .warming → P (runBank b s)
  fault      : ∀ {s : State}, P s → ∀ b, P (faultBank b s)
  runAtEnd   : ∀ {s : State}, P s → ∀ b, P (runAtEnd b s)
  takeEdit   : ∀ {s : State}, P s → ∀ ch st n, (s.chan ch).holder = none → P (enterEdit ch (holdLock ch st n s))
  renew      : ∀ {s : State}, P s → ∀ ch st n, (s.chan ch).holder ≠ none → P (holdLock ch st n s)
  depart     : ∀ {s : State}, P s → ∀ ch, P (departEdit ch (freeLock ch s))
  lapse      : ∀ {s : State}, P s → ∀ ch, P (enterUnarmed ch (freeLock ch s))
  unarm      : ∀ {s : State}, P s → ∀ ch, (s.chan ch).mode ≠ .edit → P (enterUnarmed ch s)
  changeMode : ∀ {s : State}, P s → ∀ ch m, (s.chan ch).mode ≠ .edit → m ≠ .edit → P (changeMode ch m s)
  previous   : ∀ {s : State}, P s → ∀ ch, P (s.modChan ch fun c => { c with prevMode := .auto })
  owner      : ∀ {s : State}, P s → ∀ b new, (s.bank b).owner = new ∨ (s.bank b).state.idle → P (setOwner b new s)
  restart    : ∀ {s : State}, P s → ∀ straps, P (s.restartValues straps)
  reset      : ∀ straps, P (State.afterReset straps)

namespace State.Invariant

variable {P : State → Prop} {s t : State}

theorem chan (I : Invariant P) (h : P s) (ch : ChanId) {f : Channel → Channel}
    (hf : ∀ x : Channel, (f x).standing = x.standing := by exact fun _ => rfl) : P (s.modChan ch f) :=
  I.still (.chan (.refl s) ch hf) h

theorem bank (I : Invariant P) (h : P s) (b : BankId) {f : Bank → Bank}
    (hf : ∀ x : Bank, (f x).standing = x.standing := by exact fun _ => rfl) : P (s.modBank b f) :=
  I.still (.bank (.refl s) b hf) h

theorem lamps (I : Invariant P) (h : P s) (g : s.lampwise t) : P t := I.still (.lampwise (.refl s) g) h

theorem of_eq (I : Invariant P) (h : P s) (hc : t.channels = s.channels) (hb : t.banks = s.banks) : P t :=
  I.still (.of_eq hc hb) h

variable (P) in
theorem each {α : Type} {f : α → State → State} (turn : ∀ x {t : State}, P t → P (f x t)) (l : List α) (h : P s) :
    P (forEach l f s) :=
  forEach_keeps (fun x _ _ h => turn x h) h

theorem point (I : Invariant P) (h : P s) (p : PointId) (x : Option Point) : P (s.setPoint p x) := I.of_eq h rfl rfl

theorem report (I : Invariant P) (h : P s) (k : AlarmKind) (i : Nat) (holds : Bool) : P (report k i holds s) :=
  I.still (.report (.refl s) k i holds) h

theorem raise (I : Invariant P) (h : P s) (k : AlarmKind) (i : Nat) : P (raise k i s) :=
  I.still (.raise (.refl s) k i) h

theorem endEvent (I : Invariant P) (h : P s) : P (endEvent s) := I.still (.endEvent (.refl s)) h

/-! #### Banks and their lamps (03, 05 to 07) -/

theorem requestForBank (I : Invariant P) (h : P s) (b : BankId) : P (requestForBank b s) := by
  unfold Machine.requestForBank requestStageUp
  split
  · split
    · exact I.review (I.chan h _) _
    · exact h
  · exact h

theorem requestIfRun (I : Invariant P) (h : P s) (b : BankId) : P (requestIfRun b s) := by
  unfold Machine.requestIfRun
  split
  · exact I.requestForBank h b
  · exact h

theorem judgeOutputLow (I : Invariant P) (h : P s) (b : BankId) : P (judgeOutputLow b s) := by
  have told := I.report h .outputLow b.1 (s.bank b).outputLow
  unfold Machine.judgeOutputLow forcedWipe
  dsimp only
  split
  · split
    · exact I.wipe told b
    · exact told
  · exact told

theorem judgeSag (I : Invariant P) (h : P s) (b : BankId) : P (judgeSag b s) := I.report h _ _ _

theorem runStep (I : Invariant P) (h : P s) (b : BankId) (r sn : Nat) : P (runStep b r sn s) := by
  unfold Machine.runStep
  dsimp only
  split
  · exact I.requestForBank (I.judgeOutputLow (I.judgeSag (I.bank h b) b) b) b
  · exact I.judgeOutputLow (I.judgeSag (I.bank h b) b) b

theorem runSample (I : Invariant P) (h : P s) (b : BankId) (sn : Nat) : P (runSample b sn s) := by
  unfold Machine.runSample
  dsimp only
  split
  · exact I.judgeOutputLow (I.judgeSag (I.bank h b) b) b
  · split
    · exact I.judgeOutputLow (I.bank h b) b
    · exact I.runStep h b _ sn

theorem warmSample (I : Invariant P) (h : P s) (b : BankId) (sn : Nat) : P (warmSample b sn s) := by
  unfold Machine.warmSample
  dsimp only
  split
  · exact I.bank h b
  · exact I.judgeLit (I.bank h b) b

theorem takeSample (I : Invariant P) (h : P s) (b : BankId) (v : Nat) : P (takeSample b v s) := by
  unfold Machine.takeSample
  dsimp only
  split
  · exact h
  · split
    · exact I.bank h b
    · split
      · exact I.warmSample (I.bank h b) b _
      · exact I.runSample (I.bank h b) b _
      all_goals exact I.bank h b

theorem sagTimerEnds (I : Invariant P) (h : P s) (b : BankId) : P (sagTimerEnds b s) := by
  unfold Machine.sagTimerEnds acceptLevel
  split
  · exact I.judgeOutputLow (I.raise (I.judgeSag (I.bank h b) b) _ _) b
  · exact h

theorem unseedBank (I : Invariant P) (h : P s) (b : BankId) : P (unseedBank b s) := I.bank h b

theorem adoptLamp (I : Invariant P) (h : P s) (l : LampId) (b : BankId) : P (adoptLamp l b s) := by
  have lit := I.lamps h (.becomeLit (.refl s) true l)
  unfold Machine.adoptLamp
  dsimp only
  split
  · split
    · exact I.lamps lit (.putOutLit (.refl _) l)
    · exact I.judgeLit lit b
  · exact I.judgeLit lit b

theorem statusActs (I : Invariant P) (h : P s) (l : LampId) (x : Lamp) (st : LampStatus) : P (statusActs l x st s) := by
  have quenched : P (placeLamp l .quench s) := I.lamps h (.placeLamp (.refl s) l .quench)
  have lost : P (statusLost l x s) := by
    unfold statusLost
    split
    · exact I.judgeLit (I.lamps h (.dropoutLamp (.refl s) l)) _
    · exact h
  have held : P (if x.cmd = some .quench then s else placeLamp l .quench s) := by
    split
    · exact h
    · exact quenched
  have hot : P (s.modLamp l fun x => { x with cool := 1000 }) := I.lamps h (.lamp (.refl s) l _)
  unfold Machine.statusActs
  split
  · unfold statusLit
    split
    · split
      · exact I.adoptLamp h l _
      · exact quenched
    · exact I.judgeLit (I.lamps h (.becomeLit (.refl s) false l)) _
    · exact h
    · exact held
    · exact held
    · exact quenched
  · exact lost
  · split
    · exact I.lamps h (.strikeFailure (.refl s) l)
    · exact h
  · exact lost
  · unfold statusHot
    split
    · exact I.judgeLit (I.lamps h (.overtempOut (.refl s) l)) _
    · exact I.lamps h (.overtempOut (.refl s) l)
    all_goals exact hot

theorem tapStatus (I : Invariant P) (h : P s) (src : Nat) (payload : List Byte) : P (tapStatus src payload s) := by
  unfold Machine.tapStatus
  split
  · next st l _ _ =>
    unfold lampStatus
    split
    · exact h
    · next x _ =>
      have confirmed := I.lamps h (.lamp (.refl s) l fun x => { x with unconfirmed := false })
      have acted := I.statusActs confirmed l x st
      dsimp only
      split
      · split
        · exact I.lamps acted (.strikePath (.refl _) l)
        · exact acted
      · exact confirmed
  · exact h

theorem clearLamp (I : Invariant P) (h : P s) (l : LampId) : P (clearLamp l s) := by
  unfold Machine.clearLamp
  split
  · exact h
  · split
    · exact I.lamps (I.recheck (I.lamps h (.lamp (.refl s) l _)) _) (.strikePath (.refl _) l)
    · exact h

/-! #### Expiries (05, 06) -/

/-- A lamp set is applied whole and the lit count judged after it. -/
theorem lampSet (I : Invariant P) (h : P s) (b : BankId) (m : Option Byte) :
    P (match m with
      | some m => judgeLitFrom b (s.litCount b) (applyLampSet b m s)
      | none => s) := by
  cases m with
  | none => exact h
  | some m =>
    have set := I.lamps h (.applyLampSet (.refl s) b m)
    unfold judgeLitFrom
    dsimp only
    split
    · exact set
    · exact I.judgeLit set b

theorem stepEffects (I : Invariant P) (h : P s) (b : BankId) (x : Machine.Step) : P (stepEffects b x s) := by
  have blanked := I.still (.applyBlank (.refl s) b x.blank) h
  refine I.lampSet (s := if x.wiper then wiperStart b (applyBlank b x.blank s) else applyBlank b x.blank s) ?_ b x.set
  split
  · exact I.still (.wiperStart (.refl _) b) blanked
  · exact blanked

theorem stepEnds (I : Invariant P) (h : P s) (b : BankId) : P (stepEnds b s) := by
  unfold Machine.stepEnds takeStep
  dsimp only
  split
  · split
    · next k _ =>
      have acted := I.stepEffects h b (((s.bank b).program k).get (s.bank b).stepIdx)
      split
      · next running =>
        split
        · exact I.endProgram acted b k running
        · exact I.bank acted b
      · exact acted
    · exact h
  · exact h

theorem intervalEnds (I : Invariant P) (h : P s) (b : BankId) : P (intervalEnds b s) := by
  have stopped := I.bank h b (f := fun x => { x with wipeInterval := none })
  unfold Machine.intervalEnds
  dsimp only
  split
  · split
    · exact stopped
    · split
      · exact I.wipe stopped b
      · exact I.bank stopped b
  · exact h

theorem wipeLimitEnds (I : Invariant P) (h : P s) (b : BankId) : P (wipeLimitEnds b s) := by
  unfold Machine.wipeLimitEnds wipeFails
  split
  · exact I.raise (I.bank h b) _ _
  · exact h

theorem warmLimitEnds (I : Invariant P) (h : P s) (b : BankId) : P (warmLimitEnds b s) := by
  have stopped := I.bank h b (f := fun x => { x with warmTimer := none })
  unfold Machine.warmLimitEnds
  dsimp only
  split
  · next ends =>
    split
    · exact stopped
    · split
      · exact I.run stopped b (by simpa using ends.2)
      · exact I.fault stopped b
  · exact h

theorem faultRestEnds (I : Invariant P) (h : P s) (b : BankId) : P (faultRestEnds b s) := by
  unfold Machine.faultRestEnds
  split
  · exact I.recheck (I.bank h b) b
  · exact h

theorem settleEnds (I : Invariant P) (h : P s) (b : BankId) : P (settleEnds b s) := by
  unfold Machine.settleEnds
  split
  · exact I.bank h b
  · exact h

theorem windowEnds (I : Invariant P) (h : P s) (ch : ChanId) : P (windowEnds ch s) := by
  unfold Machine.windowEnds
  dsimp only
  split
  · have closed := I.chan h ch (f := fun c => { c with adoption := none })
    refine I.review (each P (f := Machine.runAtEnd) (fun b _ h => I.runAtEnd h b) _ (I.lamps closed ?_)) ch
    exact .each (f := putOutUnlisted) (fun l _ h => h.putOutUnlisted l) _
      (.each (f := confirmAtEnd) (fun l _ h => h.confirmAtEnd l) _ (.refl _))
  · exact h

/-! #### Passes and points (01, 02) -/

theorem recode (I : Invariant P) (h : P s) (ch : ChanId) : P (recode ch s) := I.still (.recode (.refl s) ch) h

theorem volumeStage (I : Invariant P) (h : P s) (ch : ChanId) (qm : Nat) (offSpec : Bool) :
    P (volumeStage ch qm offSpec s) :=
  I.still (.volumeStage (.refl s) ch qm offSpec) h

theorem powerPass (I : Invariant P) (h : P s) (ch : ChanId) (e : Int) : P (powerPass ch e s) := by
  unfold Machine.powerPass
  exact I.recode (I.chan h ch) ch

theorem moveCounters (I : Invariant P) (h : P s) (ch : ChanId) (e : Int) :
    P (s.modChan ch fun c => c.moveCounters e) := by
  refine I.chan h ch fun c => ?_
  unfold Channel.moveCounters
  split <;> rfl

theorem fullPass (I : Invariant P) (h : P s) (ch : ChanId) : P (fullPass ch s) := by
  unfold Machine.fullPass
  dsimp only
  have judged := I.chan h ch (f := fun c => c.setAcct fun a => a.judged (s.fullResult ch) ((s.chan ch).get .dtarget))
  have told : P (judgeOutOfRange ch (judgeDoseLow ch (s.modChan ch fun c =>
      c.setAcct fun a => a.judged (s.fullResult ch) ((s.chan ch).get .dtarget)))) :=
    I.report (I.report judged _ _ _) _ _ _
  exact I.review (I.moveCounters (I.powerPass (I.volumeStage told ch _ _) ch _) ch _) ch

theorem takePass (I : Invariant P) (h : P s) (ch : ChanId) : P (takePass ch s) := by
  unfold Machine.takePass frozenPass
  split
  · exact I.fullPass h ch
  · exact I.fullPass h ch
  · exact I.fullPass h ch
  · exact I.fullPass h ch
  · exact I.volumeStage (I.chan h ch) ch _ _
  · exact h

theorem tellAccepted (I : Invariant P) (h : P s) (p : PointId) (c : PointCfg) (raw : Nat) :
    P (tellAccepted p c raw s) := by
  unfold Machine.tellAccepted
  split
  · split
    · exact I.takePass (I.report (I.chan h _) _ _ _) _
    · exact h
  · refine each P (fun ch t h => ?_) _ h
    split
    · exact I.still (.setUvt (.refl t) ch _ _) h
    · exact h
  · split
    · exact I.takeSample (I.report h _ _ _) _ _
    · exact h
  · split
    · exact I.still (.wiperReport (.refl s) _ _) h
    · exact h

theorem intakeItems (I : Invariant P) (src : Nat) (l : List SampleItem) (h : P s) : P (intakeItems src l s).1 := by
  induction l generalizing s with
  | nil => exact h
  | cons i l ih =>
    have taken : P (intakeItem src i s) := by
      unfold intakeItem acceptItem
      split
      · exact h
      · split
        · split
          · exact I.tellAccepted (I.point h _ _) _ _ _
          · exact h
        · exact h
    unfold Machine.intakeItems
    dsimp only
    split <;> exact ih taken

theorem tellStale (I : Invariant P) (h : P s) (p : PointId) (x : Point) : P (tellStale p x s) := by
  unfold Machine.tellStale
  split
  · split
    · exact I.still (.flowStale (.refl s) _) h
    · exact h
  · refine each P (fun ch t h => ?_) _ h
    split
    · exact I.still (.uvtStale (.refl t) ch _) h
    · exact h
  · split
    · exact I.requestIfRun (I.unseedBank (I.report h _ _ _) _) _
    · exact h
  · exact h

theorem freshnessEnds (I : Invariant P) (h : P s) (p : PointId) : P (freshnessEnds p s) := by
  unfold Machine.freshnessEnds goStale
  split
  · exact h
  · split
    · split
      · exact h
      · exact I.tellStale (I.point h p _) p _
    · exact h

theorem rechooseIntensity (I : Invariant P) (h : P s) (b : BankId) (old : Option PointId) :
    P (rechooseIntensity b old s) := by
  have told : P (judgeIntensityStale b (Machine.unseedBank b s)) := I.report (I.unseedBank h b) _ _ _
  unfold Machine.rechooseIntensity
  dsimp only
  split
  · exact h
  · split
    · exact told
    · exact I.requestIfRun told b

theorem writePoint (I : Invariant P) (h : P s) (p : PointId) (new : Option PointCfg) : P (writePoint p new s) := by
  have discarded : P (discardPoint p s) := by
    unfold discardPoint
    split
    · exact h
    · dsimp only
      split
      · exact I.tellStale (I.point h p _) p _
      · exact I.point h p _
  have kept : ∀ keeps : Bool, P (if keeps then s else discardPoint p s) := by
    intro keeps
    cases keeps
    · exact discarded
    · exact h
  unfold Machine.writePoint
  refine each P (fun b _ h => I.rechooseIntensity h b _) _ (each P (fun ch t h => ?_) _ (each P (fun ch t h => ?_) _ ?_))
  · exact I.still (.rechooseUvt (.refl t) ch _) h
  · exact I.still (.rechooseFlow (.refl t) ch _) h
  · exact I.point (kept _) p _

/-! #### Channels' timed events (01, 02, 05, 10) -/

theorem takeMode (I : Invariant P) (h : P s) (ch : ChanId) {m : Mode} (value count lease : Nat)
    (hs : (s.chan ch).mode ≠ .edit) (hm : m ≠ .edit) : P (takeMode ch m value count lease s) := by
  have changed : P (if (s.chan ch).mode = m then s else Machine.changeMode ch m s) := by
    split
    · exact h
    · exact I.changeMode h ch m hs hm
  unfold Machine.takeMode setManual
  refine I.review ?_ ch
  split
  · exact I.chan changed ch
  · exact changed

theorem manualLeaseEnds (I : Invariant P) (h : P s) (ch : ChanId) : P (manualLeaseEnds ch s) := by
  have given := I.chan h ch (f := fun c => { c with manualLease := none })
  unfold Machine.manualLeaseEnds
  dsimp only
  split
  · split
    · next manual => exact I.review (I.changeMode given ch .auto (by rw [manual]; nofun) nofun) ch
    · split
      · exact I.previous given ch
      · exact given
    all_goals exact given
  · exact h

theorem editLeaseEnds (I : Invariant P) (h : P s) (ch : ChanId) : P (editLeaseEnds ch s) := by
  unfold Machine.editLeaseEnds Machine.lapse
  dsimp only
  split
  · split
    · exact I.depart h ch
    · exact I.raise (I.lapse h ch) _ _
  · exact h

theorem fallbackEnds (I : Invariant P) (h : P s) (ch : ChanId) : P (fallbackEnds ch s) := by
  unfold Machine.fallbackEnds
  split
  · exact I.chan (I.takePass h ch) ch
  · exact h

theorem uvtHoldEnds (I : Invariant P) (h : P s) (ch : ChanId) : P (uvtHoldEnds ch s) := by
  unfold Machine.uvtHoldEnds
  split
  · exact I.still (.setUvt (.refl s) ch _ _) h
  · exact h

theorem pulseWidthEnds (I : Invariant P) (h : P s) (ch : ChanId) : P (pulseWidthEnds ch s) := by
  unfold Machine.pulseWidthEnds
  split
  · exact I.chan h ch
  · exact h

/-! #### Requests (09, 10) -/

theorem takeWrite (I : Invariant P) (h : P s) {tests : List (Option Reason)} {chs : List ChanId} {clamped : Bool}
    {effect : State → State} (he : (∀ o ∈ tests, o = none) → P (clearFlags chs s) → P (effect (clearFlags chs s))) :
    P (takeWrite tests chs clamped effect s).1 := by
  obtain e | ⟨passed, e⟩ := takeWrite_cases tests chs clamped effect s
  · rw [e]
    exact h
  · rw [e]
    exact he passed (I.still (.clearFlags (.refl s) chs) h)

theorem storeBankSetting (I : Invariant P) (h : P s) (b : BankId) (x : BankSetting) (v : Nat) :
    P (storeBankSetting b x v s) := by
  have stored := I.bank h b (f := fun y => { y with settings := put y.settings x.idx v })
  unfold Machine.storeBankSetting bankSettingActs
  split
  · exact I.judgeOutputLow stored b
  · exact I.judgeOutputLow stored b
  · exact I.recheck stored b
  · unfold wipeIntervalActs
    dsimp only
    split
    · exact I.still (.startInterval (.refl _) b) stored
    · exact stored
  · exact stored

theorem setWiperStation (I : Invariant P) (h : P s) (b : BankId) (st : Option Nat) : P (setWiperStation b st s) := by
  unfold Machine.setWiperStation
  split
  · exact h
  · exact I.bank h b

theorem writeOwner (I : Invariant P) (h : P s) (st : Nat) (b : BankId) (v : Half) : P (writeOwner st b v s).1 := by
  unfold Machine.writeOwner
  split
  · exact h
  · next new _ =>
    refine I.takeWrite h fun passed cleared => I.owner cleared b new ?_
    obtain ⟨_, e⟩ := clearFlags_channels ((s.bank b).owner.toList ++ new.toList) s
    have free := test_none (passed _ (.tail _ (.tail _ (.head _))))
    rw [Bool.or_eq_true, decide_eq_true_eq] at free
    rw [e]
    exact free

theorem writeBankRecord (I : Invariant P) (h : P s) (st : Nat) (bank field : Byte) (v : Half) :
    P (writeBankRecord st bank field v s).1 := by
  unfold Machine.writeBankRecord
  split
  · exact I.takeWrite h fun _ h => I.storeBankSetting h _ _ _
  · exact I.writeOwner h st _ v
  · dsimp only
    split
    · exact I.takeWrite h fun _ h => I.setWiperStation h _ _
    · exact h
  · exact h
  · exact h

theorem storeLamp (I : Invariant P) (h : P s) (l : LampId) (new : Option LampCfg) : P (storeLamp l new s) := by
  have stored : P (s.setLamp l (rewritten (s.lamp l) new (s.timer coolPeriod))) := I.of_eq h rfl rfl
  have governed := I.lamps stored (.regovern (.refl _) (s.lampGoverned l) l)
  unfold Machine.storeLamp
  dsimp only
  split <;> split
  · exact I.recheck (I.recheck governed _) _
  · exact I.recheck governed _
  · exact I.recheck governed _
  · exact governed

theorem complete (I : Invariant P) (h : P s) (k : AlarmKind) (i : Nat) : P (complete k i s) := by
  have finish : ∀ b : Bool, P (if b then enterPending k i s else leavePending k i .idle s) := by
    intro b
    cases b
    · exact I.of_eq h rfl rfl
    · exact I.still (.unit (.refl s) (enterPending_alarmUnitOnly k i s)) h
  unfold Machine.complete
  dsimp only
  split
  · exact finish _
  · exact finish _
  · exact h
  · exact h

variable (P) in
theorem forChannel (h : P s) (ch : Byte) {f : ChanId → State → State × Answer} (hf : ∀ c, P (f c s).1) :
    P (forChannel ch f s).1 := by
  unfold Machine.forChannel
  split
  · exact hf _
  · exact h

variable (P) in
theorem forBank (h : P s) (bank : Byte) {f : BankId → State → State × Answer} (hf : ∀ b, P (f b s).1) :
    P (forBank bank f s).1 := by
  unfold Machine.forBank
  split
  · exact hf _
  · exact h

variable (P) in
theorem answerRead (h : P s) (data : Option (List Byte)) : P (answerRead data s).1 := by
  cases data <;> exact h

theorem handleTakeEdit (I : Invariant P) (h : P s) (st : Nat) (ch : Byte) (lease : Half) :
    P (handleTakeEdit st ch lease s).1 := by
  refine forChannel P h ch fun c => ?_
  split
  · exact h
  · split
    · next free => exact I.takeEdit h c st _ free
    · next held =>
      split
      · exact I.renew h c st _ (by rw [held]; nofun)
      · exact h

theorem handleGiveEdit (I : Invariant P) (h : P s) (st : Nat) (ch : Byte) : P (handleGiveEdit st ch s).1 := by
  refine forChannel P h ch fun c => ?_
  split
  · exact h
  · split
    · exact h
    · exact I.depart (I.chan h c) c

theorem Mode.armed_ne_edit {m : Mode} (h : m.armed = true) : m ≠ .edit := by
  rintro rfl
  cases h

theorem handleUnarm (I : Invariant P) (h : P s) (ch : Byte) : P (handleUnarm ch s).1 := by
  refine forChannel P h ch fun c => ?_
  by_cases armed : (s.chan c).mode.armed = true
  · rw [if_pos armed]
    dsimp only
    exact I.unarm h c (Mode.armed_ne_edit armed)
  · rw [if_neg armed]
    exact h

theorem armedModeOf_ne_edit {mode : Byte} {m : Mode} (h : armedModeOf mode = some m) : m ≠ .edit := by
  rintro rfl
  unfold armedModeOf at h
  split at h <;> cases h

theorem handleSetMode (I : Invariant P) (h : P s) (ch mode : Byte) (value : Half) (count : Byte) (lease : Half) :
    P (handleSetMode ch mode value count lease s).1 := by
  unfold Machine.handleSetMode
  split
  · exact I.handleUnarm h ch
  · split
    · next named =>
      refine forChannel P h ch fun c => ?_
      split
      · next armed => exact I.takeMode h c _ _ _ (Mode.armed_ne_edit armed) (armedModeOf_ne_edit named)
      · exact h
    · exact h

theorem handleBankAction (I : Invariant P) (h : P s) (bank action : Byte) : P (handleBankAction bank action s).1 := by
  unfold Machine.handleBankAction
  split
  · exact forBank P h bank fun b => I.lock h b
  · exact forBank P h bank fun b => I.unlock h b
  · refine forBank P h bank fun b => ?_
    split
    · exact h
    · exact I.wipe h b
  · exact h

theorem handle (I : Invariant P) (h : P s) (st : Nat) (req : Request) : P (handle st req s).1 := by
  cases req with
  | identify => exact h
  | readEntry t i n => exact answerRead P h _
  | writeChannelSetting ch x v =>
    show P (writeChannelSetting st ch x v s).1
    unfold Machine.writeChannelSetting
    split
    · exact I.takeWrite h fun _ h => I.still (.storeChanSetting (.refl _) _ _ _) h
    · exact h
  | writeUvtCurvePoint ch pt u f =>
    show P (writeCurvePoint uvtX uvtY storeUvtPoint st ch pt u f s).1
    unfold Machine.writeCurvePoint
    split
    · exact I.takeWrite h fun _ h => I.chan h _
    · exact h
  | writeBallastCurvePoint ch pt d c =>
    show P (writeCurvePoint ballastX ballastY storeBallastPoint st ch pt d c s).1
    unfold Machine.writeCurvePoint
    split
    · exact I.takeWrite h fun _ h => I.chan h _
    · exact h
  | writeBankRecord b f v => exact I.writeBankRecord h st b f v
  | writeProgram b k steps =>
    show P (writeProgram st b k steps s).1
    unfold Machine.writeProgram
    split
    · exact h
    · split
      · next k _ _ _ _ => exact I.takeWrite h fun _ h => I.bank h _ fun x => by cases k <;> rfl
      · exact h
  | writeLampEntry l n b sl =>
    show P (writeLampEntry st l n b sl s).1
    unfold Machine.writeLampEntry
    split
    · exact I.takeWrite h fun _ h => I.storeLamp h _ _
    · exact h
  | writePointEntry p c =>
    show P (writePointEntry st p c s).1
    unfold Machine.writePointEntry
    split
    · exact I.takeWrite h fun _ h => I.writePoint h _ _
    · exact h
  | writeAlarmPriority k v =>
    show P (writePriority k v s).1
    unfold Machine.writePriority
    split
    · exact I.takeWrite h fun _ h => I.still (.setPriority (.refl _) _ _) h
    · exact h
  | writeDeviceSetting x v =>
    show P (writeDevice x v s).1
    unfold Machine.writeDevice
    split
    · exact I.takeWrite h fun _ h => I.still (.storeDevice (.refl _) _ _) h
    · exact h
  | takeEdit ch lease => exact I.handleTakeEdit h st ch lease
  | giveEdit ch => exact I.handleGiveEdit h st ch
  | setMode ch m v n lease => exact I.handleSetMode h ch m v n lease
  | bankAction b a => exact I.handleBankAction h b a
  | lampClear l =>
    show P (handleLampClear l s).1
    unfold Machine.handleLampClear
    split
    · split
      · exact I.clearLamp h _
      · exact h
    · exact h
  | readState k i =>
    show P (handleReadState k i s).1
    unfold Machine.handleReadState
    split
    · exact answerRead P h _
    · exact h
  | readTotals ch => exact forChannel P h ch fun _ => h
  | clearTotals ch => exact forChannel P h ch fun c => I.chan h c (f := fun x => x.setAcct Accounting.clearTotals)
  | claimAlarm =>
    show P (claim s)
    unfold Machine.claim
    split
    · exact I.of_eq h rfl rfl
    · exact h
  | completeAlarm k i =>
    show P (handleComplete k i s).1
    unfold Machine.handleComplete
    split
    · exact I.complete h _ _
    · exact h
  | restart => exact I.of_eq h rfl rfl
  | badReference => exact h
  | unknown => exact h

theorem consume (I : Invariant P) (h : P s) (r : Sender) (kind : Byte) (restart : Bool) {f : State → State × Answer}
    (hf : P (f s).1) : P (consume r kind restart f s) := by
  unfold Machine.consume
  split
  · exact h
  · split
    · exact I.still (.endEvent (.raise (.refl s) _ _)) h
    · exact I.still (.sendReply (.endEvent (.refl _)) r kind restart _) hf

theorem requestRow (I : Invariant P) (h : P s) (r : Sender) (req : Request) (st : Nat) :
    P (requestRow r req (Machine.handle st req) s) := by
  unfold Machine.requestRow
  split
  · exact I.still (.endEvent (.forwardFrame (.refl s) _ _)) h
  · exact I.consume h r _ _ (I.handle h st req)

/-! #### Frames, restart and transmission (08, 09) -/

theorem manageFrame (I : Invariant P) (h : P s) (p : Port) (f : Frame) : P (manageFrame p f s) := by
  unfold Machine.manageFrame
  split
  · exact I.consume h _ _ _ (I.handle h _ _)
  · split
    · exact h
    · split
      · exact I.still (.endEvent (.raise (.refl s) _ _)) h
      · exact h

theorem fromSouth (I : Invariant P) (h : P s) (f : Frame) : P (fromSouth f s) := by
  have tapped : P (tapSample f s).1 := by
    unfold tapSample
    split
    · exact I.intakeItems _ _ h
    · exact h
  unfold Machine.fromSouth
  split
  · exact I.still (.passOn (.endEvent (.refl _)) .south _) tapped
  · split
    · exact I.still (.passOn (.endEvent (.refl _)) .south f) (I.tapStatus h _ _)
    · exact I.still (.passOn (.refl s) .south f) h

theorem receiveGood (I : Invariant P) (h : P s) (p : Port) (f : Frame) : P (receiveGood p f s) := by
  unfold Machine.receiveGood
  split
  · exact I.still (.endEvent (.forwardFrame (.refl s) p f)) h
  · split
    · exact I.manageFrame h p f
    · cases p
      · exact I.still (.fromNorth (.refl s) f) h
      · exact I.fromSouth h f

theorem faultyFrame (I : Invariant P) (h : P s) (p : Port) : P (Machine.endEvent (faultyFrame p s)) :=
  I.still (.endEvent (.faultyFrame (.refl s) p)) h

theorem receiveFrame (I : Invariant P) (h : P s) (p : Port) (f : Frame) : P (receiveFrame p f s) := by
  unfold Machine.receiveFrame
  split
  · exact I.receiveGood h p f
  · exact I.faultyFrame h p

theorem receiveBytes (I : Invariant P) (h : P s) (p : Port) (bytes : List Byte) : P (receiveBytes p bytes s) := by
  unfold Machine.receiveBytes
  split
  · exact I.receiveGood h p _
  · exact I.faultyFrame h p

theorem warmRestart (I : Invariant P) (h : P s) (straps : BitVec 7) : P (warmRestart straps s) := by
  unfold Machine.warmRestart
  refine I.endEvent (each P (fun ch t h => ?_) allChans (I.raise (I.restart h straps) .restarted 0))
  exact I.still (.judgeChannel (.refl t) ch) h

theorem transmissionDone (I : Invariant P) (h : P s) (p : Port) : P (transmissionDone p s) := by
  have dropped : P (dropHead p s) := I.still (.port (.refl s) p _) h
  have read : P { s with strapReads := s.strapReads + 1 } := I.of_eq h rfl rfl
  unfold Machine.transmissionDone restartAtCompletion
  split
  · exact h
  · split
    · exact I.warmRestart read _
    · split
      · exact dropped
      · exact I.still (.arbiter (.refl _) p) dropped

/-! #### Commands -/

theorem of_next {t u : State} (h : P t) (e : (.next t : Host.Outcome State Fault Refusal) = .next u) : P u :=
  Host.Outcome.next.inj e ▸ h

theorem exec (I : Invariant P) (h : P s) (i : Instr) (ht : Machine.exec i s = .next t) : P t := by
  have row : ∀ (r : Sender) (req : Request) (st : Nat),
      Machine.exec i s = .next (Machine.requestRow r req (Machine.handle st req) s) → P t := fun r req st e =>
    of_next (I.requestRow h r req st) (e.symm.trans ht)
  cases i with
  | fullReset straps =>
    refine of_next ?_ ht
    exact I.of_eq (I.reset straps) rfl rfl
  | warmRestart straps =>
    refine of_next ?_ ht
    split
    · exact I.warmRestart h straps
    · exact h
  | frameReception p bytes => exact of_next (I.receiveBytes h p bytes) ht
  | sampleFrame dst src payload => exact of_next (I.receiveFrame h _ _) ht
  | lampStatusFrame dst src payload => exact of_next (I.receiveFrame h _ _) ht
  | lampCmdFrame dst src payload => exact of_next (I.receiveFrame h _ _) ht
  | wiperCmdFrame dst src payload => exact of_next (I.receiveFrame h _ _) ht
  | identify r => exact row r .identify 0 rfl
  | readEntry r t i n => exact row r (.readEntry t i n) 0 rfl
  | writeChannelSetting r ch x v => exact row r (.writeChannelSetting ch x v) (stationOf r.src) rfl
  | writeUvtCurvePoint r ch pt u f => exact row r (.writeUvtCurvePoint ch pt u f) (stationOf r.src) rfl
  | writeBallastCurvePoint r ch pt d c => exact row r (.writeBallastCurvePoint ch pt d c) (stationOf r.src) rfl
  | writeBankRecord r b f v => exact row r (.writeBankRecord b f v) (stationOf r.src) rfl
  | writeProgram r b k steps => exact row r (.writeProgram b k steps) (stationOf r.src) rfl
  | writeLampEntry r l st b sl => exact row r (.writeLampEntry l st b sl) (stationOf r.src) rfl
  | writePointEntry r p c => exact row r (.writePointEntry p c) (stationOf r.src) rfl
  | writeAlarmPriority r k v => exact row r (.writeAlarmPriority k v) 0 rfl
  | writeDeviceSetting r x v => exact row r (.writeDeviceSetting x v) 0 rfl
  | takeEdit r ch lease => exact row r (.takeEdit ch lease) (stationOf r.src) rfl
  | giveEdit r ch => exact row r (.giveEdit ch) (stationOf r.src) rfl
  | setMode r ch m v n lease => exact row r (.setMode ch m v n lease) 0 rfl
  | setModeUnarm r ch => exact row r (.setMode ch unarmByte 0 0 0) 0 rfl
  | bankActionLock r b => exact row r (.bankAction b lockByte) 0 rfl
  | bankActionUnlock r b => exact row r (.bankAction b unlockByte) 0 rfl
  | bankActionWipeNow r b => exact row r (.bankAction b wipeNowByte) 0 rfl
  | lampClear r l => exact row r (.lampClear l) 0 rfl
  | readState r k i => exact row r (.readState k i) 0 rfl
  | readTotals r ch => exact row r (.readTotals ch) 0 rfl
  | clearTotals r ch => exact row r (.clearTotals ch) 0 rfl
  | claimAlarm r => exact row r .claimAlarm 0 rfl
  | completeAlarm r k i => exact row r (.completeAlarm k i) 0 rfl
  | restart r => exact row r .restart 0 rfl
  | transmissionComplete p => exact of_next (I.transmissionDone h p) ht
  | fallbackTimerExpiry ch => exact of_next (I.endEvent (I.fallbackEnds h ch)) ht
  | freshnessTimerExpiry p => exact of_next (I.endEvent (I.freshnessEnds h p)) ht
  | uvtHoldTimerExpiry ch => exact of_next (I.endEvent (I.uvtHoldEnds h ch)) ht
  | sagTimerExpiry b => exact of_next (I.endEvent (I.sagTimerEnds h b)) ht
  | settleTimerExpiry b => exact of_next (I.endEvent (I.settleEnds h b)) ht
  | manualLeaseExpiry ch => exact of_next (I.endEvent (I.manualLeaseEnds h ch)) ht
  | adoptionWindowExpiry ch => exact of_next (I.endEvent (I.windowEnds h ch)) ht
  | warmLimitExpiry b => exact of_next (I.endEvent (I.warmLimitEnds h b)) ht
  | faultRestExpiry b => exact of_next (I.endEvent (I.faultRestEnds h b)) ht
  | editLeaseLapse ch => exact of_next (I.endEvent (I.editLeaseEnds h ch)) ht
  | stepTimerExpiry b => exact of_next (I.endEvent (I.stepEnds h b)) ht
  | wipeIntervalExpiry b => exact of_next (I.endEvent (I.intervalEnds h b)) ht
  | wipeLimitExpiry b => exact of_next (I.endEvent (I.wipeLimitEnds h b)) ht
  | strikeWindowExpiry l => exact of_next (I.endEvent (I.lamps h (.strikeWindowEnds (.refl s) l))) ht
  | waitTimerExpiry l => exact of_next (I.endEvent (I.lamps h (.waitEnds (.refl s) l))) ht
  | dropoutClearExpiry l => exact of_next (I.endEvent (I.lamps h (.dropoutsClear (.refl s) l))) ht
  | coolingStep l => exact of_next (I.endEvent (I.lamps h (.coolLamp (.refl s) l))) ht
  | pulseWidthExpiry ch => exact of_next (I.endEvent (I.pulseWidthEnds h ch)) ht
  | pulseGapExpiry ch => exact of_next (I.endEvent (I.still (.pulseGapEnds (.refl s) ch) h)) ht

theorem step (I : Invariant P) (h : P s) (ht : Machine.step s = .next t) : P t := by
  unfold Machine.step at ht
  split at ht
  · have ticked : P (tick s) := I.of_eq h (by unfold tick State.advanceTo; rfl) (by unfold tick State.advanceTo; rfl)
    exact of_next ticked ht
  · next rest _ =>
    have taken : P { s with pending := rest } := I.of_eq h rfl rfl
    exact I.exec taken _ ht

end State.Invariant

end Sys2Proof.Machine

namespace Sys2Proof.Machine
open Sys2Proof

set_option Elab.async false

/-! ### Edit locks through every step (05, R77 to R82; 09, R157 to R159) -/

namespace State.locksSound

variable {s t : State}

theorem still (h : s.locksSound) (g : s.steadfast t) : t.locksSound := fun c => by
  have same := g.chans c
  simp only [Channel.standing, Channel.Standing.mk.injEq] at same
  obtain ⟨mode, prev, holder, _⟩ := same
  simpa only [Channel.lockSound, mode, prev, holder] using h c

/-- Staging moves neither a mode nor a lock. -/
theorem moves (h : s.locksSound) (m : s.moves t) : t.locksSound := fun c => by
  have sound := h c
  simp only [Channel.lockSound] at sound ⊢
  rwa [m.keeps Channel.mode, m.keeps Channel.prevMode, m.keeps Channel.holder]

/-- An update of one channel that leaves its lock sound. -/
theorem chan (h : s.locksSound) (ch : ChanId) {f : Channel → Channel}
    (hf : (s.chan ch).lockSound → (f (s.chan ch)).lockSound) : (s.modChan ch f).locksSound := fun d => by
  rw [State.modChan_chan]
  split
  · exact hf (h ch)
  · exact h d

theorem banks (h : s.locksSound) (e : t.channels = s.channels) : t.locksSound := fun c => by
  have same : t.chan c = s.chan c := by rw [State.chan, e, State.chan]
  rw [same]
  exact h c

theorem each {α : Type} {f : α → State → State} (turn : ∀ x {t : State}, t.locksSound → (f x t).locksSound) (l : List α)
    (h : s.locksSound) : (forEach l f s).locksSound :=
  forEach_keeps (fun x _ _ h => turn x h) h

/-- After the channel's own items arming moves no lock. -/
theorem arm {ch : ChanId} {m : Mode} (h : (s.modChan ch fun c => c.armed m (s.timer adoptionPeriod)).locksSound) :
    (arm ch m s).locksSound := by
  have dark : ∀ b {t : State}, t.locksSound → (resetTracker b (darkenBank b t)).locksSound := fun b t h =>
    (h.moves (.darkenBank .refl b)).banks rfl
  have out : ∀ l {t : State}, t.locksSound → (t.modLamp l Lamp.armed).locksSound := fun l t h => h.banks rfl
  unfold Machine.arm
  exact (each out _ (each dark _ h)).still
    (.judgeChannel (.fallbackIfStale (.stopFallback (.clearAccounting (.calmStaging (.refl _) ch) ch) ch) ch) ch)

/-- After the channel's own items entry to UNARMED moves no lock. -/
theorem unarmed {ch : ChanId} (h : (s.modChan ch Channel.unarmed).locksSound) : (enterUnarmed ch s).locksSound := by
  have stopped : ∀ b {t : State}, t.locksSound → (ungovernBank b t).locksSound := fun b t h => h.banks rfl
  have out : ∀ l {t : State}, t.locksSound →
      (t.modLamp l fun x => { x.ungoverned with cmd := none }).locksSound := fun l t h => h.banks rfl
  unfold Machine.enterUnarmed
  exact (each out _ (each stopped _ h)).still
    (.judgeChannel (.stopFallback (.clearAccounting (.calmStaging (.refl _) ch) ch) ch) ch)

/-- A lock taken free and the entry to EDIT that follows it (05, R77). -/
theorem takeEdit (h : s.locksSound) {ch : ChanId} (st n : Nat) (free : (s.chan ch).holder = none) :
    (enterEdit ch (holdLock ch st n s)).locksSound := by
  have mode : (s.chan ch).mode ≠ .edit := fun e => by simpa [free] using (h ch).1.mpr e
  have entered : ((holdLock ch st n s).modChan ch fun c =>
      { c with mode := .edit, prevMode := ((holdLock ch st n s).chan ch).mode }).locksSound := by
    unfold holdLock
    rw [State.modChan_modChan]
    refine h.chan ch fun _ => ⟨by simp, ?_⟩
    simpa using mode
  unfold Machine.enterEdit
  dsimp only
  split
  · next e => exact absurd (by simpa [holdLock] using e) mode
  · split
    · exact entered.still (.judgeChannel (.fallbackIfStale (.calmStaging (.refl _) ch) ch) ch)
    · exact entered.still (.calmStaging (.refl _) ch)

/-- A lock freed and the departure from EDIT that follows it (05, R78). -/
theorem depart (h : s.locksSound) (ch : ChanId) : (departEdit ch (freeLock ch s)).locksSound := by
  have prev : (s.chan ch).prevMode ≠ .edit := (h ch).2
  unfold Machine.departEdit freeLock
  dsimp only
  split
  · refine moves (locksSound.arm ?_) (.review .refl ch)
    rw [State.modChan_modChan]
    exact h.chan ch fun _ => ⟨by simp [Channel.armed, Channel.armPower], prev⟩
  · refine moves (locksSound.still ?_ (.recode (.refl _) ch)) (.review .refl ch)
    rw [State.modChan_modChan]
    exact h.chan ch fun _ => ⟨by simpa using prev, prev⟩

theorem fullReset (straps : BitVec 7) : (State.afterReset straps).locksSound := by
  obtain ⟨_, _, _, locks, _⟩ := resetIsSound straps
  exact locks

theorem restart (h : s.locksSound) (straps : BitVec 7) : (s.restartValues straps).locksSound := fun c => by
  have mode : (s.chan c).restartMode ≠ .edit := by
    unfold Channel.restartMode
    split
    · split <;> nofun
    all_goals nofun
  have sound : ((s.chan c).restarted s.now).lockSound := by
    unfold Channel.restarted
    dsimp only
    split <;> exact ⟨by simpa [Channel.armPower, Channel.restartBase] using mode, (h c).2⟩
  simpa only [State.chan, State.restartValues, build_get] using sound

end State.locksSound

theorem locksSound_invariant : State.Invariant State.locksSound where
  still g h := h.still g
  review h ch := h.moves (.review .refl ch)
  wipe h b := h.moves (.startWipe .refl b)
  judgeLit h b := h.moves (.judgeLit .refl b)
  recheck h b := h.moves (.recheckFaulted .refl b)
  lock h b := h.moves (.lockBank .refl b)
  unlock h b := h.moves (.unlockBank .refl b)
  endProgram h b k _ := h.moves (.endProgram .refl b k)
  run h b _ := h.moves (.runBank .refl b)
  fault h b := h.moves (.faultBank .refl b)
  runAtEnd h b := h.moves (.runAtEnd .refl b)
  takeEdit h ch st n free := h.takeEdit st n free
  renew h ch st n held := h.chan ch fun sound =>
    ⟨⟨fun _ => sound.1.mp (Option.ne_none_iff_isSome.mp held), fun _ => rfl⟩, sound.2⟩
  depart h ch := h.depart ch
  lapse h ch := by
    refine State.locksSound.unarmed ?_
    unfold freeLock
    rw [State.modChan_modChan]
    exact h.chan ch fun sound => ⟨by simp [Channel.unarmed], sound.2⟩
  unarm h ch mode := State.locksSound.unarmed
    (h.chan ch fun sound => ⟨⟨fun held => absurd (sound.1.mp held) mode, nofun⟩, sound.2⟩)
  changeMode h ch m hs hm := State.locksSound.still
    (h.chan ch fun sound => ⟨⟨fun held => absurd (sound.1.mp held) hs, fun e => absurd e hm⟩, sound.2⟩)
    (.calmStaging (.refl _) ch)
  previous h ch := h.chan ch fun sound => ⟨sound.1, nofun⟩
  owner {s} h b new _ := by
    unfold setOwner
    split
    · exact h
    · have owned : (s.modBank b fun x => { x.abandon with owner := new, tracker := Tracker.reset }).locksSound :=
        h.banks rfl
      exact owned.moves (.judgeBank (.each (fun l _ m => m.regovern _ l) _ .refl) b)
  restart h straps := h.restart straps
  reset := State.locksSound.fullReset

/-- Settles O29: `State.locksSound` is an invariant over the standings, kept by each event that moves one. -/
theorem locksAreHeldExactlyInEdit : Obligations.LocksAreHeldExactlyInEdit := by
  intro s t sound ht
  exact locksSound_invariant.step sound ht

end Sys2Proof.Machine

namespace Sys2Proof.Machine
open Sys2Proof

set_option Elab.async false

/-! ### What an event of one bank makes of the standings -/

/-- The bank takes a state and a running program, and keeps all else. -/
def State.stand (s : State) (b : BankId) (st : BankState) (k : Option ProgKind) : State :=
  s.modBank b fun x => { x with state := st, running := k }

theorem Bank.standing_state {x y : Bank} (h : x.standing = y.standing) : x.state = y.state :=
  congrArg Bank.Standing.state h

theorem Bank.standing_owner {x y : Bank} (h : x.standing = y.standing) : x.owner = y.owner :=
  congrArg Bank.Standing.owner h

theorem Bank.standing_running {x y : Bank} (h : x.standing = y.standing) : x.running = y.running :=
  congrArg Bank.Standing.running h

theorem Channel.standing_list {x y : Channel} (h : x.standing = y.standing) : x.startList = y.startList :=
  congrArg Channel.Standing.list h

theorem Bank.entered_standing (st : BankState) (x : Bank) :
    (x.entered st).standing = ⟨st, x.owner, x.running⟩ := by
  unfold Bank.entered
  split
  · next h => rw [← h]; rfl
  · rfl

namespace State.steadfast

variable {s t : State}

/-- The same update of one bank keeps two states of the same standings so. -/
theorem same (h : s.steadfast t) (b : BankId) {f g : Bank → Bank}
    (hfg : ∀ x y : Bank, x.standing = y.standing → (g x).standing = (f y).standing) :
    (s.modBank b f).steadfast (t.modBank b g) :=
  ⟨fun c => h.chans c, fun c => by
    rw [State.modBank_bank, State.modBank_bank]
    split
    · exact hfg _ _ (h.banks b)
    · exact h.banks c⟩

/-- The same update of one channel keeps two states of the same standings so. -/
theorem sameChan (h : s.steadfast t) (ch : ChanId) {f : Channel → Channel}
    (hf : ∀ x y : Channel, x.standing = y.standing → (f x).standing = (f y).standing) :
    (s.modChan ch f).steadfast (t.modChan ch f) :=
  ⟨fun c => by
    rw [State.modChan_chan, State.modChan_chan]
    split
    · exact hf _ _ (h.chans ch)
    · exact h.chans c, fun c => h.banks c⟩

theorem unlist (h : s.steadfast t) (b : BankId) : (unlist b s).steadfast (unlist b t) := by
  unfold Machine.unlist
  rw [Bank.standing_owner (h.banks b)]
  split
  · refine h.sameChan _ fun x y e => ?_
    simp only [Channel.standing, Channel.Standing.mk.injEq] at e ⊢
    obtain ⟨mode, prev, holder, list⟩ := e
    exact ⟨mode, prev, holder, by rw [list]⟩
  · exact h

theorem enlist (h : s.steadfast t) (ch : ChanId) (b : BankId) : (enlist ch b s).steadfast (enlist ch b t) := by
  refine h.sameChan ch fun x y e => ?_
  simp only [Channel.standing, Channel.Standing.mk.injEq] at e ⊢
  obtain ⟨mode, prev, holder, list⟩ := e
  exact ⟨mode, prev, holder, by rw [list]⟩

/-- A bank's change of state, whatever program ran (05, Table 5-2). -/
theorem entered (h : s.steadfast t) (b : BankId) (st : BankState) :
    (s.stand b st (s.bank b).running).steadfast (setBankState b st t) := by
  have bank : (s.stand b st (s.bank b).running).steadfast (t.modBank b (Bank.entered st)) :=
    ⟨fun c => h.chans c, fun c => ?_⟩
  · exact bank.unit (setBankState_alarmUnitOnly b st t)
  rw [State.modBank_bank, State.stand, State.modBank_bank]
  split
  · rw [Bank.entered_standing, Bank.standing_owner (h.banks b), Bank.standing_running (h.banks b)]
    rfl
  · exact h.banks c

/-- A bank's change of state whose program is then set anew. -/
theorem enteredWith (h : s.steadfast t) (b : BankId) (st : BankState) {k : Option ProgKind} {f : Bank → Bank}
    (hf : ∀ x : Bank, (f x).standing = ⟨x.state, x.owner, k⟩ := by exact fun _ => rfl) :
    (s.stand b st k).steadfast ((setBankState b st t).modBank b f) := by
  have ran := (h.entered b st).same b (f := fun x => { x with running := k }) (g := f) fun x y e => by
    rw [hf, Bank.standing_state e, Bank.standing_owner e]
    rfl
  rwa [State.stand, State.modBank_modBank] at ran

theorem ran (h : s.steadfast t) (b : BankId) {k : Option ProgKind} {f : Bank → Bank}
    (hf : ∀ x : Bank, (f x).standing = ⟨x.state, x.owner, k⟩ := by exact fun _ => rfl) :
    (s.stand b (s.bank b).state k).steadfast (t.modBank b f) := by
  refine ⟨fun c => h.chans c, fun c => ?_⟩
  rw [State.modBank_bank, State.stand, State.modBank_bank]
  split
  · rw [hf, Bank.standing_owner (h.banks b), Bank.standing_state (h.banks b)]
    rfl
  · exact h.banks c

end State.steadfast

theorem State.stand_bank_self (s : State) (b : BankId) (st : BankState) (k : Option ProgKind) :
    (s.stand b st k).bank b = { s.bank b with state := st, running := k } := State.modBank_bank_self _ _ _

theorem State.stand_stand (s : State) (b : BankId) (st st' : BankState) (k k' : Option ProgKind) :
    (s.stand b st k).stand b st' k' = s.stand b st' k' := State.modBank_modBank _ _ _ _

theorem State.unlist_stand (s : State) (b : BankId) (st : BankState) (k : Option ProgKind) :
    unlist b (s.stand b st k) = (unlist b s).stand b st k := by
  have owner : ((s.stand b st k).bank b).owner = (s.bank b).owner := by rw [State.stand_bank_self]
  unfold unlist
  rw [owner]
  split <;> rfl

/-! #### The transitions of Table 5-2 -/

variable (b : BankId) (s : State)

theorem enterQuenching_standings :
    ((unlist b s).stand b .quenching (some .quench)).steadfast (enterQuenching b s) := by
  have abandoned := ((State.steadfast.refl s).enteredWith b .quenching (k := none)
    (f := fun x => { x.abandon with warmTimer := none })).unlist b
  have started := abandoned.ran b (k := some .quench) (f := fun x => { x with
    running := some .quench
    stepIdx := 0
    stepTimer := (unlist b ((setBankState b .quenching s).modBank b fun x =>
      { x.abandon with warmTimer := none })).timer ((x.program .quench).get 0).delay })
  rwa [State.unlist_stand, State.stand_bank_self, State.stand_stand] at started

theorem enterFaulted_standings : ((unlist b s).stand b .faulted none).steadfast (enterFaulted b s) := by
  have abandoned := (State.steadfast.refl s).enteredWith b .faulted (k := none)
    (f := fun x => { x.abandon with warmTimer := none })
  have out := (abandoned.lampwise (.wantAll (.refl _) false b)).unlist b
  rw [State.unlist_stand] at out
  exact out.bank b

theorem enterLocked_standings : ((unlist b s).stand b .locked none).steadfast (enterLocked b s) := by
  have abandoned := (State.steadfast.refl s).enteredWith b .locked (k := none)
    (f := fun x => { x.abandon.stopWiper with warmTimer := none, faultTimer := none, wipeInterval := none })
  have out := (abandoned.lampwise (.wantAll (.refl _) false b)).unlist b
  rwa [State.unlist_stand] at out

theorem enterWarming_standings : (s.stand b .warming (s.bank b).running).steadfast (enterWarming b s) :=
  ((State.steadfast.refl s).entered b .warming).bank b

theorem enterRun_standings : (s.stand b .run (s.bank b).running).steadfast (enterRun b s) :=
  (((State.steadfast.refl s).entered b .run).bank b).startInterval b

theorem enterDark_standings : (s.stand b .dark (s.bank b).running).steadfast (enterDark b s) :=
  ((State.steadfast.refl s).entered b .dark).bank b

theorem startWipe_standings : (s.stand b (s.bank b).state (some .wipe)).steadfast (startWipe b s) := by
  have started := (State.steadfast.refl s).ran b (k := some .wipe) (f := fun x => { x with
    running := some .wipe, stepIdx := 0, stepTimer := s.timer ((x.program .wipe).get 0).delay })
  unfold startWipe
  dsimp only
  split
  · exact started.startInterval b
  · exact started

theorem stageUp_standings (ch : ChanId) : stageUp ch s = s ∨ ∃ b, (s.bank b).owner = some ch ∧
    (s.bank b).state = .dark ∧ (enlist ch b (s.stand b .striking (some .strike))).steadfast (stageUp ch s) := by
  cases selected : s.selectBank ch with
  | none =>
    refine .inl ?_
    rw [stageUp, selected]
  | some b =>
    obtain ⟨⟨owner, dark⟩, _⟩ := State.selectBank_some selected
    refine .inr ⟨b, owner, dark, .unit ?_ (stageUp_alarmUnitOnly selected)⟩
    exact ((State.steadfast.refl s).same b fun x y e => by
      simp only [Bank.standing, Bank.Standing.mk.injEq] at e ⊢
      exact ⟨trivial, e.2.1, trivial⟩).enlist ch b

end Sys2Proof.Machine

namespace Sys2Proof.Machine
open Sys2Proof

set_option Elab.async false

/-! ### Start order lists and programs through every step (05, R87; 06, R101, R105) -/

/-- STRIKING, WARMING or RUN: the states of a listed bank (05, R87). -/
def BankState.burning (st : BankState) : Prop := st = .striking ∨ st = .warming ∨ st = .run

/-- A STRIKE belongs in STRIKING, a QUENCH in QUENCHING (06, R101). -/
def BankState.admits (st : BankState) (k : Option ProgKind) : Prop :=
  (k = some .strike → st = .striking) ∧ (k = some .quench → st = .quenching)

theorem BankState.admits_none (st : BankState) : st.admits none := ⟨nofun, nofun⟩

theorem BankState.admits_wipe (st : BankState) : st.admits (some .wipe) := ⟨nofun, nofun⟩

theorem BankState.admits_strike : BankState.striking.admits (some .strike) := ⟨fun _ => rfl, nofun⟩

theorem BankState.admits_quench : BankState.quenching.admits (some .quench) := ⟨nofun, fun _ => rfl⟩

/-- A program that runs neither in STRIKING nor in QUENCHING runs in any state. -/
theorem BankState.admits.any {st : BankState} {k : Option ProgKind} (h : st.admits k) (hs : st ≠ .striking)
    (hq : st ≠ .quenching) (st' : BankState) : st'.admits k :=
  ⟨fun e => absurd (h.1 e) hs, fun e => absurd (h.2 e) hq⟩

theorem mem_unlist_self {s : State} {b : BankId} {ch : ChanId} : b ∈ ((unlist b s).chan ch).startList ↔
    b ∈ (s.chan ch).startList ∧ (s.bank b).owner ≠ some ch := by
  unfold unlist
  split
  · next c owner =>
    rw [State.modChan_chan, owner]
    by_cases e : ch = c
    · simp [e]
    · simp [e, Ne.symm e]
  · next none => simp [none]

theorem unlist_nodup {s : State} {b : BankId} {ch : ChanId} (h : (s.chan ch).startList.Nodup) :
    ((unlist b s).chan ch).startList.Nodup := by
  unfold unlist
  split
  · rw [State.modChan_chan]
    split
    · next e =>
      subst e
      exact h.filter _
    · exact h
  · exact h

/-- The start order lists hold the burning banks of their channels, and programs run where they belong. -/
structure State.mirrored (s : State) : Prop where
  lists    : s.listsSound
  programs : s.programsSound

namespace State.mirrored

variable {s t : State} {b : BankId}

theorem admits (h : s.mirrored) (b : BankId) : (s.bank b).state.admits (s.bank b).running := h.programs b

theorem mem (h : s.mirrored) {ch : ChanId} {b : BankId} : b ∈ (s.chan ch).startList ↔
    (s.bank b).owner = some ch ∧ (s.bank b).state.burning := (h.lists ch).2 b

theorem nodup (h : s.mirrored) (ch : ChanId) : (s.chan ch).startList.Nodup := (h.lists ch).1

theorem of (nodup : ∀ ch, (s.chan ch).startList.Nodup)
    (mem : ∀ ch b, b ∈ (s.chan ch).startList ↔ (s.bank b).owner = some ch ∧ (s.bank b).state.burning)
    (admits : ∀ b, (s.bank b).state.admits (s.bank b).running) : s.mirrored :=
  ⟨fun ch => ⟨nodup ch, mem ch⟩, admits⟩

theorem still (h : s.mirrored) (g : s.steadfast t) : t.mirrored := by
  refine .of (fun ch => ?_) (fun ch b => ?_) fun b => ?_
  · rw [Channel.standing_list (g.chans ch)]
    exact h.nodup ch
  · rw [Channel.standing_list (g.chans ch), Bank.standing_owner (g.banks b), Bank.standing_state (g.banks b)]
    exact h.mem
  · rw [Bank.standing_state (g.banks b), Bank.standing_running (g.banks b)]
    exact h.admits b

/-- A channel may change all but its list. -/
theorem chan (h : s.mirrored) (ch : ChanId) {f : Channel → Channel}
    (hf : ∀ x : Channel, (f x).startList = x.startList := by exact fun _ => rfl) : (s.modChan ch f).mirrored := by
  have list : ∀ c, ((s.modChan ch f).chan c).startList = (s.chan c).startList := fun c => by
    rw [State.modChan_chan]
    split
    · next e => rw [hf, e]
    · rfl
  refine .of (fun c => ?_) (fun c b => ?_) h.admits
  · rw [list]
    exact h.nodup c
  · rw [list]
    exact h.mem

/-- A listed bank takes another state of a listed bank, or a bank in none another such. -/
theorem stand (h : s.mirrored) {st : BankState} {k : Option ProgKind} (hst : st.burning ↔ (s.bank b).state.burning)
    (hk : st.admits k) : (s.stand b st k).mirrored := by
  refine .of h.nodup (fun ch c => ?_) fun c => ?_
  · rw [State.stand, State.modBank_bank]
    split
    · next e =>
      subst e
      rw [hst]
      exact h.mem
    · exact h.mem
  · rw [State.stand, State.modBank_bank]
    split
    · exact hk
    · exact h.admits c

/-- A bank leaves its channel's list with its state (05, R87). -/
theorem leave (h : s.mirrored) {st : BankState} {k : Option ProgKind} (hst : ¬ st.burning) (hk : st.admits k) :
    ((unlist b s).stand b st k).mirrored := by
  refine .of (fun ch => unlist_nodup (h.nodup ch)) (fun ch c => ?_) fun c => ?_
  · show c ∈ ((unlist b s).chan ch).startList ↔ _
    rw [State.stand, State.modBank_bank, unlist_bank]
    split
    · next e =>
      subst e
      rw [mem_unlist_self, h.mem]
      exact ⟨fun g => absurd g.1.1 g.2, fun g => absurd g.2 hst⟩
    · next ne =>
      rw [mem_unlist ne, unlist_bank]
      exact h.mem
  · rw [State.stand, State.modBank_bank, unlist_bank]
    split
    · exact hk
    · rw [unlist_bank]
      exact h.admits c

/-- A bank joins its channel's list with its state (05, R87). -/
theorem join (h : s.mirrored) {ch : ChanId} {st : BankState} {k : Option ProgKind} (owner : (s.bank b).owner = some ch)
    (out : ¬ (s.bank b).state.burning) (hst : st.burning) (hk : st.admits k) :
    (enlist ch b (s.stand b st k)).mirrored := by
  have fresh : ∀ c, b ∉ (s.chan c).startList := fun c hb => out (h.mem.mp hb).2
  have list : ∀ c, ((enlist ch b (s.stand b st k)).chan c).startList =
      if c = ch then (s.chan c).startList ++ [b] else (s.chan c).startList := fun c => by
    rw [enlist, State.modChan_chan]
    split
    · next e => rw [e]; rfl
    · rfl
  have bank : ∀ c, (enlist ch b (s.stand b st k)).bank c =
      if c = b then { s.bank b with state := st, running := k } else s.bank c := fun c => by
    rw [enlist, State.modChan_bank, State.stand, State.modBank_bank]
  refine .of (fun c => ?_) (fun c d => ?_) fun c => ?_
  · rw [list]
    split
    · exact List.nodup_append.mpr ⟨h.nodup c, List.nodup_singleton b, fun x hx y hy e =>
        fresh c (by rwa [e, List.mem_singleton.mp hy] at hx)⟩
    · exact h.nodup c
  · rw [list, bank]
    by_cases hd : d = b
    · rw [if_pos hd, hd]
      by_cases hc : c = ch
      · simp [hc, owner, hst]
      · have other : ¬ (some ch = some c) := fun e => hc (Option.some.inj e).symm
        simp [hc, owner, fresh c, Ne.symm hc]
    · rw [if_neg hd]
      split
      · rw [List.mem_append, List.mem_singleton, or_iff_left hd]
        exact h.mem
      · exact h.mem
  · rw [bank]
    split
    · exact hk
    · exact h.admits c

/-! #### Staging (05, R88 to R93) -/

theorem staging (ch : ChanId) : StagingKeeps State.mirrored (fun _ => True) ch where
  counts hf h := h.chan ch hf
  exhausted holds h := h.still (.report (.refl _) .stageExhausted ch.1 holds)
  up {s} h := by
    obtain e | ⟨b, owner, dark, g⟩ := stageUp_standings s ch
    · rwa [e]
    · refine (h.join owner ?_ (.inl rfl) BankState.admits_strike).still g
      rw [dark]
      simp [BankState.burning]
  down {s c} _ h :=
    (h.leave (by simp [BankState.burning]) BankState.admits_quench).still (enterQuenching_standings c s)
  last _ _ _ := trivial

theorem review (h : s.mirrored) (ch : ChanId) : (review ch s).mirrored := (staging ch).review (fun _ _ => trivial) h

theorem reviewOwner (h : s.mirrored) (b : BankId) : (reviewOwner b s).mirrored := by
  unfold Machine.reviewOwner
  split
  · exact h.review _
  · exact h

theorem requestForBank (h : s.mirrored) (b : BankId) : (requestForBank b s).mirrored := by
  unfold Machine.requestForBank requestStageUp
  split
  · split
    · exact (h.chan _).review _
    · exact h
  · exact h

/-- A bank out of service asks for another, and its channel is reviewed (05, R96, R97). -/
theorem requested (h : s.mirrored) (was : Bool) (b : BankId) :
    (Machine.reviewOwner b (if was then Machine.requestForBank b s else s)).mirrored := by
  cases was
  · exact h.reviewOwner b
  · exact (h.requestForBank b).reviewOwner b

/-! #### Bank transitions (05, R85, R94 to R97) -/

theorem faultBank (h : s.mirrored) (b : BankId) : (faultBank b s).mirrored :=
  ((h.leave (by simp [BankState.burning]) (BankState.admits_none _)).still (enterFaulted_standings b s)).requested _ b

theorem lockBank (h : s.mirrored) (b : BankId) : (lockBank b s).mirrored := by
  unfold Machine.lockBank
  split
  · exact h
  · exact ((h.leave (by simp [BankState.burning]) (BankState.admits_none _)).still (enterLocked_standings b s)).requested _ b

/-- A bank in neither STRIKING, WARMING, RUN nor with a QUENCH running may be DARK. -/
theorem darkBank (h : s.mirrored) (b : BankId) (out : ¬ (s.bank b).state.burning)
    (idle : BankState.dark.admits (s.bank b).running) : (darkBank b s).mirrored := by
  refine State.mirrored.reviewOwner ((h.stand (iff_of_false ?_ out) idle).still (enterDark_standings b s)) b
  simp [BankState.burning]

theorem recheckFaulted (h : s.mirrored) (b : BankId) : (recheckFaulted b s).mirrored := by
  unfold Machine.recheckFaulted
  split
  · next faulted =>
    have idle := (h.admits b).any (by rw [faulted.1]; decide) (by rw [faulted.1]; decide) .dark
    exact h.darkBank b (by simp [BankState.burning, faulted.1]) idle
  · exact h

theorem unlockBank (h : s.mirrored) (b : BankId) : (unlockBank b s).mirrored := by
  unfold Machine.unlockBank
  split
  · next locked =>
    have idle := (h.admits b).any (by rw [locked]; decide) (by rw [locked]; decide) .dark
    exact h.darkBank b (by simp [BankState.burning, locked]) idle
  · exact h

theorem enterRun (h : s.mirrored) {b : BankId} (warming : (s.bank b).state = .warming) : (enterRun b s).mirrored :=
  (h.stand (by simp [BankState.burning, warming])
    ((h.admits b).any (by rw [warming]; decide) (by rw [warming]; decide) .run)).still (enterRun_standings b s)

theorem runBank (h : s.mirrored) {b : BankId} (warming : (s.bank b).state = .warming) : (runBank b s).mirrored :=
  (h.enterRun warming).reviewOwner b

theorem runAtEnd (h : s.mirrored) (b : BankId) : (runAtEnd b s).mirrored := by
  unfold Machine.runAtEnd
  split
  · next runs => exact h.enterRun runs.1
  · exact h

theorem adoptBank (h : s.mirrored) {ch : ChanId} {b : BankId} (owner : (s.bank b).owner = some ch)
    (dark : (s.bank b).state = .dark) : (adoptBank ch b s).mirrored := by
  have joined := h.join owner (by simp [BankState.burning, dark]) (.inr (.inl rfl) : BankState.warming.burning)
    ((h.admits b).any (by rw [dark]; decide) (by rw [dark]; decide) _)
  have adopted := joined.still (.lampwise ((enterWarming_standings b s).enlist ch b) (.wantAll (.refl _) true b))
  exact adopted.review ch

theorem judgeBurning (h : s.mirrored) (b : BankId) : (judgeBurning b s).mirrored := by
  unfold Machine.judgeBurning
  split
  · unfold faultIfShort
    split
    · exact h.faultBank b
    · exact h
  · next warming =>
    split
    · exact h.runBank warming
    · exact h
  all_goals exact h

theorem putOutChannel (h : s.mirrored) (ch : ChanId) : (putOutChannel ch s).mirrored := by
  have out : (forEach (s.channelLamps ch) (fun l s => if s.adoptedLit l then putOutLit l s else s) s).mirrored := by
    refine h.still (.lampwise (.refl s) (.each (fun l t g => ?_) _ (.refl s)))
    split
    · exact g.putOutLit l
    · exact g
  refine forEach_keeps (P := State.mirrored) (fun b _ t g => ?_) out
  split
  · exact g
  · exact g.judgeBurning b

theorem judgeLit (h : s.mirrored) (b : BankId) : (judgeLit b s).mirrored := by
  unfold Machine.judgeLit
  split
  · exact h
  · next owner =>
    split
    · exact h
    · split
      · next reaches =>
        split
        · exact h.putOutChannel _
        · refine h.adoptBank owner ?_
          unfold State.reachesLit at reaches
          simp only [Bool.and_eq_true, decide_eq_true_eq] at reaches
          exact reaches.1.1
      · exact h.judgeBurning b

/-! #### Programs (06, R101 to R105) -/

theorem startWipe (h : s.mirrored) (b : BankId) : (startWipe b s).mirrored :=
  (h.stand .rfl (BankState.admits_wipe _)).still (startWipe_standings b s)

theorem endProgram (h : s.mirrored) {b : BankId} {k : ProgKind} (running : (s.bank b).running = some k) :
    (endProgram b k s).mirrored := by
  have stopped : (s.modBank b fun x => { x with
      running := none, stepTimer := none, tracker := x.tracker.clearBlank }).mirrored :=
    (h.stand .rfl (BankState.admits_none _)).still ((State.steadfast.refl s).ran b)
  have state : (s.bank b).state.admits (some k) := running ▸ h.admits b
  unfold Machine.endProgram
  cases k with
  | strike =>
    refine State.mirrored.reviewOwner ((stopped.stand ?_ ?_).still (enterWarming_standings b _)) b
    · rw [State.modBank_bank_self]
      simp [BankState.burning, state.1 rfl]
    · rw [State.modBank_bank_self]
      exact BankState.admits_none _
  | quench =>
    refine stopped.darkBank b ?_ ?_
    · rw [State.modBank_bank_self]
      simp [BankState.burning, state.2 rfl]
    · rw [State.modBank_bank_self]
      exact BankState.admits_none _
  | wipe =>
    dsimp only
    unfold wipeEnds
    dsimp only
    split
    · split
      · exact (stopped.still (.bank (.refl _) b)).startWipe b
      · exact stopped.still (.bank (.refl _) b)
    · exact stopped.still (.bank (.refl _) b)

/-! #### Modes, owners and resets (05, R82, R84, R94, R98) -/

/-- What arms is DARK or LOCKED and listed nowhere (05, R84). -/
theorem armed (h : s.mirrored) (ch : ChanId) (m : Mode) : (armedState ch m s).mirrored := by
  have list : ∀ c, ((armedState ch m s).chan c).startList = if c = ch then [] else (s.chan c).startList := fun c => by
    show ((s.modChan ch fun c => c.armedAt m (s.freshPoint (s.flowPoint ch)) s.now).chan c).startList = _
    rw [State.modChan_chan]
    split <;> rfl
  have dark : ∀ x : Bank, ¬ x.armed.state.burning := fun x => by
    unfold Bank.armed
    split
    · next locked => simp [BankState.burning, locked]
    · simp [BankState.burning]
  have idle : ∀ x : Bank, x.state.admits x.running → x.armed.state.admits x.armed.running := fun x hx => by
    unfold Bank.armed
    split
    · exact hx
    · exact BankState.admits_none _
  refine .of (fun c => ?_) (fun c b => ?_) fun b => ?_
  · rw [list]
    split
    · exact List.nodup_nil
    · exact h.nodup c
  · rw [list, armedState_bank]
    by_cases own : (s.bank b).owner = some ch
    · have owner : (s.bank b).armed.owner = some ch := by
        unfold Bank.armed
        split <;> exact own
      rw [if_pos own, owner]
      refine iff_of_false ?_ fun g => dark _ g.2
      split
      · simp
      · next hc => exact fun g => hc (Option.some.inj (own.symm.trans (h.mem.mp g).1)).symm
    · rw [if_neg own]
      split
      · next hc => simp [hc, own]
      · exact h.mem
  · rw [armedState_bank]
    split
    · exact idle _ (h.admits b)
    · exact h.admits b

theorem arm (h : s.mirrored) (ch : ChanId) (m : Mode) : (arm ch m s).mirrored :=
  (h.armed ch m).still (.unit (.refl _) (arm_alarmUnitOnly ch m s))

theorem departEdit (h : s.mirrored) (ch : ChanId) : (departEdit ch s).mirrored := by
  unfold Machine.departEdit
  dsimp only
  split
  · exact (h.arm ch .auto).review ch
  · exact ((h.chan ch).still (.recode (.refl _) ch)).review ch

theorem enterEdit (h : s.mirrored) (ch : ChanId) : (enterEdit ch s).mirrored := by
  have entered := h.chan ch (f := fun c => { c with mode := .edit, prevMode := (s.chan ch).mode })
  unfold Machine.enterEdit
  dsimp only
  split
  · exact h
  · split
    · exact entered.still (.judgeChannel (.fallbackIfStale (.calmStaging (.refl _) ch) ch) ch)
    · exact entered.still (.calmStaging (.refl _) ch)

theorem enterUnarmed (h : s.mirrored) (ch : ChanId) : (enterUnarmed ch s).mirrored := by
  have stopped : ∀ b {t : State}, t.mirrored → (ungovernBank b t).mirrored := fun b t g =>
    (g.stand .rfl (BankState.admits_none _)).still ((State.steadfast.refl t).ran b)
  have banks := forEach_keeps (P := State.mirrored) (fun b _ t g => stopped b g) (l := (s.modChan ch
    Channel.unarmed).ownedBanks ch) (h.chan ch (f := Channel.unarmed))
  unfold Machine.enterUnarmed
  refine State.mirrored.still (banks.still (.lampwise (.refl _) (.each (fun l t g => g.lamp l _) _ (.refl _))))
    (.judgeChannel (.stopFallback (.clearAccounting (.calmStaging (.refl _) ch) ch) ch) ch)

/-- A bank that is listed nowhere may change hands (05, R94). -/
theorem setOwner (h : s.mirrored) {b : BankId} {new : Option ChanId}
    (free : (s.bank b).owner = new ∨ (s.bank b).state.idle) : (setOwner b new s).mirrored := by
  unfold Machine.setOwner
  split
  · exact h
  · next changed =>
    have out : ¬ (s.bank b).state.burning := by
      have idle := free.resolve_left changed
      rintro (e | e | e) <;> simp [e, BankState.idle] at idle
    have owned : (s.modBank b fun x => { x.abandon with owner := new, tracker := Tracker.reset }).mirrored := by
      refine .of h.nodup (fun ch c => ?_) fun c => ?_
      · rw [State.modBank_bank]
        split
        · next e => exact iff_of_false (fun g => out (e ▸ (h.mem.mp g).2)) fun g => out g.2
        · exact h.mem
      · rw [State.modBank_bank]
        split
        · exact BankState.admits_none _
        · exact h.admits c
    exact owned.still (.judgeBank (.lampwise (.refl _) (.each (fun l t g => g.regovern _ l) _ (.refl _))) b)

theorem restart (s : State) (straps : BitVec 7) : (s.restartValues straps).mirrored := by
  have list : ∀ c : Channel, (c.restarted s.now).startList = [] := fun c => by
    unfold Channel.restarted
    dsimp only
    split <;> rfl
  have chan : ∀ ch, ((s.restartValues straps).chan ch).startList = [] := fun ch => by
    simp only [State.chan, State.restartValues, build_get, list]
  have bank : ∀ b, (s.restartValues straps).bank b = (s.bank b).restarted := fun b => by
    simp only [State.bank, State.restartValues, build_get]
  refine .of (fun ch => ?_) (fun ch b => ?_) fun b => ?_
  · rw [chan]
    exact List.nodup_nil
  · rw [chan, bank]
    refine iff_of_false List.not_mem_nil fun g => ?_
    have dark := g.2
    unfold Bank.restarted BankState.burning at dark
    dsimp only at dark
    split at dark <;> simp at dark
  · rw [bank]
    exact BankState.admits_none _

theorem fullReset (straps : BitVec 7) : (State.afterReset straps).mirrored := by
  obtain ⟨_, _, _, _, lists, programs, _⟩ := resetIsSound straps
  exact ⟨lists, programs⟩

end State.mirrored

theorem mirrored_invariant : State.Invariant State.mirrored where
  still g h := h.still g
  review h ch := h.review ch
  wipe h b := h.startWipe b
  judgeLit h b := h.judgeLit b
  recheck h b := h.recheckFaulted b
  lock h b := h.lockBank b
  unlock h b := h.unlockBank b
  endProgram h _ _ running := h.endProgram running
  run h _ warming := h.runBank warming
  fault h b := h.faultBank b
  runAtEnd h b := h.runAtEnd b
  takeEdit h ch _ _ _ := (h.chan ch).enterEdit ch
  renew h ch _ _ _ := h.chan ch
  depart h ch := (h.chan ch).departEdit ch
  lapse h ch := (h.chan ch).enterUnarmed ch
  unarm h ch _ := h.enterUnarmed ch
  changeMode h ch _ _ _ := (h.chan ch).still (.calmStaging (.refl _) ch)
  previous h ch := h.chan ch
  owner h _ _ free := h.setOwner free
  restart _ straps := .restart _ straps
  reset := .fullReset

/-- Settles O30: lists and programs together are an invariant over the standings; a bank joins its list, leaves it, or
takes another state of its list, whatever the event. -/
theorem startListsMirrorBankStates : Obligations.StartListsMirrorBankStates := by
  intro s t lists programs ht
  have kept := mirrored_invariant.step ⟨lists, programs⟩ ht
  exact ⟨kept.lists, kept.programs⟩

end Sys2Proof.Machine

namespace Sys2Proof.Machine
open Sys2Proof

set_option Elab.async false

/-! ### What an event leaves of the rest of the part (00, section 4.5; 08, R144; 10, R175) -/

theorem State.modChan_totals {s : State} {f : Channel → Channel} (c : ChanId)
    (hf : ∀ x : Channel, (f x).acct = x.acct := by exact fun _ => rfl) (ch : ChanId) : (s.modChan c f).totals ch = s.totals ch := by
  have acct : ((s.modChan c f).chan ch).acct = (s.chan ch).acct := by
    rw [State.modChan_chan]
    split
    · next e => rw [hf, e]
    · rfl
  simp only [State.totals, acct]

theorem State.moves.totals {s t : State} (h : s.moves t) (ch : ChanId) : t.totals ch = s.totals ch := by
  simp only [State.totals, h.keeps Channel.acct]

/-- The end of an event keeps the frame that the event has kept, and sends what the event has made. -/
theorem State.sameBase_endEvent {s v : State} (event : s.eventOnly v) (noted : v.notesSound)
    (tables : v.tables = s.tables) (totals : ∀ ch, v.totals ch = s.totals ch) : s.sameBase (endEvent v) := by
  have ends := endEvent_ends noted
  refine ⟨ends.outer.trans event.outer, (endEvent_tables v).trans tables, fun ch => ?_, ends.points.trans event.points,
    event.sends ends⟩
  rw [← totals ch]
  simp only [State.totals, ends.chan]

/-- Bank events and their staging, from rest. -/
theorem State.moves.sameBase {s v : State} (h : s.moves v) (hs : s.atRest) : s.sameBase (endEvent v) :=
  State.sameBase_endEvent h.event ((State.notesSound.atRest hs).moves h) h.tables h.totals

/-- What a channel's own items leave of the frame. -/
theorem State.sameBase.of_chan {s t : State} {ch : ChanId} {f : Channel → Channel} (h : (s.modChan ch f).sameBase t)
    (tables : ∀ x : Channel, (f x).tables = x.tables := by exact fun _ => rfl)
    (acct : ∀ x : Channel, (f x).acct = x.acct := by exact fun _ => rfl) : s.sameBase t := by
  obtain ⟨outer, ht, totals, points, north, south⟩ := h
  exact ⟨outer, ht.trans (s.modChan_tables ch tables), fun c => (totals c).trans (State.modChan_totals ch acct c), points,
    north, south⟩

/-! ### The return from EDIT to an armed mode (05, R78; 04, R73) -/

/-- A channel's own items at its return to the mode it was edited from (05, R78). -/
def Channel.returned (c : Channel) : Channel :=
  { c with mode := c.prevMode, pendingUp := if c.prevMode = .auto then c.pendingUp else 0 }

theorem Channel.returned_keeps {α : Type} (f : Channel → α) (c : Channel)
    (hm : ∀ (x : Channel) (m : Mode) (n : Nat), f { x with mode := m, pendingUp := n } = f x := by intro _ _ _; rfl) :
    f c.returned = f c := hm c _ _

section Return

variable {ch : ChanId} {u t : State}

/-- The channel back in its mode, its code worked out, before the review. -/
def returned (ch : ChanId) (u : State) : State := recode ch (u.modChan ch Channel.returned)

theorem departEdit_returned (prev : (u.chan ch).prevMode ≠ .unarmed) : departEdit ch u = review ch (returned ch u) := by
  unfold departEdit
  dsimp only
  rw [if_neg prev]
  rfl

theorem returned_chan : (returned ch u).chan ch = (u.chan ch).returned.recoded := by
  rw [returned, (recode_recoded ch _).chan, State.modChan_chan_self]

theorem returned_chan_other {d : ChanId} (h : d ≠ ch) : (returned ch u).chan d = u.chan d := by
  rw [returned, (recode_recoded ch _).other d h, State.modChan_chan, if_neg h]

theorem returned_notesSound (h : u.notesSound) : (returned ch u).notesSound := recode_notesSound (h.chan ch _) ch

theorem returned_eventOnly : u.eventOnly (returned ch u) :=
  (modChan_stagingOnly ch _ u).event.trans (recode_recoded ch _).event

theorem returned_alarm (k : AlarmKind) (i : Nat) : (returned ch u).alarm k i = u.alarm k i := by
  simp only [State.alarm, returned, (recode_recoded ch _).alarms]
  rfl

/-- What the end of the return to an armed mode leaves (05, R78, R88; 04, R73). -/
structure State.Returned (u t : State) (ch : ChanId) : Prop where
  base    : u.sameBase t
  other   : ∀ d, d ≠ ch → (t.chan d).butList = (u.chan d).butList
  chan    : (t.chan ch).butStaging = (u.chan ch).returned.recoded.butStaging
  none    : (u.chan ch).returned.pendingUp = 0 → (t.chan ch).pendingUp = 0
  window  : (u.chan ch).adoption ≠ .none → (t.chan ch).pendingUp = (u.chan ch).returned.pendingUp
  alarm   : t.alarm .editLapsed ch.1 = u.alarm .editLapsed ch.1

theorem endEvent_departEdit (hu : u.atRest) (prev : (u.chan ch).prevMode ≠ .unarmed) :
    u.Returned (endEvent (departEdit ch u)) ch := by
  have stages : (returned ch u).stages ch (review ch (returned ch u)) := State.stages.review .refl
  have noted := (returned_notesSound (ch := ch) (State.notesSound.atRest hu)).moves stages.moves
  have ends := endEvent_ends noted
  rw [departEdit_returned prev]
  refine ⟨State.sameBase_endEvent (returned_eventOnly.trans stages.moves.event) noted ?_ fun d => ?_, fun d hd => ?_, ?_,
    fun hp => ?_, fun window => ?_, ?_⟩
  · rw [stages.moves.tables, returned, recode_tables]
    exact u.modChan_tables ch
  · have acct : ((returned ch u).chan d).acct = (u.chan d).acct := by
      by_cases e : d = ch
      · rw [e, returned_chan]
        rfl
      · rw [returned_chan_other e]
    rw [stages.moves.totals]
    simp only [State.totals, acct]
  · rw [ends.chan, stages.butList hd, returned_chan_other hd]
  · rw [ends.chan, stages.moves.butStaging, returned_chan]
  · rw [ends.chan]
    exact review_pendingUp (by rw [returned_chan]; exact hp)
  · have closed : review ch (returned ch u) = returned ch u := by
      refine if_pos ?_
      rw [returned_chan]
      exact Option.isSome_iff_ne_none.mpr window
    rw [ends.chan, closed, returned_chan]
    rfl
  · rw [ends.alarm, stages.alarm (by decide) (by decide) (by decide) (by decide) (by decide), returned_alarm]

end Return

end Sys2Proof.Machine

namespace Sys2Proof.Machine
open Sys2Proof

set_option Elab.async false

/-! ### The check that a profile fails first (09, R160, Table 9-5) -/

section Checks

variable {s : State} {ch : ChanId} {b : BankId}

theorem failWhen_some {fails : Bool} {c : Check} (h : fails = true) : failWhen fails c = some ⟨c, none⟩ := if_pos h

/-- A bank check reports the first bad bank of the channel. -/
theorem State.failBank_some {c : Check} {fails : BankId → Bool} {bad : BankId → Prop}
    (hb : ∀ b, fails b = true ↔ bad b) (h : s.firstOwned ch bad b) : s.failBank ch c fails = some ⟨c, some b⟩ := by
  obtain ⟨owner, isBad, first⟩ := h
  obtain ⟨before, after, parts⟩ := List.append_of_mem ((s.mem_ownedBanks ch b).mpr owner)
  have found : (s.ownedBanks ch).find? fails = some b := by
    rw [List.find?_eq_some_iff_append]
    refine ⟨(hb b).mpr isBad, before, after, parts, fun a ha => ?_⟩
    have sorted := s.ownedBanks_sorted ch
    rw [parts] at sorted
    have lt : a < b := (List.pairwise_append.mp sorted).2.2 a ha b List.mem_cons_self
    have owned : a ∈ s.ownedBanks ch := parts ▸ List.mem_append_left _ ha
    have good := mt (hb a).mp (first a lt ((s.mem_ownedBanks ch a).mp owned))
    simpa using good
  rw [State.failBank, found]
  rfl

/-- A bank that is the second at its position is `State.secondPlaced`. -/
theorem State.clashesAt.secondPlaced (h : s.clashesAt ch b) : s.secondPlaced ch b = true := by
  obtain ⟨_, ⟨a, lt, owner, pos, unique⟩, _⟩ := h
  refine decide_eq_true (length_one_of_nodup (a := a) ((s.ownedBanks_nodup ch).filter _) ?_ fun c hc => ?_)
  · exact (s.mem_lowerPlaced ch b a).mpr ⟨owner, lt, pos⟩
  · obtain ⟨ho, hlt, hpos⟩ := (s.mem_lowerPlaced ch b c).mp hc
    exact unique c hlt ho hpos

/-- A reported clash stands before every other bank that is the second at its position. -/
theorem State.clashesAt.first (h : s.clashesAt ch b) {c : BankId} (owner : (s.bank c).owner = some ch)
    (second : s.secondPlaced ch c = true) (ne : c ≠ b) : s.before b c := by
  obtain ⟨_, ⟨a, _, _, _, unique⟩, lowest⟩ := h
  obtain ⟨d, dc, dOwner, dPos, _⟩ := State.secondPlaced_unique second
  have le := lowest d c dc dOwner owner dPos
  rw [dPos] at le
  rcases Nat.lt_or_eq_of_le le with lt | eq
  · exact .inl lt
  · refine .inr ⟨eq, lt_of_le_of_ne (not_lt.mp fun cb => ?_) ne.symm⟩
    have cPlace := unique c cb owner eq.symm
    have dPlace := unique d (dc.trans cb) dOwner (dPos.trans eq.symm)
    exact absurd (dPlace.trans cPlace.symm) dc.ne

theorem State.clash_some (h : s.clashesAt ch b) : s.clash ch = some ⟨.positionClash, some b⟩ := by
  have sorted := (s.ownedBanks_sorted ch).filter (s.secondPlaced ch)
  have mem : b ∈ (s.ownedBanks ch).filter (s.secondPlaced ch) :=
    List.mem_filter.mpr ⟨(s.mem_ownedBanks ch b).mpr h.1, h.secondPlaced⟩
  unfold State.clash
  cases placed : s.firstPlaced ((s.ownedBanks ch).filter (s.secondPlaced ch)) with
  | none =>
    rw [State.firstPlaced_none sorted placed] at mem
    cases mem
  | some c =>
    obtain ⟨hc, first⟩ := State.firstPlaced_some sorted placed
    obtain ⟨owned, second⟩ := List.mem_filter.mp hc
    obtain rfl : c = b := by
      by_contra ne
      exact State.before_asymm (first b mem (Ne.symm ne)) (h.first ((s.mem_ownedBanks ch c).mp owned) second ne)
    rfl

/-- The final set of a program is a set that the program ends with (06, R106). -/
theorem endsWithSet_of_finalSet {p : Vector Machine.Step 8} {m : Byte} (h : finalSet p = some m) : endsWithSet p m := by
  by_cases sets : ∃ i, runsStep p i ∧ (p.get i).set ≠ none
  · obtain ⟨i, ⟨runs, set⟩, last⟩ := WellFounded.has_min (wellFounded_gt (α := Fin 8))
      {i | runsStep p i ∧ (p.get i).set ≠ none} sets
    obtain ⟨n, hn⟩ := Option.ne_none_iff_exists'.mp set
    have ends : endsWithSet p n := ⟨i, runs, hn, fun j hj runsJ => by
      by_contra setJ
      exact last j ⟨runsJ, setJ⟩ hj⟩
    rw [finalSet_of_endsWithSet ends] at h
    exact Option.some.inj h ▸ ends
  · push Not at sets
    have none : finalSet p = none := foldl_lastSet_none (fun x hx => by
      obtain ⟨i, runs, rfl⟩ := mem_runSteps.mp hx
      exact sets i runs) .none
    rw [none] at h
    cases h

theorem State.goodShape_iff : s.goodShape b = true ↔ s.shapeGood b := by
  refine ⟨fun h => ?_, State.shapeGood.goodShape⟩
  simp only [State.goodShape, Bool.and_eq_true, decide_eq_true_eq, List.all_eq_true, beq_iff_eq] at h
  obtain ⟨⟨⟨strike, quench⟩, noSet⟩, starts⟩ := h
  refine ⟨⟨_, endsWithSet_of_finalSet strike, fun n hn => s.mem_installedSlots b hn⟩, endsWithSet_of_finalSet quench,
    fun i runs => ?_, ?_⟩
  · exact Option.isNone_iff_eq_none.mp (noSet _ (mem_runSteps.mpr ⟨i, runs, rfl⟩))
  · rw [← Option.isSome_iff_ne_none, starts, List.any_eq_true]
    constructor
    · rintro ⟨x, hx, wiper⟩
      obtain ⟨i, runs, rfl⟩ := mem_runSteps.mp hx
      exact ⟨i, runs, wiper⟩
    · exact fun ⟨i, runs, wiper⟩ => ⟨_, mem_runSteps.mpr ⟨i, runs, rfl⟩, wiper⟩

theorem curveOrdered_iff {c : Vector CurvePoint 8} : curveOrdered c = true ↔ curveRises c := by
  refine ⟨fun h i => ?_, curveRises.curveOrdered⟩
  have segment := List.all_eq_true.mp h i (List.mem_finRange i)
  rw [Bool.and_eq_true, decide_eq_true_eq, decide_eq_true_eq] at segment
  exact segment

/-- An entry of the list of checks reports the bank of a failure of check `k`, and nothing without one. -/
structure Reports (o : Option Failure) (k : Nat) (fails : Nat → Prop) : Prop where
  passes : (∀ n, ¬ fails n) → o = none
  names  : ∀ n, fails n → ∃ f, o = some f ∧ f.bytes = [BitVec.ofNat 8 k, BitVec.ofNat 8 n]

/-- A check of the whole channel. -/
theorem failWhen_reports {fails : Bool} {c : Check} {p : Prop} (h : fails = true ↔ p) :
    Reports (failWhen fails c) c.code fun n => n = 255 ∧ p where
  passes none := failWhen_none fun e => none 255 ⟨rfl, h.mp e⟩
  names n := fun ⟨hn, hp⟩ => ⟨_, failWhen_some (h.mpr hp), by rw [hn]; rfl⟩

/-- A check of each bank. -/
theorem State.failBank_reports {c : Check} {fails : BankId → Bool} {bad : BankId → Prop}
    (h : ∀ b, fails b = true ↔ bad b) :
    Reports (s.failBank ch c fails) c.code fun n => ∃ b : BankId, n = b.1 ∧ s.firstOwned ch bad b where
  passes none := State.failBank_none (fun b => (h b).mp) fun b hb => none b.1 ⟨b, rfl, hb⟩
  names n := fun ⟨b, hn, first⟩ => ⟨_, State.failBank_some h first, by rw [hn]; rfl⟩

theorem State.clash_reports :
    Reports (s.clash ch) 4 fun n => ∃ b : BankId, n = b.1 ∧ s.clashesAt ch b where
  passes none := State.clash_none fun b hb => none b.1 ⟨b, rfl, hb⟩
  names n := fun ⟨b, hn, clash⟩ => ⟨_, State.clash_some clash, by rw [hn]; rfl⟩

/-- The ten checks in their order. -/
def State.checks (s : State) (ch : ChanId) : List (Option Failure) :=
  [failWhen (s.flowPoint ch).isNone .flowPointMissing,
   failWhen (s.uvtPoint ch).isNone .uvtPointMissing,
   failWhen (s.ownedBanks ch).isEmpty .noBanks,
   s.clash ch,
   s.failBank ch .bankIncomplete s.incomplete,
   s.failBank ch .wiperPointMissing (fun b => (s.bank b).wiperStation.isSome && (s.wiperPoint b).isNone),
   failWhen (!curveOrdered (s.chan ch).uvtCurve || !curveOrdered (s.chan ch).ballastCurve) .curveOrder,
   failWhen (!curveSpans (s.chan ch).ballastCurve ((s.chan ch).get .pmin)) .curveSpan,
   s.failBank ch .programShape (fun b => !s.goodShape b),
   failWhen (s.limitsFail ch) .limits]

theorem State.validate_eq : s.validate ch = (s.checks ch).findSome? id := rfl

theorem State.checks_length : (s.checks ch).length = 10 := rfl

theorem Reports.of_iff {o : Option Failure} {k : Nat} {p q : Nat → Prop} (h : Reports o k p) (iff : ∀ n, q n ↔ p n) :
    Reports o k q where
  passes none := h.passes fun n hn => none n ((iff n).mpr hn)
  names n hn := h.names n ((iff n).mp hn)

theorem State.noBanks_iff : (s.ownedBanks ch).isEmpty = true ↔ ∀ b, (s.bank b).owner ≠ some ch := by
  simp [List.isEmpty_iff, List.eq_nil_iff_forall_not_mem, State.mem_ownedBanks]

theorem State.incomplete_iff (b : BankId) : s.incomplete b = true ↔ s.lacking b := by
  simp [State.incomplete, State.lacking, or_assoc, List.isEmpty_iff]

theorem curveSpans_fails {c : Vector CurvePoint 8} {pmin : Nat} :
    (!curveSpans c pmin) = true ↔ pmin < (c.get 0).x ∨ (c.get 7).x ≠ 1000 := by
  simp only [curveSpans, curveAt, Bool.not_eq_true', Bool.and_eq_false_iff]
  exact or_congr ⟨fun e => not_le.mp (of_decide_eq_false e), fun lt => decide_eq_false (not_le.mpr lt)⟩
    ⟨of_decide_eq_false, fun ne => decide_eq_false ne⟩

theorem State.limitsFail_iff : s.limitsFail ch = true ↔ (s.chan ch).get .qmax < (s.chan ch).get .qmin ∨
    (s.chan ch).get .stageDownLevel < (s.chan ch).get .pmin ∨
    ((List.finRange 12).filter fun b => (s.bank b).owner = some ch).length < (s.chan ch).get .minBanks := by
  simp only [State.limitsFail, State.bankCount, Bool.or_eq_true, decide_eq_true_eq, or_assoc]
  exact or_congr .rfl (or_congr .rfl ⟨of_decide_eq_true, fun lt => decide_eq_true lt⟩)

/-- Each check in the list is that of its place in Table 9-5. -/
theorem State.checks_report {j : Nat} (hj : j < (s.checks ch).length) :
    Reports (s.checks ch)[j] (j + 1) (s.checkFails ch (j + 1)) := by
  rw [State.checks_length] at hj
  unfold State.checkFails
  interval_cases j
  · exact (failWhen_reports (c := .flowPointMissing) Option.isNone_iff_eq_none).of_iff fun n => by simp
  · exact (failWhen_reports (c := .uvtPointMissing) Option.isNone_iff_eq_none).of_iff fun n => by simp
  · exact (failWhen_reports (c := .noBanks) State.noBanks_iff).of_iff fun n => by simp
  · exact State.clash_reports.of_iff fun n => by simp
  · exact (State.failBank_reports (c := .bankIncomplete) State.incomplete_iff).of_iff fun n => by simp
  · refine (State.failBank_reports (c := .wiperPointMissing)
      (bad := fun a => (s.bank a).wiperStation ≠ none ∧ s.wiperPoint a = none) fun b => ?_).of_iff fun n => by simp
    rw [Bool.and_eq_true, Option.isSome_iff_ne_none, Option.isNone_iff_eq_none]
  · refine (failWhen_reports (c := .curveOrder)
      (p := ¬ (curveRises (s.chan ch).uvtCurve ∧ curveRises (s.chan ch).ballastCurve)) ?_).of_iff fun n => by simp
    rw [← curveOrdered_iff, ← curveOrdered_iff]
    simp [imp_iff_not_or]
  · exact (failWhen_reports (c := .curveSpan) curveSpans_fails).of_iff fun n => by simp
  · refine (State.failBank_reports (c := .programShape) (bad := fun a => ¬ s.shapeGood a) fun b => ?_).of_iff
      fun n => by simp
    rw [← State.goodShape_iff]
    simp
  · exact (failWhen_reports (c := .limits) State.limitsFail_iff).of_iff fun n => by simp

/-- The answer to an invalid profile names the first failing check and its bank (09, R160). -/
theorem State.validate_first {k n : Nat} (fails : s.checkFails ch k n) (first : ∀ j m, j < k → ¬ s.checkFails ch j m) :
    ∃ f, s.validate ch = some f ∧ f.bytes = [BitVec.ofNat 8 k, BitVec.ofNat 8 n] := by
  have place : 1 ≤ k ∧ k ≤ 10 := by
    unfold State.checkFails at fails
    omega
  obtain ⟨j, rfl⟩ : ∃ j, k = j + 1 := ⟨k - 1, by omega⟩
  have hj : j < (s.checks ch).length := by
    rw [State.checks_length]
    omega
  obtain ⟨f, found, bytes⟩ := (State.checks_report hj).names n fails
  refine ⟨f, ?_, bytes⟩
  rw [State.validate_eq, List.findSome?_eq_some_iff]
  refine ⟨(s.checks ch).take j, _, (s.checks ch).drop (j + 1), ?_, found, fun x hx => ?_⟩
  · rw [← List.drop_eq_getElem_cons hj, List.take_append_drop]
  · obtain ⟨i, hi, rfl⟩ := List.mem_take_iff_getElem.mp hx
    exact (State.checks_report (by omega)).passes fun m => first (i + 1) m (by omega)

end Checks

/-! ### GIVE EDIT (05, R78; 09, R159) -/

theorem givenBack_prevMode (ch : ChanId) (s : State) : ((givenBack ch s).chan ch).prevMode = (s.chan ch).prevMode := by
  rw [givenBack, State.modChan_chan_self]

/-- Settles O46: the list of checks is that of Table 9-5, and a valid profile departs from EDIT by one update of the
channel, its code and a review. -/
theorem giveEditReturnsTheChannel : Obligations.GiveEditReturnsTheChannel := by
  intro r ch s hs held
  have lock : s.lockTest (stationOf r.src) [ch] = none := lockTest_holder held
  refine ⟨fun k n fails first => ?_, fun valid armed => ?_⟩
  · obtain ⟨f, found, bytes⟩ := State.validate_first fails first
    have handled : handleGiveEdit (stationOf r.src) (BitVec.ofNat 8 ch.1) s =
        (s, .refused .invalidProfile [BitVec.ofNat 8 k, BitVec.ofNat 8 n]) := by
      rw [handleGiveEdit, forChannel_ofNat, lock, found, ← bytes]
    have row := requestRow_event r (.giveEdit (BitVec.ofNat 8 ch.1)) _ hs handled rfl
    rw [endEvent_atRest hs.2.2.2] at row
    exact congrArg Host.Outcome.next row
  · have prev : ((givenBack ch s).chan ch).prevMode ≠ .unarmed := by
      rw [givenBack_prevMode]
      intro e
      rw [e] at armed
      cases armed
    have handled : handleGiveEdit (stationOf r.src) (BitVec.ofNat 8 ch.1) s = (departEdit ch (givenBack ch s), .ok) := by
      rw [handleGiveEdit, forChannel_ofNat, lock, State.validate_none valid]
      exact congrArg (·, Answer.ok) (givenBack_eq ch s)
    have rest : (givenBack ch s).atRest := hs.2.2.2.of_eq rfl rfl
    have back := endEvent_departEdit rest prev
    have address : (departEdit ch (givenBack ch s)).address = s.address := by
      have outer := congrArg Outer.address back.base.1
      obtain ⟨_, _, _, _, _, e⟩ := endEvent_framesOnly (departEdit ch (givenBack ch s))
      rw [e] at outer
      exact outer
    have row := requestRow_event r (.giveEdit (BitVec.ofNat 8 ch.1)) _ hs handled address
    have own : (givenBack ch s).chan ch =
        { s.chan ch with profileValid := true, holder := none, editLease := none } := State.modChan_chan_self _ _ _
    have kept := back.chan
    rw [own] at kept
    refine ⟨_, congrArg Host.Outcome.next row, back.base.of_chan, fun d hd => ?_, ?_, ?_, ?_, ?_, ?_, ?_, ?_,
      fun other => ?_, fun auto window => ?_⟩
    · rw [back.other d hd, givenBack, State.modChan_chan, if_neg hd]
    · exact Channel.of_butStaging Channel.mode (fun _ => rfl) kept
    · exact Channel.of_butStaging Channel.holder (fun _ => rfl) kept
    · exact Channel.of_butStaging Channel.editLease (fun _ => rfl) kept
    · exact Channel.of_butStaging Channel.profileValid (fun _ => rfl) kept
    · exact (Channel.of_butStaging Channel.acct (fun _ => rfl) kept :)
    · exact (Channel.of_butStaging (fun c => c.power.pd) (fun _ => rfl) kept :)
    · exact Channel.of_butStaging (fun c => c.power.code) (fun _ => rfl) kept
    · refine back.none ?_
      rw [own]
      exact if_neg other
    · have pending := back.window (by rw [own]; exact window)
      rw [own] at pending
      exact pending.trans (if_pos auto)

end Sys2Proof.Machine

namespace Sys2Proof.Machine
open Sys2Proof

set_option Elab.async false

/-! ### Leases that run out (05, R79, R81; 09, R158) -/

section Leases

variable {ch : ChanId} {s u : State}

/-! #### EDIT_LAPSED is no condition of a mode (10, Table 10-1) -/

theorem settle_alarm {k : AlarmKind} (he : k ≠ .stageExhausted) (hd : k ≠ .doseLow) (ho : k ≠ .outOfRange) (i : Nat) :
    (stopFallback ch (clearAccounting ch (calmStaging ch s))).alarm k i = s.alarm k i := by
  show ((clearAccounting ch (calmStaging ch s)).alarm k i) = _
  rw [clearAccounting, report_alarm_ne (alarmSlot_kind ho), report_alarm_ne (alarmSlot_kind hd)]
  show ((calmStaging ch s).alarm k i) = _
  rw [calmStaging, report_alarm_ne (alarmSlot_kind he)]
  rfl

theorem darkenBank_editLapsed (b : BankId) (i : Nat) : (darkenBank b s).alarm .editLapsed i = s.alarm .editLapsed i := by
  unfold darkenBank
  split
  · rfl
  · exact State.stages.setBankState_alarm b .dark s (by decide) (by decide) (by decide) (by decide) i

theorem armedMachines_editLapsed (i : Nat) : (armedMachines ch s).alarm .editLapsed i = s.alarm .editLapsed i := by
  have bank : ∀ (b : BankId) (t : State), t.alarm .editLapsed i = s.alarm .editLapsed i →
      (resetTracker b (darkenBank b t)).alarm .editLapsed i = s.alarm .editLapsed i := fun b t h => by
    rw [← h, ← darkenBank_editLapsed (s := t) b i]
    rfl
  have banks : (forEach (s.ownedBanks ch) (fun b t => resetTracker b (darkenBank b t)) s).alarm .editLapsed i =
      s.alarm .editLapsed i :=
    forEach_keeps (P := fun t => t.alarm .editLapsed i = s.alarm .editLapsed i) (fun b _ t h => bank b t h) rfl
  have lamp : ∀ (l : LampId) (t : State), t.alarm .editLapsed i = s.alarm .editLapsed i →
      (t.modLamp l Lamp.armed).alarm .editLapsed i = s.alarm .editLapsed i := fun _ _ h => h
  unfold armedMachines
  dsimp only
  exact forEach_keeps (P := fun t => t.alarm .editLapsed i = s.alarm .editLapsed i) (fun l _ t h => lamp l t h) banks

theorem fallbackIfStale_alarm (k : AlarmKind) (i : Nat) : (fallbackIfStale ch s).alarm k i = s.alarm k i := by
  rw [fallbackIfStale_eq]
  rfl

theorem arm_editLapsed (m : Mode) (i : Nat) : (arm ch m s).alarm .editLapsed i = s.alarm .editLapsed i := by
  rw [arm_eq, judgeChannel_alarm _ _ (by decide) (by decide) (by decide) (by decide), fallbackIfStale_alarm,
    settle_alarm (by decide) (by decide) (by decide), armedMachines_editLapsed]
  rfl

theorem enterUnarmed_editLapsed (i : Nat) : (enterUnarmed ch s).alarm .editLapsed i = s.alarm .editLapsed i := by
  rw [enterUnarmed_eq, judgeChannel_alarm _ _ (by decide) (by decide) (by decide) (by decide)]
  exact settle_alarm (by decide) (by decide) (by decide) i

/-! #### The manual lease (05, R81) -/

theorem manualLeaseEnds_manual (due : s.due (s.chan ch).manualLease = true) (manual : (s.chan ch).mode = .manual) :
    manualLeaseEnds ch s = takeMode ch .auto 0 0 0 (s.modChan ch fun c => { c with manualLease := none }) := by
  have mode : ((s.modChan ch fun c => { c with manualLease := none }).chan ch).mode = .manual := by
    rw [State.modChan_chan_self]
    exact manual
  have taken : takeMode ch .auto 0 0 0 (s.modChan ch fun c => { c with manualLease := none }) =
      review ch (changeMode ch .auto (s.modChan ch fun c => { c with manualLease := none })) := by
    unfold takeMode
    rw [mode]
    rfl
  rw [taken, manualLeaseEnds, if_pos due]
  dsimp only
  rw [mode]

theorem manualLeaseEnds_edit (due : s.due (s.chan ch).manualLease = true) (edit : (s.chan ch).mode = .edit) :
    manualLeaseEnds ch s = s.modChan ch fun c => { c with
      manualLease := none
      prevMode := if c.prevMode = .manual then .auto else c.prevMode } := by
  have own : (s.modChan ch fun c => { c with manualLease := none }).chan ch = { s.chan ch with manualLease := none } :=
    State.modChan_chan_self _ _ _
  rw [manualLeaseEnds, if_pos due]
  dsimp only
  rw [own, edit]
  dsimp only
  split
  · next manual =>
    rw [State.modChan_modChan]
    exact modChan_congr (by simp [manual])
  · next other => exact modChan_congr (by simp [other])

/-! #### The edit lease (09, R158) -/

/-- What the end of arming leaves of the frame and of the channel (05, R84). -/
theorem endEvent_arm (hu : u.atRest) (m : Mode) :
    u.sameBase (endEvent (arm ch m u)) ∧ (∀ d, d ≠ ch → (endEvent (arm ch m u)).chan d = u.chan d) ∧
      (endEvent (arm ch m u)).chan ch = (u.chan ch).armedAt m (u.freshPoint (u.flowPoint ch)) u.now := by
  have armed := arm_alarmUnitOnly ch m u
  have noted := arm_notesSound (State.notesSound.atRest hu) ch m
  have ends := endEvent_ends noted
  have own : (arm ch m u).chan ch = (u.chan ch).armedAt m (u.freshPoint (u.flowPoint ch)) u.now := by
    rw [armed.chan, armedState_chan]
  have other : ∀ d, d ≠ ch → (arm ch m u).chan d = u.chan d := fun d hd => by
    rw [armed.chan]
    show (u.modChan ch fun c => c.armedAt m (u.freshPoint (u.flowPoint ch)) u.now).chan d = _
    rw [State.modChan_chan, if_neg hd]
  have event : u.eventOnly (armedState ch m u) := ⟨_, _, _, _, _, _, _, rfl⟩
  refine ⟨State.sameBase_endEvent (event.trans armed.event) noted (arm_tables ch m u) fun d => ?_, fun d hd => ?_, ?_⟩
  · by_cases hd : d = ch
    · subst hd
      simp only [State.totals, own]
      rfl
    · simp only [State.totals, other d hd]
  · rw [ends.chan, other d hd]
  · rw [ends.chan, own]

/-- What the lapse of an invalid profile leaves of the frame and of the channel (05, R79, R82). -/
theorem endEvent_lapsed (hu : u.atRest) :
    u.sameBase (endEvent (raise .editLapsed ch.1 (enterUnarmed ch u))) ∧
      (∀ d, d ≠ ch → (endEvent (raise .editLapsed ch.1 (enterUnarmed ch u))).chan d = u.chan d) ∧
      (endEvent (raise .editLapsed ch.1 (enterUnarmed ch u))).chan ch = (u.chan ch).unarmed.settled := by
  have unarmed := (enterUnarmed_alarmUnitOnly ch u).trans (raise_alarmUnitOnly .editLapsed ch.1 _)
  have noted : (raise .editLapsed ch.1 (enterUnarmed ch u)).notesSound :=
    (enterUnarmed_notesSound (State.notesSound.atRest hu) ch).raise ch.isLt
  have ends := endEvent_ends noted
  have channels : ((ungovernedState ch u).modChan ch Channel.settled).channels =
      (u.modChan ch fun c => c.unarmed.settled).channels := by
    rw [← State.modChan_modChan u ch Channel.unarmed Channel.settled]
    rfl
  have chan : ∀ d, (raise .editLapsed ch.1 (enterUnarmed ch u)).chan d =
      (u.modChan ch fun c => c.unarmed.settled).chan d := fun d => by
    rw [unarmed.chan, State.chan, channels, State.chan]
  have event : u.eventOnly ((ungovernedState ch u).modChan ch Channel.settled) := ⟨_, _, _, _, _, _, _, rfl⟩
  refine ⟨State.sameBase_endEvent (event.trans unarmed.event) noted ?_ fun d => ?_, fun d hd => ?_, ?_⟩
  · rw [raise_tables, enterUnarmed_tables]
  · have acct : ((raise .editLapsed ch.1 (enterUnarmed ch u)).totals d) = (u.modChan ch Channel.unarmed).totals d := by
      simp only [State.totals, chan, State.modChan_chan]
      split <;> rfl
    rw [acct, State.modChan_totals]
  · rw [ends.chan, chan, State.modChan_chan, if_neg hd]
  · rw [ends.chan, chan, State.modChan_chan_self]

theorem endEvent_raise_state (k : AlarmKind) (i : Nat) (u : State) : ((endEvent (raise k i u)).alarm k i).state =
    if u.priority k = 0 then (u.alarm k i).state else (u.alarm k i).state.raised := by
  rw [endEvent_alarm]
  exact (raise_raisedOnly k i u).1

end Leases

/-- Settles O56: the manual lease's end is a change into AUTO; a lapsed lease frees the lock, and then a valid profile
departs from EDIT as at GIVE EDIT, an invalid one into UNARMED. -/
theorem leasesRunOut : Obligations.LeasesRunOut := by
  refine ⟨fun ch d s hs lease hd => ?_, fun ch d s hs lease hd => ?_⟩
  · have due : s.due (s.chan ch).manualLease = true := (s.due_iff _).mpr ⟨d, lease, hd⟩
    refine ⟨fun manual => ?_, fun edit => ?_⟩
    · have rest : (s.modChan ch fun c => { c with manualLease := none }).atRest := hs.of_eq rfl rfl
      have own : (s.modChan ch fun c => { c with manualLease := none }).chan ch =
          { s.chan ch with manualLease := none } := State.modChan_chan_self _ _ _
      obtain ⟨base, lamps, _, other, kept, pending⟩ := takeMode_ends (ch := ch) (m := .auto) (value := 0) (count := 0)
        (lease := 0) rest rfl
      rw [own] at kept pending
      have moded : ((({ s.chan ch with manualLease := none } : Channel).moded .auto).given .auto 0 0 0
          (s.modChan ch fun c => { c with manualLease := none }).now) =
          ({ s.chan ch with manualLease := none } : Channel).changed .auto := by
        unfold Channel.moded Channel.given
        simp [manual]
      rw [moded] at kept
      have row : exec (.manualLeaseExpiry ch) s = .next (endEvent (manualLeaseEnds ch s)) := rfl
      refine ⟨_, row, ?_⟩
      rw [manualLeaseEnds_manual due manual]
      refine ⟨base.of_chan, lamps, ?_, ?_, pending (by simp [manual]), ?_, fun d hd => ?_⟩
      · exact Channel.of_butStaging Channel.mode (fun _ => rfl) kept
      · have stopped := Channel.of_butStaging Channel.manualLease (fun _ => rfl) kept
        simpa [Channel.changed] using stopped
      · exact (Channel.of_butStaging Channel.power (fun _ => rfl) kept :)
      · rw [other d hd, State.modChan_chan, if_neg hd]
    · have row : exec (.manualLeaseExpiry ch) s = .next (endEvent (manualLeaseEnds ch s)) := rfl
      rw [row, manualLeaseEnds_edit due edit]
      exact congrArg Host.Outcome.next (endEvent_atRest (hs.of_eq rfl rfl))
  · have due : s.due (s.chan ch).editLease = true := (s.due_iff _).mpr ⟨d, lease, hd⟩
    have row : exec (.editLeaseLapse ch) s = .next (endEvent (editLeaseEnds ch s)) := rfl
    have ends : editLeaseEnds ch s = lapse ch s := if_pos due
    have rest : (freeLock ch s).atRest := hs.of_eq rfl rfl
    have own : (freeLock ch s).chan ch = { s.chan ch with holder := none, editLease := none } :=
      State.modChan_chan_self _ _ _
    have others : ∀ d, d ≠ ch → (freeLock ch s).chan d = s.chan d := fun d hd => by
      rw [freeLock, State.modChan_chan, if_neg hd]
    refine ⟨_, row, ?_⟩
    rw [ends]
    by_cases valid : (s.chan ch).profileValid = true
    · have departs : lapse ch s = departEdit ch (freeLock ch s) := if_pos valid
      rw [departs]
      by_cases prev : (s.chan ch).prevMode = .unarmed
      · have armed : departEdit ch (freeLock ch s) = arm ch .auto (freeLock ch s) :=
          departEdit_unarmed (by rw [own]; exact prev)
        obtain ⟨base, other, kept⟩ := endEvent_arm (ch := ch) rest .auto
        rw [armed]
        rw [own] at kept
        refine ⟨base.of_chan, by rw [kept]; rfl, by rw [kept]; rfl, by rw [kept]; rfl, fun d hd => ?_, fun _ => ⟨?_, ?_, ?_⟩,
          fun invalid => absurd valid (by simp [invalid])⟩
        · rw [other d hd, others d hd]
        · rw [kept, if_pos prev]
          rfl
        · rw [kept]
          exact fun _ => rfl
        · rw [endEvent_alarm, arm_editLapsed]
          rfl
      · have back := endEvent_departEdit rest (by rw [own]; exact prev)
        have kept := back.chan
        rw [own] at kept
        refine ⟨back.base.of_chan, ?_, ?_, ?_, fun d hd => ?_, fun _ => ⟨?_, fun e => absurd e prev, back.alarm⟩,
          fun invalid => absurd valid (by simp [invalid])⟩
        · exact Channel.of_butStaging Channel.holder (fun _ => rfl) kept
        · exact Channel.of_butStaging Channel.editLease (fun _ => rfl) kept
        · exact (Channel.of_butStaging Channel.profileValid (fun _ => rfl) kept :)
        · rw [back.other d hd, others d hd]
        · rw [if_neg prev]
          exact Channel.of_butStaging Channel.mode (fun _ => rfl) kept
    · have lapses : lapse ch s = raise .editLapsed ch.1 (enterUnarmed ch (freeLock ch s)) := if_neg valid
      obtain ⟨base, other, kept⟩ := endEvent_lapsed (ch := ch) rest
      rw [lapses]
      rw [own] at kept
      refine ⟨base.of_chan, by rw [kept]; rfl, by rw [kept]; rfl, by rw [kept]; rfl, fun d hd => ?_,
        fun h => absurd h valid, fun _ => ⟨by rw [kept]; rfl, by rw [kept]; rfl, by rw [kept]; rfl, ?_⟩⟩
      · rw [other d hd, others d hd]
      · have priority : (enterUnarmed ch (freeLock ch s)).priority .editLapsed = s.priority .editLapsed :=
          congrArg (fun p => p.get AlarmKind.editLapsed.idx) (enterUnarmed_alarmUnitOnly ch (freeLock ch s)).priorities
        rw [endEvent_raise_state, priority, enterUnarmed_editLapsed]
        rfl

end Sys2Proof.Machine

namespace Sys2Proof.Machine
open Sys2Proof

set_option Elab.async false

/-! ### The ground an event stands on (00, section 4.5) -/

/-- `m` shows lamps what `s` shows them: the instant, their banks' owners, the channels and the south port. -/
structure State.sameGround (s m : State) : Prop where
  now     : m.now = s.now
  address : m.address = s.address
  south   : m.south = s.south
  owner   : ∀ b, (m.bank b).owner = (s.bank b).owner
  dormant : ∀ ch, (m.chan ch).dormant = (s.chan ch).dormant
  setting : ∀ ch k, (m.chan ch).get k = (s.chan ch).get k
  code    : ∀ ch, (m.chan ch).power.code = (s.chan ch).power.code

theorem State.eventOnly.now {s t : State} (h : s.eventOnly t) : t.now = s.now := by
  obtain ⟨_, _, _, _, _, _, _, rfl⟩ := h
  rfl

theorem State.eventOnly.address {s t : State} (h : s.eventOnly t) : t.address = s.address := by
  obtain ⟨_, _, _, _, _, _, _, rfl⟩ := h
  rfl

theorem State.eventOnly.south {s t : State} (h : s.eventOnly t) : t.south = s.south := by
  obtain ⟨_, _, _, _, _, _, _, rfl⟩ := h
  rfl

theorem State.moves.owner {s m : State} (h : s.moves m) (b : BankId) : (m.bank b).owner = (s.bank b).owner :=
  congrArg Bank.Record.owner (h.record b)

/-- A setting of a bank stays in every chain of moves. -/
theorem State.moves.bankGet {s m : State} (h : s.moves m) (b : BankId) (k : BankSetting) :
    (m.bank b).get k = (s.bank b).get k :=
  congrArg (fun r : Bank.Record => r.settings.get k.idx) (h.record b)

theorem State.moves.ground {s m : State} (h : s.moves m) : s.sameGround m where
  now := h.event.now
  address := h.event.address
  south := h.event.south
  owner := h.owner
  dormant ch := h.keeps Channel.dormant ch
  setting ch k := h.keeps (fun c => c.get k) ch
  code ch := h.keeps (fun c => c.power.code) ch

namespace State.sameGround

variable {s m t : State}

theorem governed (h : s.sameGround m) (b : BankId) : m.bankGoverned b = s.bankGoverned b := by
  simp only [State.bankGoverned, h.owner, h.dormant]

theorem struck (h : s.sameGround m) (x : Lamp) : m.struck x = s.struck x := by
  unfold State.struck
  simp only [h.owner, h.dormant, h.setting, h.now, h.code]

theorem cmdMade (h : s.sameGround m) {x z : Lamp} {c : LampCmd} (made : m.cmdMade t x z c) : s.cmdMade t x z c :=
  State.cmdMade_congr made h.address h.south rfl rfl

end State.sameGround

/-! ### Lamps that have acted (07, R118; 08, R144) -/

section ActedBy

variable {s t u v : State} {φ ψ : LampId → Lamp → Lamp} {k l : LampId} {x y : Lamp}

/-- Each installed lamp has gone from its record `x` to `φ k x`; no slot was emptied and the slots filled are noted. -/
structure State.actedBy (s u : State) (φ : LampId → Lamp → Lamp) : Prop where
  lamp  : ∀ k, u.lamp k = (s.lamp k).map (φ k)
  full  : ∀ k x, s.lamp k = some x → x.cmd ≠ none → (φ k x).cmd ≠ none
  slots : ∀ pos, pos ∈ u.slotsMade ↔ pos ∈ s.slotsMade ∨
    ∃ k, pos = lampPos k ∧ ∃ x, s.lamp k = some x ∧ x.cmd = none ∧ (φ k x).cmd ≠ none

namespace State.actedBy

theorem of_eq (lamps : u.lamps = s.lamps) (slots : u.slotsMade = s.slotsMade) : s.actedBy u fun _ x => x := by
  refine ⟨fun k => ?_, fun _ _ _ made => made, fun pos => ?_⟩
  · rw [Option.map_id', State.lamp, lamps]
    rfl
  · rw [slots]
    refine ⟨.inl, fun h => h.resolve_right ?_⟩
    rintro ⟨_, _, x, _, none, some⟩
    exact some none

theorem congr (h : s.actedBy u φ) (same : ∀ k x, s.lamp k = some x → φ k x = ψ k x) : s.actedBy u ψ := by
  refine ⟨fun k => ?_, fun k x hx made => same k x hx ▸ h.full k x hx made, fun pos => ?_⟩
  · rw [h.lamp]
    exact Option.map_congr fun x hx => same k x hx
  · rw [h.slots]
    refine or_congr_right (exists_congr fun k => and_congr_right fun _ => exists_congr fun x =>
      and_congr_right fun hx => ?_)
    rw [same k x hx]

/-- Two turns one after the other. -/
theorem trans (h : s.actedBy t φ) (g : t.actedBy u ψ) : s.actedBy u fun k x => ψ k (φ k x) := by
  have reached : ∀ {k x}, s.lamp k = some x → t.lamp k = some (φ k x) := fun hx => by rw [h.lamp, hx]; rfl
  refine ⟨fun k => ?_, fun k x hx made => g.full k _ (reached hx) (h.full k x hx made), fun pos => ?_⟩
  · rw [g.lamp, h.lamp, Option.map_map]
    rfl
  · rw [g.slots, h.slots, or_assoc]
    refine or_congr_right ⟨?_, ?_⟩
    · rintro (⟨k, rfl, x, hx, none, some⟩ | ⟨k, rfl, y, hy, none, some⟩)
      · exact ⟨k, rfl, x, hx, none, g.full k _ (reached hx) some⟩
      · rw [h.lamp, Option.map_eq_some_iff] at hy
        obtain ⟨x, hx, rfl⟩ := hy
        exact ⟨k, rfl, x, hx, by_contra fun made => h.full k x hx made none, some⟩
    · rintro ⟨k, rfl, x, hx, none, some⟩
      by_cases made : (φ k x).cmd = .none
      · exact .inr ⟨k, rfl, φ k x, reached hx, made, some⟩
      · exact .inl ⟨k, rfl, x, hx, none, made⟩

/-- What comes after moves neither lamps nor slots. -/
theorem still (h : s.actedBy t φ) (lamps : u.lamps = t.lamps) (slots : u.slotsMade = t.slotsMade) : s.actedBy u φ :=
  h.trans (.of_eq lamps slots)

/-- What came before moved neither lamps nor slots. -/
theorem after (h : t.actedBy u φ) (lamps : t.lamps = s.lamps) (slots : t.slotsMade = s.slotsMade) : s.actedBy u φ :=
  (of_eq lamps slots).trans h

/-- One lamp acts. -/
theorem one (hx : s.lamp l = some x) (full : x.cmd ≠ none → y.cmd ≠ none) :
    s.actedBy (s.lampActs l x y) fun k z => if k = l then y else z := by
  refine ⟨fun k => ?_, fun k z hz made => ?_, fun pos => ?_⟩
  · rw [lampActs_lamp]
    split
    · next e => rw [e, hx]; rfl
    · exact Option.map_id'.symm
  · split
    · next e =>
      subst e
      rw [hx] at hz
      exact full (Option.some.inj hz ▸ made)
    · exact made
  · rw [mem_lampActs_slotsMade]
    refine or_congr_right ⟨?_, ?_⟩
    · rintro ⟨rfl, none, some⟩
      exact ⟨l, rfl, x, hx, none, by rwa [if_pos rfl]⟩
    · rintro ⟨k, rfl, z, hz, none, some⟩
      split at some
      · next e =>
        subst e
        rw [hx] at hz
        exact ⟨rfl, Option.some.inj hz ▸ none, some⟩
      · exact absurd none some

end State.actedBy

/-- The lamps of a list have acted, and the others not. -/
theorem State.LampsActed.actedBy {g : Lamp → Lamp} {ls : List LampId} (h : s.LampsActed u ls g)
    (full : ∀ x, x.cmd ≠ none → (g x).cmd ≠ none) : s.actedBy u fun k x => if k ∈ ls then g x else x := by
  refine ⟨fun k => ?_, fun k x _ made => ?_, fun pos => ?_⟩
  · rw [h.lamp]
    split
    · rfl
    · exact Option.map_id'.symm
  · split
    · exact full x made
    · exact made
  · rw [h.slots]
    refine or_congr_right ⟨?_, ?_⟩
    · rintro ⟨k, hk, e, x, hx, none, some⟩
      exact ⟨k, e, x, hx, none, by rwa [if_pos hk]⟩
    · rintro ⟨k, e, x, hx, none, some⟩
      split at some
      · next hk => exact ⟨k, hk, e, x, hx, none, some⟩
      · exact absurd none some

namespace State.actedBy

/-- A lamp that acted, at the end of the event: its command has entered the south queue or waits (07, R131; 08, R144). -/
theorem ends {s₀ : State} (h : s.actedBy v φ) (quiet : ∀ k, lampPos k ∉ s.slotsMade) (sound : v.notesSound)
    (ground : s₀.sameGround v) (hx : s.lamp k = some x) :
    ((φ k x).cmd = x.cmd → (endEvent v).lamp k = some (φ k x)) ∧
    (∀ c, (φ k x).station = x.station → (φ k x).cmd = some c →
      ∃ z, (endEvent v).lamp k = some z ∧ z = { φ k x with cmd := z.cmd } ∧ s₀.cmdMade (endEvent v) x z c) := by
  have acted : v.lamp k = some (φ k x) := by rw [h.lamp, hx]; rfl
  have noted : lampPos k ∈ v.slotsMade ↔ x.cmd = none ∧ (φ k x).cmd ≠ none := by
    rw [h.slots, or_iff_right (quiet k)]
    constructor
    · rintro ⟨l, same, y, hy, made⟩
      obtain rfl := lampPos_injective same
      rw [hx] at hy
      exact Option.some.inj hy ▸ made
    · exact fun made => ⟨k, rfl, x, hx, made⟩
  rcases (endEvent_ends sound).lamp k with ⟨kept, full⟩ | ⟨y, d, hy, hd, sent, south, made⟩
  · refine ⟨fun _ => kept.trans acted, fun c _ hc => ⟨φ k x, kept.trans acted, rfl, ground.cmdMade (.inl ⟨hc, ?_⟩)⟩⟩
    by_cases empty : x.cmd = none
    · have made : (φ k x).cmd ≠ none := by rw [hc]; exact Option.some_ne_none c
      exact .inr (full (noted.mpr ⟨empty, made⟩) _ acted made)
    · exact .inl empty
  · obtain ⟨empty, made⟩ := noted.mp made
    obtain rfl := Option.some.inj (hy.symm.trans acted)
    refine ⟨fun same => absurd (same.trans empty) made, fun c station hc => ?_⟩
    obtain rfl := Option.some.inj (hd.symm.trans hc)
    rw [station] at south
    exact ⟨_, sent, rfl, ground.cmdMade (.inr ⟨empty, rfl, south⟩)⟩

/-- Only lamp slots were filled. -/
theorem bank (h : s.actedBy v φ) (quiet : s.slotsMade = []) (sound : v.notesSound) (b : BankId) :
    (endEvent v).bank b = v.bank b := by
  refine endEvent_bank sound (fun pos made => ?_) b
  rw [h.slots, quiet] at made
  obtain none | ⟨k, e, _⟩ := made
  · cases none
  · exact ⟨k, e⟩

end State.actedBy

end ActedBy

/-! ### A lamp's flag, its strike path and its putting out, at the end of the event -/

section Acts

variable {s₀ s u v t : State} {φ : LampId → Lamp → Lamp} {k l : LampId} {x y : Lamp} {w : Bool}

theorem State.struck_station (s : State) (x : Lamp) : (s.struck x).station = x.station := by
  unfold State.struck
  split
  · split <;> rfl
  · rfl

theorem State.struck_full (s : State) (x : Lamp) (h : x.cmd ≠ none) : (s.struck x).cmd ≠ none := by
  unfold State.struck
  split
  · split
    · exact Option.some_ne_none _
    · exact h
  · exact h

/-- What a governed lamp makes of its lost flag (07, R118). -/
def Lamp.unlit (x : Lamp) : Lamp :=
  match x.state with
  | .striking => { x with state := .off, strikeTimer := none, cmd := some .quench }
  | .lit => x.quenched
  | .retryWait => { x with state := .off, waitTimer := none }
  | .longWait => { x with state := .off, waitTimer := none }
  | .off => x
  | .dead => x

theorem Lamp.unlit_full (x : Lamp) (h : x.cmd ≠ none) : x.unlit.cmd ≠ none := by
  unfold Lamp.unlit
  split
  · exact Option.some_ne_none _
  · exact Option.some_ne_none _
  · exact h
  · exact h
  · exact h
  · exact h

theorem actUnwanted_eq (hx : s.lamp l = some x) : actUnwanted l s = s.lampActs l x x.unlit := by
  cases state : x.state <;> simp only [actUnwanted, hx, Lamp.unlit, state]
  case striking =>
    rw [modLamp_eq hx, placeLamp_eq (State.setLamp_lamp_self _ _ _), mergeCmd_quench, setLamp_lampActs (x := x) (by rfl)]
  case lit => exact putOutLit_eq hx
  case retryWait => exact (modLamp_eq hx _).trans (lampActs_quiet rfl).symm
  case longWait => exact (modLamp_eq hx _).trans (lampActs_quiet rfl).symm
  case off => exact (lampActs_same hx).symm
  case dead => exact (lampActs_same hx).symm

/-- The record of a lamp whose flag becomes `w` (07, R118, R120, R132). -/
def State.flagged (s : State) (w : Bool) (x : Lamp) : Lamp :=
  if x.wanted = w then x
  else if s.bankGoverned x.bank = false then { x with wanted := w }
  else if w = true then s.struck { x with wanted := true }
  else { x with wanted := false }.unlit

theorem State.flagged_full (s : State) (w : Bool) (x : Lamp) (h : x.cmd ≠ none) : (s.flagged w x).cmd ≠ none := by
  unfold State.flagged
  split
  · exact h
  · split
    · exact h
    · split
      · exact s.struck_full _ h
      · exact Lamp.unlit_full _ h

theorem State.sameGround.flagged (h : s.sameGround u) (w : Bool) (x : Lamp) : u.flagged w x = s.flagged w x := by
  unfold State.flagged
  rw [h.governed, h.struck]

theorem State.struck_not_off (s : State) {x : Lamp} (h : x.state ≠ .off) : s.struck x = x := by
  unfold State.struck
  split
  · exact if_neg fun ready => h ready.2.1
  · rfl

theorem setWanted_eq (hx : s.lamp l = some x) (w : Bool) : setWanted w l s = s.lampActs l x (s.flagged w x) := by
  have governed : s.lampGoverned l = s.bankGoverned x.bank := by rw [State.lampGoverned, hx]
  have stored := State.setLamp_lamp_self s l (some { x with wanted := w })
  unfold setWanted State.flagged
  rw [hx]
  dsimp only
  split
  · exact (lampActs_same hx).symm
  rw [governed, modLamp_eq hx]
  cases s.bankGoverned x.bank
  · exact (lampActs_quiet rfl).symm
  cases w
  · show actUnwanted l (s.setLamp l (some { x with wanted := false })) = _
    rw [actUnwanted_eq stored, setLamp_lampActs (x := x) (by rfl)]
    rfl
  · show (if x.state = .off then strikePath l (s.setLamp l (some { x with wanted := true })) else
      s.setLamp l (some { x with wanted := true })) = s.lampActs l x (s.struck { x with wanted := true })
    split
    · rw [strikePath_eq stored, setLamp_lampActs (x := x) (by rfl)]
      rfl
    · next other =>
      rw [s.struck_not_off (x := { x with wanted := true }) other]
      exact (lampActs_quiet rfl).symm

theorem State.cmdMade_record {z : Lamp} {c : LampCmd} (h : s.cmdMade t x z c) (cmd : y.cmd = x.cmd)
    (station : y.station = x.station) : s.cmdMade t y z c := by
  unfold State.cmdMade at *
  rwa [cmd, station]

namespace State.actedBy

variable (h : s.actedBy v φ) (quiet : ∀ k, lampPos k ∉ s.slotsMade) (sound : v.notesSound) (ground : s₀.sameGround v)
  (hx : s.lamp k = some x)

include h quiet sound ground hx

/-- A lamp whose record moved without a command. -/
theorem stays (e : φ k x = y) (cmd : y.cmd = x.cmd) : (endEvent v).lamp k = some y := by
  subst e
  exact (h.ends quiet sound ground hx).1 cmd

/-- A lamp that made a command. -/
theorem commanded {c : LampCmd} (e : φ k x = y) (station : y.station = x.station) (cmd : y.cmd = some c) :
    ∃ z, (endEvent v).lamp k = some z ∧ z = { y with cmd := z.cmd } ∧ s₀.cmdMade (endEvent v) x z c := by
  subst e
  exact (h.ends quiet sound ground hx).2 c station cmd

/-- A lamp put out. -/
theorem putOut (e : φ k x = y.quenched) (cmd : y.cmd = x.cmd) (station : y.station = x.station) :
    ∃ z, (endEvent v).lamp k = some z ∧ s₀.putOut (endEvent v) y z := by
  obtain ⟨z, hz, same, made⟩ := h.commanded quiet sound ground hx e station rfl
  exact ⟨z, hz, same, State.cmdMade_record made cmd station⟩

/-- A lamp that tried the strike path. -/
theorem tried (e : φ k x = s₀.struck y) (cmd : y.cmd = x.cmd) (station : y.station = x.station) :
    ∃ z, (endEvent v).lamp k = some z ∧ s₀.strikeTried (endEvent v) y z := by
  unfold State.strikeTried
  cases owner : (s₀.bank y.bank).owner with
  | none =>
    have idle : s₀.struck y = y := by
      unfold State.struck
      rw [owner]
    exact ⟨y, h.stays quiet sound ground hx (e.trans idle) cmd, rfl⟩
  | some ch =>
    dsimp only
    split
    · next ready =>
      obtain ⟨z, hz, same, made⟩ := h.commanded quiet sound ground hx (e.trans (State.struck_ready owner ready)) station rfl
      exact ⟨z, hz, same, State.cmdMade_record made cmd station⟩
    · next unready =>
      exact ⟨y, h.stays quiet sound ground hx (e.trans (State.struck_unready owner unready)) cmd, rfl⟩

/-- A lamp whose flag was set. -/
theorem flag (e : φ k x = s₀.flagged w x) : ∃ z, (endEvent v).lamp k = some z ∧ s₀.flagBecame (endEvent v) w x z := by
  unfold State.flagged at e
  unfold State.flagBecame
  split at e
  · next same =>
    simp only [if_pos same]
    exact ⟨x, h.stays quiet sound ground hx e rfl, rfl⟩
  next differs =>
  split at e
  · next free =>
    simp only [if_neg differs, if_pos free]
    exact ⟨_, h.stays quiet sound ground hx e rfl, rfl⟩
  next governed =>
  split at e
  · next lit =>
    simp only [if_neg differs, if_neg governed, if_pos lit]
    exact h.tried quiet sound ground hx e rfl rfl
  next unlit =>
  simp only [if_neg differs, if_neg governed, if_neg unlit]
  cases state : x.state <;> simp only [Lamp.unlit, state] at e ⊢
  case striking => exact h.commanded quiet sound ground hx e rfl rfl
  case lit =>
    obtain ⟨z, hz, put⟩ := h.putOut quiet sound ground hx e rfl rfl
    exact ⟨z, hz, put.1.trans (by rfl), State.cmdMade_record put.2 rfl rfl⟩
  case retryWait => exact ⟨_, h.stays quiet sound ground hx e rfl, rfl⟩
  case longWait => exact ⟨_, h.stays quiet sound ground hx e rfl, rfl⟩
  case off => exact ⟨_, h.stays quiet sound ground hx e rfl, rfl⟩
  case dead => exact ⟨_, h.stays quiet sound ground hx e rfl, rfl⟩

end State.actedBy

/-- The lamps installed in a bank take the flag (07, R118). -/
theorem wantAll_acted (w : Bool) (b : BankId) (s : State) : s.lampsOnly (wantAll w b s) ∧
    s.actedBy (wantAll w b s) fun k x => if k ∈ s.installed b then s.flagged w x else x := by
  have turns : s.lampsOnly (wantAll w b s) ∧ s.LampsActed (wantAll w b s) (s.installed b) (s.flagged w) := by
    refine lampsActed_of (s.installed_nodup b) (fun k hk => ?_) fun k _ t x only hx => ?_
    · obtain ⟨x, hx, _⟩ := (s.mem_installed b k).mp hk
      exact ⟨x, hx⟩
    · rw [setWanted_eq hx]
      obtain ⟨_, _, rfl⟩ := only
      rfl
  exact ⟨turns.1, turns.2.actedBy (s.flagged_full w)⟩

theorem mem_installed_iff (hx : s.lamp k = some x) (b : BankId) : k ∈ s.installed b ↔ x.bank = b := by
  rw [s.mem_installed]
  refine ⟨fun ⟨y, hy, hb⟩ => ?_, fun hb => ⟨x, hx, hb⟩⟩
  rw [hx] at hy
  exact Option.some.inj hy ▸ hb

end Acts

/-! ### What neither lamps nor slots see -/

/-- Reports and updates of channels and banks leave lamps and slots. -/
structure State.sparesLamps (s t : State) : Prop where
  lamps : t.lamps = s.lamps
  slots : t.slotsMade = s.slotsMade

namespace State.sparesLamps

variable {s t u : State}

theorem refl (s : State) : s.sparesLamps s := ⟨rfl, rfl⟩

theorem trans (h : s.sparesLamps t) (g : t.sparesLamps u) : s.sparesLamps u :=
  ⟨g.lamps.trans h.lamps, g.slots.trans h.slots⟩

theorem unit (h : s.sparesLamps t) (g : t.alarmUnitOnly u) : s.sparesLamps u := by
  obtain ⟨_, _, _, rfl⟩ := g
  exact ⟨h.lamps, h.slots⟩

theorem bank (h : s.sparesLamps t) (b : BankId) (f : Bank → Bank) : s.sparesLamps (t.modBank b f) := ⟨h.lamps, h.slots⟩

theorem chan (h : s.sparesLamps t) (c : ChanId) (f : Channel → Channel) : s.sparesLamps (t.modChan c f) :=
  ⟨h.lamps, h.slots⟩

theorem setBankState (h : s.sparesLamps t) (b : BankId) (st : BankState) : s.sparesLamps (setBankState b st t) :=
  (h.bank b _).unit (setBankState_alarmUnitOnly b st t)

theorem report (h : s.sparesLamps t) (k : AlarmKind) (i : Nat) (holds : Bool) : s.sparesLamps (report k i holds t) :=
  h.unit (report_alarmUnitOnly k i holds t)

theorem unlist (h : s.sparesLamps t) (b : BankId) : s.sparesLamps (unlist b t) := by
  unfold Machine.unlist
  split
  · exact h.chan _ _
  · exact h

theorem stages {ch : ChanId} (h : s.sparesLamps t) (g : t.stages ch u) : s.sparesLamps u := by
  induction g with
  | refl => exact h
  | list _ c _ ih => exact ih.chan c _
  | counts _ _ ih => exact ih.chan ch _
  | bank _ b _ _ ih => exact ih.bank b _
  | enter _ b _ ih => exact ih.setBankState b _
  | exhausted _ c holds ih => exact ih.report _ c.1 holds

theorem reviewOwner (h : s.sparesLamps t) (b : BankId) : s.sparesLamps (reviewOwner b t) := by
  unfold Machine.reviewOwner
  split
  · next ch _ => exact h.stages (.review (ch := ch) .refl)
  · exact h

theorem enterDark (h : s.sparesLamps t) (b : BankId) : s.sparesLamps (enterDark b t) := (h.setBankState b _).bank b _

theorem darkBank (h : s.sparesLamps t) (b : BankId) : s.sparesLamps (darkBank b t) := (h.enterDark b).reviewOwner b

theorem enterRun (h : s.sparesLamps t) (b : BankId) : s.sparesLamps (enterRun b t) := by
  unfold Machine.enterRun startInterval
  exact ((h.setBankState b .run).bank b _).bank b _

theorem runBank (h : s.sparesLamps t) (b : BankId) : s.sparesLamps (runBank b t) := (h.enterRun b).reviewOwner b

theorem requestForBank (h : s.sparesLamps t) (b : BankId) : s.sparesLamps (requestForBank b t) := by
  unfold Machine.requestForBank
  split
  · next ch _ => exact h.stages (requestStageUp_stages ch)
  · exact h

theorem actedBy (h : s.sparesLamps t) : s.actedBy t fun _ x => x := .of_eq h.lamps h.slots

/-- An event that spares lamps and slots ends so. -/
theorem endEvent (h : s.sparesLamps t) (hs : s.slotsMade = []) (sound : t.notesSound) :
    (endEvent t).lamps = s.lamps ∧ ∀ b, (Machine.endEvent t).bank b = t.bank b := by
  have none : t.slotsMade = [] := h.slots.trans hs
  refine ⟨((endEvent_ends sound).still none).1.trans h.lamps, fun b => endEvent_bank sound (fun pos made => ?_) b⟩
  rw [none] at made
  cases made

end State.sparesLamps

end Sys2Proof.Machine

namespace Sys2Proof.Machine
open Sys2Proof

set_option Elab.async false

/-! ### A bank that stands aside from staging (05, R91, R92) -/

/-- Between `s` and `t` a bank was left alone, and stands on no list of the channel. -/
structure State.aside (s t : State) (ch : ChanId) (b : BankId) : Prop where
  bank  : t.bank b = s.bank b
  fault : t.alarm .bankFault b.1 = s.alarm .bankFault b.1
  off   : b ∉ (t.chan ch).startList

namespace State.aside

variable {s t u : State} {ch : ChanId} {b : BankId}

theorem of_eq (h : s.aside t ch b) (bank : u.bank b = t.bank b) (fault : u.alarm .bankFault b.1 = t.alarm .bankFault b.1)
    (list : b ∈ (u.chan ch).startList ↔ b ∈ (t.chan ch).startList) : s.aside u ch b :=
  ⟨bank.trans h.bank, fault.trans h.fault, fun on => h.off (list.mp on)⟩

/-- A stage-up takes a DARK bank, a stage-down one of the list. -/
theorem keeps (hs : (s.bank b).state ≠ .dark) (ch : ChanId) : StagingKeeps (fun t => s.aside t ch b) (fun c => b ≠ c) ch where
  counts {t f} hf h := h.of_eq rfl rfl (by rw [State.modChan_chan_self, hf])
  exhausted {t} holds h := h.of_eq (report_bank _ _ _ _ _) (report_alarm_ne (alarmSlot_kind (by decide)) _ _)
    (by rw [report_chan])
  up {t} h := by
    rcases stageUp_cases ch t with same | ⟨c, dark, staged, alarm⟩
    · rwa [same]
    · have other : b ≠ c := by
        rintro rfl
        exact hs (h.bank ▸ dark)
      refine h.of_eq ?_ ?_ ?_
      · rw [staged.bank, State.stagedUp_bank_other other]
      · rw [alarm _ _ (by decide), setBankState_alarm_other other rfl]
      · rw [staged.chan, State.stagedUp_chan]
        simp [other]
  down {t c} hc h := h.of_eq (enterQuenching_bank_other hc t) (enterQuenching_alarm_other hc rfl t)
    (mem_enterQuenching hc t ch)
  last {t c} h _ hc := fun e => h.off (e ▸ hc)

theorem review (h : s.aside t ch b) (hs : (s.bank b).state ≠ .dark) : s.aside (review ch t) ch b :=
  (keeps hs ch).review (fun _ hc e => h.off (e ▸ hc)) h

end State.aside

section Withdraw

variable {s u : State} {ch : ChanId} {b : BankId} {st : BankState} {f : Bank → Bank}

/-- The stage-up request and the review after a bank has left service (05, R90, R95, R97). -/
def settleLoss (b : BankId) (was : Bool) (u : State) : State :=
  reviewOwner b (if was then requestForBank b u else u)

theorem settleLoss_stages (owner : (u.bank b).owner = some ch) (was : Bool) : u.stages ch (settleLoss b was u) := by
  have asked : u.stages ch (if was then requestForBank b u else u) := by
    split
    · rw [requestForBank, owner]
      exact requestStageUp_stages ch
    · exact .refl
  rw [settleLoss, reviewOwner, asked.moves.owner, owner]
  exact asked.review

theorem settleLoss_free (owner : (u.bank b).owner = none) (was : Bool) : settleLoss b was u = u := by
  have asked : (if was then requestForBank b u else u) = u := by
    rw [requestForBank, owner]
    exact ite_self u
  rw [settleLoss, asked, reviewOwner, owner]

theorem settleLoss_moves (b : BankId) (was : Bool) (u : State) : u.moves (settleLoss b was u) := by
  cases owner : (u.bank b).owner with
  | none =>
    rw [settleLoss_free owner]
    exact .refl
  | some ch => exact (settleLoss_stages owner was).moves

theorem settleLoss_sparesLamps (b : BankId) (was : Bool) (u : State) : u.sparesLamps (settleLoss b was u) := by
  cases owner : (u.bank b).owner with
  | none =>
    rw [settleLoss_free owner]
    exact .refl u
  | some ch => exact (State.sparesLamps.refl u).stages (settleLoss_stages owner was)

/-- What follows its leaving leaves the bank alone. -/
theorem settleLoss_aside (owner : (u.bank b).owner = some ch) (hs : (u.bank b).state ≠ .dark)
    (off : b ∉ (u.chan ch).startList) (was : Bool) : u.aside (settleLoss b was u) ch b := by
  have base : u.aside u ch b := ⟨rfl, rfl, off⟩
  have asked : u.aside (if was then requestForBank b u else u) ch b := by
    split
    · rw [requestForBank, owner]
      unfold requestStageUp
      dsimp only
      split
      · refine State.aside.review (base.of_eq rfl rfl ?_) hs
        rw [State.modChan_chan_self]
      · exact base
    · exact base
  rw [settleLoss, reviewOwner, asked.bank, owner]
  exact asked.review hs

/-- What a bank makes of itself as it leaves service: its state, what it gives up, its lamps' flags and its place in the
list (05, R95, R97). -/
def withdraw (b : BankId) (st : BankState) (f : Bank → Bank) (s : State) : State :=
  unlist b (wantAll false b ((setBankState b st s).modBank b f))

theorem enterLocked_eq (b : BankId) (s : State) : enterLocked b s = withdraw b .locked (fun x =>
    { x.abandon.stopWiper with warmTimer := none, faultTimer := none, wipeInterval := none }) s := rfl

/-- What a bank gives up as it becomes FAULTED (05, R95, R96; 06, R105). -/
def Bank.faulting (x : Bank) : Bank := { x.abandon with warmTimer := none }

theorem enterFaulted_eq (b : BankId) (s : State) : enterFaulted b s =
    (withdraw b .faulted Bank.faulting s).modBank b fun x => { x with faultTimer := some (s.now + 1000 * x.get .faultRest) } := rfl

theorem setBankState_bank_self (b : BankId) (st : BankState) (s : State) :
    (setBankState b st s).bank b = (s.bank b).entered st := by
  rw [(setBankState_alarmUnitOnly b st s).bank, State.modBank_bank_self]

theorem wantAll_bank (w : Bool) (b c : BankId) (s : State) : (wantAll w b s).bank c = s.bank c := by
  obtain ⟨_, _, e⟩ := (wantAll_acted w b s).1
  rw [e]
  rfl

theorem wantAll_chan (w : Bool) (b : BankId) (s : State) (c : ChanId) : (wantAll w b s).chan c = s.chan c := by
  obtain ⟨_, _, e⟩ := (wantAll_acted w b s).1
  rw [e]
  rfl

theorem wantAll_alarm (w : Bool) (b : BankId) (s : State) (k : AlarmKind) (i : Nat) :
    (wantAll w b s).alarm k i = s.alarm k i := by
  obtain ⟨_, _, e⟩ := (wantAll_acted w b s).1
  rw [e]
  rfl

theorem Bank.entered_record (st : BankState) (x : Bank) : (x.entered st).record = x.record := by
  unfold Bank.entered
  split
  · rfl
  · simp [Bank.record]

theorem Bank.entered_owner (st : BankState) (x : Bank) : (x.entered st).owner = x.owner :=
  congrArg Bank.Record.owner (Bank.entered_record st x)

theorem withdraw_bank (b : BankId) (st : BankState) (f : Bank → Bank) (s : State) :
    (withdraw b st f s).bank b = f ((s.bank b).entered st) := by
  rw [withdraw, unlist_bank, wantAll_bank, State.modBank_bank_self, setBankState_bank_self]

theorem withdraw_bank_other {c : BankId} (hc : c ≠ b) : (withdraw b st f s).bank c = s.bank c := by
  rw [withdraw, unlist_bank, wantAll_bank, State.modBank_bank, if_neg hc, (setBankState_alarmUnitOnly b st s).bank,
    State.modBank_bank, if_neg hc]

theorem withdraw_bankFault (enters : (s.bank b).state ≠ st) :
    ((withdraw b st f s).alarm .bankFault b.1).cause = (s.bankWatched b && st = .faulted) := by
  obtain ⟨u, hu, eq⟩ := setBankState_judged enters
  have watched : u.bankWatched b = s.bankWatched b := by
    have unit := judgeBank_alarmUnitOnly b u
    have moves : s.moves (judgeBank b u) := eq ▸ State.moves.refl.setBankState b st
    simp only [State.bankWatched, ← unit.bank, ← unit.chan, moves.owner, moves.keeps Channel.mode]
  have kept : (withdraw b st f s).alarm .bankFault b.1 = (setBankState b st s).alarm .bankFault b.1 := by
    rw [withdraw, unlist_alarm, wantAll_alarm]
    rfl
  rw [kept, eq, judgeBank_bankFault, hu, watched]

section Withdrawn

variable (hf : ∀ x, (f x).record = x.record)

include hf

theorem withdraw_moves (b : BankId) (st : BankState) (s : State) : s.moves (withdraw b st f s) :=
  (((State.moves.refl.setBankState b st).bank b (hf _)).wantAll false b).unlist b

theorem withdraw_off (owner : (s.bank b).owner = some ch) : b ∉ ((withdraw b st f s).chan ch).startList := by
  have own : ((wantAll false b ((setBankState b st s).modBank b f)).bank b).owner = some ch := by
    rw [wantAll_bank, State.modBank_bank_self, setBankState_bank_self, ← owner]
    exact congrArg Bank.Record.owner ((hf _).trans (Bank.entered_record st (s.bank b)))
  rw [withdraw, unlist_owned own, State.modChan_chan_self]
  simp

theorem withdraw_actedBy (b : BankId) (st : BankState) (s : State) :
    s.actedBy (withdraw b st f s) fun k x => if k ∈ s.installed b then s.flagged false x else x := by
  have entered : s.sparesLamps ((setBankState b st s).modBank b f) := ((State.sparesLamps.refl s).setBankState b st).bank b f
  have moves : s.moves ((setBankState b st s).modBank b f) := (State.moves.refl.setBankState b st).bank b (hf _)
  have turned := (wantAll_acted false b ((setBankState b st s).modBank b f)).2.after entered.lamps entered.slots
  refine (turned.still ((State.sparesLamps.refl _).unlist b).lamps ((State.sparesLamps.refl _).unlist b).slots).congr
    fun k x hx => ?_
  have here : ((setBankState b st s).modBank b f).lamp k = some x := by
    rw [State.lamp, entered.lamps]
    exact hx
  simp only [mem_installed_iff here, mem_installed_iff hx, moves.ground.flagged]

end Withdrawn

end Withdraw

end Sys2Proof.Machine

namespace Sys2Proof.Machine
open Sys2Proof

set_option Elab.async false

/-! ### The end of an event in which a bank left service (05, R95 to R97; 07, R118) -/

section Left

variable {s u v : State} {b : BankId} {w : Bool} {φ : LampId → Lamp → Lamp}

/-- The lamps installed in a bank after their flags became `w`, and the others. -/
theorem State.actedBy.flags (h : s.actedBy v fun k x => if k ∈ s.installed b then s.flagged w x else x)
    (rest : s.atRest) (moves : s.moves v) {l : LampId} {x : Lamp} (hx : s.lamp l = some x) :
    (x.bank ≠ b → (endEvent v).lamp l = some x) ∧
      (x.bank = b → ∃ y, (endEvent v).lamp l = some y ∧ s.flagBecame (endEvent v) w x y) := by
  have quiet : ∀ k, lampPos k ∉ s.slotsMade := fun k => by rw [rest.2]; exact List.not_mem_nil
  have sound := (State.notesSound.atRest rest).moves moves
  refine ⟨fun other => ?_, fun here => ?_⟩
  · exact h.stays quiet sound moves.ground hx (if_neg (mt (mem_installed_iff hx b).mp other)) rfl
  · exact h.flag quiet sound moves.ground hx (if_pos ((mem_installed_iff hx b).mpr here))

/-- Between `s` and `t` a bank left service for good: staging has not touched it since (05, R91, R92). -/
structure State.Left (s u t : State) (b : BankId) : Prop where
  base  : s.sameBase t
  bank  : t.bank b = u.bank b
  fault : (t.alarm .bankFault b.1).cause = (u.alarm .bankFault b.1).cause
  off   : ∀ ch, (s.bank b).owner = some ch → b ∉ (t.chan ch).startList

theorem State.actedBy.settled (h : s.actedBy u φ) (rest : s.atRest) (moves : s.moves u) (hs : (u.bank b).state ≠ .dark)
    (off : ∀ ch, (s.bank b).owner = some ch → b ∉ (u.chan ch).startList) (was : Bool) :
    s.Left u (endEvent (settleLoss b was u)) b := by
  have whole := moves.trans (settleLoss_moves b was u)
  have sound := (State.notesSound.atRest rest).moves whole
  have spared := settleLoss_sparesLamps b was u
  have bank := (h.still spared.lamps spared.slots).bank rest.2 sound b
  cases owner : (s.bank b).owner with
  | none =>
    have same := settleLoss_free (moves.owner b ▸ owner) was
    refine ⟨whole.sameBase rest, bank.trans (by rw [same]), ?_, fun ch e => absurd (owner.symm.trans e) (by simp)⟩
    rw [endEvent_alarm, same]
  | some ch =>
    have aside := settleLoss_aside (moves.owner b ▸ owner) hs (off ch owner) was
    refine ⟨whole.sameBase rest, bank.trans aside.bank, ?_, fun d e => ?_⟩
    · rw [endEvent_alarm, aside.fault]
    · obtain rfl := Option.some.inj (owner.symm.trans e)
      rw [(endEvent_ends sound).chan]
      exact aside.off

/-! #### LOCKED (05, R97) -/

/-- A bank as it is LOCKED (05, R97; 06, R105, R111, R113). -/
def Bank.lockedUp (x : Bank) : Bank :=
  { x with
    state := .locked
    running := none
    stepTimer := none
    wipeDue := false
    wiperSlot := none
    supervision := .idle
    wipeLimit := none
    warmTimer := none
    faultTimer := none
    wipeInterval := none
    tracker := (x.entered .locked).tracker.clearBlank }

/-- The tracker of a bank that leaves its state for one out of service (03, R44, R54). -/
theorem Bank.entered_left {st : BankState} (x : Bank) (enters : x.state ≠ st) (out : st.warmOrRun = false) :
    Tracker.left x.tracker (x.entered st).tracker.clearBlank x.state := by
  have notRun : st ≠ .run := by
    rintro rfl
    cases out
  have notWarming : st ≠ .warming := by
    rintro rfl
    cases out
  unfold Bank.entered
  rw [if_neg enters]
  cases h : x.state <;> cases hb : x.tracker.blank <;>
    simp [Tracker.left, Tracker.onState, BankState.warmOrRun, Tracker.clearBlank_eq, hb, notRun, notWarming]

theorem enterLocked_bank (enters : (s.bank b).state ≠ .locked) : (enterLocked b s).bank b = (s.bank b).lockedUp := by
  rw [enterLocked_eq, withdraw_bank, Bank.entered, if_neg enters, Bank.lockedUp, Bank.entered, if_neg enters]
  rfl

theorem lockBank_eq (enters : (s.bank b).state ≠ .locked) :
    lockBank b s = settleLoss b (s.listed b) (enterLocked b s) := if_neg enters

/-! #### FAULTED (05, R95, R96) -/

/-- A bank as it becomes FAULTED at `now` (05, R95, R96; 06, R105). -/
def Bank.faultedAt (now : Nat) (x : Bank) : Bank :=
  { x.entered .faulted with
    running := none
    stepTimer := none
    wipeDue := false
    warmTimer := none
    faultTimer := some (now + 1000 * x.get .faultRest)
    tracker := (x.entered .faulted).tracker.clearBlank }

theorem enterFaulted_bank (b : BankId) (s : State) : (enterFaulted b s).bank b = (s.bank b).faultedAt s.now := by
  have rest : ((s.bank b).entered .faulted).get .faultRest = (s.bank b).get .faultRest :=
    congrArg (fun r : Bank.Record => r.settings.get BankSetting.faultRest.idx) (Bank.entered_record .faulted (s.bank b))
  rw [enterFaulted_eq, State.modBank_bank_self, withdraw_bank, Bank.faultedAt, ← rest]
  rfl

theorem faultBank_eq (b : BankId) (s : State) : faultBank b s = settleLoss b (s.listed b) (enterFaulted b s) := rfl

theorem Bank.faulting_record (x : Bank) : x.faulting.record = x.record := by
  simp [Bank.record, Bank.faulting, Bank.abandon]

theorem enterFaulted_moves (b : BankId) (s : State) : s.moves (enterFaulted b s) := State.moves.refl.enterFaulted b

theorem enterFaulted_actedBy (b : BankId) (s : State) :
    s.actedBy (enterFaulted b s) fun k x => if k ∈ s.installed b then s.flagged false x else x := by
  have acted := withdraw_actedBy Bank.faulting_record b .faulted s
  have spared := (State.sparesLamps.refl (withdraw b .faulted Bank.faulting s)).bank b fun x =>
    { x with faultTimer := some (s.now + 1000 * x.get .faultRest) }
  rw [enterFaulted_eq]
  exact acted.still spared.lamps spared.slots

theorem enterFaulted_off {ch : ChanId} (owner : (s.bank b).owner = some ch) :
    b ∉ ((enterFaulted b s).chan ch).startList := by
  have off := withdraw_off (st := .faulted) Bank.faulting_record owner
  rwa [enterFaulted_eq, State.modBank_chan]

theorem enterFaulted_fault (enters : (s.bank b).state ≠ .faulted) :
    ((enterFaulted b s).alarm .bankFault b.1).cause = s.bankWatched b := by
  have watched := withdraw_bankFault (f := Bank.faulting) enters
  rwa [decide_eq_true rfl, Bool.and_true, ← State.modBank_alarm, ← enterFaulted_eq] at watched

theorem State.bankWatched_iff (s : State) (b : BankId) :
    s.bankWatched b = true ↔ ∃ ch, (s.bank b).owner = some ch ∧ (s.chan ch).mode ≠ .unarmed := by
  unfold State.bankWatched
  cases (s.bank b).owner <;> simp

/-! #### Back in service (05, R96, R97) -/

/-- A bank as a stage-down leaves it (05, R92, R97). -/
theorem enterQuenching_bank (b : BankId) (s : State) : (enterQuenching b s).bank b =
    { ((s.bank b).entered .quenching).abandon with
      warmTimer := none
      running := some .quench
      stepIdx := 0
      stepTimer := some (s.now + 10 * 2 ^ (((s.bank b).quench.get 0).k)) } := by
  have program : ((s.bank b).entered .quenching).quench = (s.bank b).quench :=
    congrArg Bank.Record.quench (Bank.entered_record .quenching (s.bank b))
  have now : (unlist b ((setBankState b .quenching s).modBank b fun x => { x.abandon with warmTimer := none })).now =
      s.now := by
    have moves : s.moves (unlist b ((setBankState b .quenching s).modBank b fun x =>
        { x.abandon with warmTimer := none })) :=
      ((State.moves.refl.setBankState b .quenching).bank b (by simp [Bank.record, Bank.abandon])).unlist b
    exact moves.ground.now
  rw [enterQuenching_eq, startProgram_eq, State.modBank_bank_self, unlist_bank, State.modBank_bank_self,
    setBankState_bank_self, now, ← program]
  rfl

/-- What every stage-up and every stage-down of one bank keeps of it, staging keeps (05, R91, R92). -/
theorem bank_keeps {P : Bank → Prop} (b : BankId) (ch : ChanId) (up : ∀ x now, P x → P (x.struck now))
    (down : ∀ s : State, P (s.bank b) → P ((enterQuenching b s).bank b)) :
    StagingKeeps (fun t => P (t.bank b)) (fun _ => True) ch where
  counts _ h := h
  exhausted holds h := by rwa [report_bank]
  up {t} h := by
    rcases stageUp_cases ch t with same | ⟨c, _, staged, _⟩
    · rwa [same]
    · rw [staged.bank]
      by_cases e : b = c
      · subst e
        rw [State.stagedUp_bank]
        exact up _ _ h
      · rwa [State.stagedUp_bank_other e]
  down {t c} _ h := by
    by_cases e : b = c
    · subst e
      exact down t h
    · rwa [enterQuenching_bank_other e]
  last _ _ _ := trivial

/-- No stage action starts a fault rest (05, R91, R92). -/
theorem faultTimer_keeps (b : BankId) (ch : ChanId) :
    StagingKeeps (fun t => (t.bank b).faultTimer = none) (fun _ => True) ch := by
  refine bank_keeps (P := fun x => x.faultTimer = none) b ch (fun _ _ h => h) fun s h => ?_
  rw [enterQuenching_bank, Bank.entered]
  split <;> exact h

/-- Between `s` and `t` a bank came back into service: DARK, or STRIKING by the review (05, R88, R91, R96, R97). -/
structure State.CameBack (s t : State) (b : BankId) : Prop where
  base  : s.sameBase t
  lamps : t.lamps = s.lamps
  state : (t.bank b).state = .dark ∨ (t.bank b).state = .striking
  timer : (t.bank b).faultTimer = none
  fault : (t.alarm .bankFault b.1).cause = false

theorem enterDark_bank (b : BankId) (s : State) :
    (enterDark b s).bank b = { (s.bank b).entered .dark with faultTimer := none } := by
  rw [enterDark, State.modBank_bank_self, setBankState_bank_self]

theorem Bank.entered_state (st : BankState) (x : Bank) : (x.entered st).state = st := by
  unfold Bank.entered
  split
  · assumption
  · rfl

theorem enterDark_off (off : ∀ c, b ∉ (s.chan c).startList) (c : ChanId) : b ∉ ((enterDark b s).chan c).startList := by
  rw [enterDark, State.modBank_chan, (setBankState_alarmUnitOnly b .dark s).chan, State.modBank_chan]
  exact off c

theorem enterDark_rested (lit : (s.bank b).state ≠ .dark) (off : ∀ c, b ∉ (s.chan c).startList) (c : ChanId) :
    (enterDark b s).Rested c b := by
  refine ⟨.inl ⟨?_, ?_⟩, setBankState_bankFault lit (by decide)⟩
  · rw [enterDark_bank]
    exact Bank.entered_state _ _
  · exact enterDark_off off c

/-- A bank on no list that enters DARK is rested after the review (05, R88). -/
theorem darkBank_rests (lit : (s.bank b).state ≠ .dark) (off : ∀ c, b ∉ (s.chan c).startList) :
    ∃ ch, (darkBank b s).Rested ch b := by
  unfold darkBank reviewOwner
  split
  · next ch _ =>
    exact ⟨ch, (State.Rested.keeps ch b).review (fun c hc e => enterDark_off off ch (e ▸ hc))
      (enterDark_rested lit off ch)⟩
  · exact ⟨0, enterDark_rested lit off 0⟩

theorem endEvent_darkBank (moves : s.moves u) (rest : s.atRest) (spared : s.sparesLamps u)
    (lit : (u.bank b).state ≠ .dark) (off : ∀ c, b ∉ (u.chan c).startList) : s.CameBack (endEvent (darkBank b u)) b := by
  have whole : s.moves (darkBank b u) := moves.darkBank b
  have sound := (State.notesSound.atRest rest).moves whole
  obtain ⟨lamps, banks⟩ := (spared.darkBank b).endEvent rest.2 sound
  have noTimer : ((enterDark b u).bank b).faultTimer = none := by rw [enterDark_bank]
  obtain ⟨ch, rested⟩ := darkBank_rests lit off
  have timer : ((darkBank b u).bank b).faultTimer = none := by
    unfold darkBank reviewOwner
    split
    · next ch _ => exact (faultTimer_keeps b ch).review (fun _ _ => trivial) noTimer
    · exact noTimer
  refine ⟨whole.sameBase rest, lamps, ?_, ?_, ?_⟩
  · rw [banks]
    exact rested.place.imp And.left And.left
  · rw [banks, timer]
  · rw [endEvent_alarm, rested.fault]

theorem State.listsSound.off (h : s.listsSound) (striking : (s.bank b).state ≠ .striking)
    (warming : (s.bank b).state ≠ .warming) (run : (s.bank b).state ≠ .run) (c : ChanId) : b ∉ (s.chan c).startList := by
  intro on
  rcases (((h c).2 b).mp on).2 with e | e | e
  · exact striking e
  · exact warming e
  · exact run e

/-- A bank of no channel, or of one UNARMED, is not reviewed as it becomes DARK (05, R88). -/
theorem darkBank_idle (idle : (s.bank b).owner = none ∨ ∃ ch, (s.bank b).owner = some ch ∧ (s.chan ch).mode = .unarmed) :
    darkBank b s = enterDark b s := by
  have moves : s.moves (enterDark b s) := State.moves.refl.enterDark b
  unfold darkBank reviewOwner
  rw [moves.owner]
  rcases idle with none | ⟨ch, owner, unarmed⟩
  · rw [none]
  · rw [owner]
    dsimp only
    unfold review
    rw [moves.keeps Channel.mode, unarmed]
    exact ite_self _

end Left

end Sys2Proof.Machine

namespace Sys2Proof.Machine
open Sys2Proof

set_option Elab.async false

/-! ### LOCK, UNLOCK, the warm limit and the fault rest (05, R95 to R97) -/

section Service

variable {s : State} {b : BankId} {d : Nat} {r : Sender}

theorem exec_lock (r : Sender) (b : BankId) (hs : s.ready) : exec (.bankActionLock r (BitVec.ofNat 8 b.1)) s =
    .next ((endEvent (lockBank b s)).withReply r 0x07 [0]) := by
  have moves : s.moves (lockBank b s) := State.moves.refl.lockBank b
  have row := requestRow_event r (.bankAction (BitVec.ofNat 8 b.1) lockByte) (handleLock (BitVec.ofNat 8 b.1)) hs
    (forBank_ofNat b _ s) moves.event.address
  exact congrArg Host.Outcome.next row

theorem exec_unlock (r : Sender) (b : BankId) (hs : s.ready) : exec (.bankActionUnlock r (BitVec.ofNat 8 b.1)) s =
    .next ((endEvent (unlockBank b s)).withReply r 0x07 [0]) := by
  have moves : s.moves (unlockBank b s) := State.moves.refl.unlockBank b
  have row := requestRow_event r (.bankAction (BitVec.ofNat 8 b.1) unlockByte) (handleUnlock (BitVec.ofNat 8 b.1)) hs
    (forBank_ofNat b _ s) moves.event.address
  exact congrArg Host.Outcome.next row

/-! #### LOCK -/

theorem lockedRecord (x : Bank) : ({ x.abandon.stopWiper with
    warmTimer := none, faultTimer := none, wipeInterval := none } : Bank).record = x.record := by
  simp [Bank.record, Bank.abandon, Bank.stopWiper]

theorem enterLocked_left (rest : s.atRest) (enters : (s.bank b).state ≠ .locked) :
    s.Left (enterLocked b s) (endEvent (lockBank b s)) b := by
  have acted : s.actedBy (enterLocked b s) fun k x => if k ∈ s.installed b then s.flagged false x else x :=
    withdraw_actedBy lockedRecord b .locked s
  have moves : s.moves (enterLocked b s) := withdraw_moves lockedRecord b .locked s
  have state : ((enterLocked b s).bank b).state ≠ .dark := by
    rw [enterLocked_bank enters]
    exact fun e => BankState.noConfusion e
  rw [lockBank_eq enters]
  exact acted.settled rest moves state (fun ch owner => withdraw_off lockedRecord owner) _

theorem enterLocked_fault (enters : (s.bank b).state ≠ .locked) : ((enterLocked b s).alarm .bankFault b.1).cause = false := by
  rw [enterLocked_eq, withdraw_bankFault enters, decide_eq_false (by decide), Bool.and_false]

theorem lockBank_actedBy (enters : (s.bank b).state ≠ .locked) :
    s.actedBy (lockBank b s) fun k x => if k ∈ s.installed b then s.flagged false x else x := by
  have spared := settleLoss_sparesLamps b (s.listed b) (enterLocked b s)
  rw [lockBank_eq enters]
  exact (withdraw_actedBy lockedRecord b .locked s).still spared.lamps spared.slots

/-! #### The warm limit -/

/-- A bank left with its warm limit stopped, before its transition. -/
def warmStopped (b : BankId) (s : State) : State := s.modBank b fun x => { x with warmTimer := none }

theorem warmStopped_bank (b : BankId) (s : State) : (warmStopped b s).bank b = { s.bank b with warmTimer := none } :=
  State.modBank_bank_self _ _ _

theorem warmStopped_moves (b : BankId) (s : State) : s.moves (warmStopped b s) := State.moves.refl.bank b

theorem warmStopped_owner (b c : BankId) (s : State) : ((warmStopped b s).bank c).owner = (s.bank c).owner :=
  (warmStopped_moves b s).owner c

theorem warmLimitEnds_due (due : s.due (s.bank b).warmTimer = true) (warming : (s.bank b).state = .warming) :
    warmLimitEnds b s =
      if s.bankDormant b then warmStopped b s
      else if (s.bank b).get .minLampsLit ≤ s.litCount b then runBank b (warmStopped b s)
      else faultBank b (warmStopped b s) := by
  have dormant : (warmStopped b s).bankDormant b = s.bankDormant b := by
    rw [State.bankDormant, warmStopped_owner]
    rfl
  rw [warmLimitEnds, if_pos ⟨due, warming⟩, ← dormant]
  dsimp only
  rw [show s.modBank b (fun x => { x with warmTimer := none }) = warmStopped b s from rfl, warmStopped_bank]
  rfl

theorem State.bankDormant_iff (s : State) (b : BankId) :
    s.bankDormant b = true ↔ ∃ ch, (s.bank b).owner = some ch ∧ (s.chan ch).dormant = true := by
  unfold State.bankDormant
  cases (s.bank b).owner <;> simp

/-- Between `s` and `t` a WARMING bank ran out of time with too few lamps (05, R95). -/
structure State.RanShort (s t : State) (b : BankId) : Prop where
  left  : s.Left (enterFaulted b (warmStopped b s)) t b
  lamps : ∀ l x, s.lamp l = some x →
    (x.bank ≠ b → t.lamp l = some x) ∧ (x.bank = b → ∃ y, t.lamp l = some y ∧ s.flagBecame t false x y)

theorem endEvent_ranShort (rest : s.atRest) :
    s.RanShort (endEvent (faultBank b (warmStopped b s))) b := by
  have moves := (warmStopped_moves b s).trans (enterFaulted_moves b _)
  have acted : s.actedBy (enterFaulted b (warmStopped b s)) fun k x =>
      if k ∈ s.installed b then s.flagged false x else x :=
    (State.actedBy.after (s := s) (enterFaulted_actedBy b (warmStopped b s)) rfl rfl).congr fun k x hx => by
      rw [(warmStopped_moves b s).ground.flagged]
      rfl
  have state : ((enterFaulted b (warmStopped b s)).bank b).state ≠ .dark := by
    rw [enterFaulted_bank]
    exact fun e => BankState.noConfusion ((Bank.entered_state .faulted _).symm.trans e)
  have spared := settleLoss_sparesLamps b ((warmStopped b s).listed b) (enterFaulted b (warmStopped b s))
  refine ⟨?_, fun l x hx => ?_⟩
  · exact acted.settled rest moves state (fun ch owner => enterFaulted_off (warmStopped_owner b b s ▸ owner)) _
  · exact (acted.still spared.lamps spared.slots).flags rest (moves.trans (settleLoss_moves b _ _)) hx

/-! #### The fault rest -/

/-- A FAULTED bank whose rest is over. -/
def restOver (b : BankId) (s : State) : State := s.modBank b fun x => { x with faultTimer := none }

theorem restOver_bank (b : BankId) (s : State) : (restOver b s).bank b = { s.bank b with faultTimer := none } :=
  State.modBank_bank_self _ _ _

theorem faultRestEnds_due (due : s.due (s.bank b).faultTimer = true) (faulted : (s.bank b).state = .faulted) :
    faultRestEnds b s =
      if (s.bank b).get .minLampsLit ≤ s.nonDead b then darkBank b (restOver b s) else restOver b s := by
  rw [faultRestEnds, if_pos due, recheckFaulted, show s.modBank b (fun x => { x with faultTimer := none }) =
    restOver b s from rfl, restOver_bank]
  exact if_congr ⟨fun h => h.2.2, fun h => ⟨faulted, rfl, h⟩⟩ rfl rfl

end Service

/-- Settles O50: a bank that leaves service gives up its program, its lamps' flags and its place in the list, and no
review touches it again; one that comes back is DARK, or taken by the review. -/
theorem bankLeavesServiceAndReturns : Obligations.BankLeavesServiceAndReturns := by
  refine ⟨fun r b s hs => ⟨fun locked => ?_, fun free => ?_, fun free => ?_, fun sound locked => ?_⟩,
    fun b d s rest sound hd => ⟨fun warm warming governed => ?_, fun warm warming dormant => ?_,
      fun fault faulted few => ?_, fun fault faulted enough => ?_⟩⟩
  · rw [exec_lock r b hs, lockBank, if_pos locked, endEvent_atRest hs.2.2.2]
  · rw [exec_unlock r b hs, unlockBank, if_neg free, endEvent_atRest hs.2.2.2]
  · have left := enterLocked_left hs.2.2.2 free
    have bank := left.bank.trans (enterLocked_bank free)
    refine ⟨_, exec_lock r b hs, left.base, ?_, ?_, left.off, ?_, fun l x hx => ?_⟩
    · rw [bank]
      rfl
    · rw [bank]
      exact Bank.entered_left _ free rfl
    · rw [left.fault, enterLocked_fault free]
    · exact (lockBank_actedBy free).flags hs.2.2.2 (State.moves.refl.lockBank b) hx
  · have unlocked : unlockBank b s = darkBank b s := if_pos locked
    have off := sound.off (b := b) (by rw [locked]; decide) (by rw [locked]; decide) (by rw [locked]; decide)
    have back := endEvent_darkBank (b := b) .refl hs.2.2.2 (.refl s) (by rw [locked]; decide) off
    refine ⟨_, exec_unlock r b hs, ?_⟩
    rw [unlocked]
    refine ⟨back.base, back.lamps, back.state, fun idle => ?_⟩
    have spared := (State.sparesLamps.refl s).enterDark b
    have noted := (State.notesSound.atRest hs.2.2.2).moves (State.moves.refl.enterDark b)
    rw [darkBank_idle idle, (spared.endEvent hs.2.2.2.2 noted).2, enterDark_bank, Bank.entered,
      if_neg (by rw [locked]; decide), locked]
    simp [Tracker.onState, BankState.warmOrRun]
  · have due : s.due (s.bank b).warmTimer = true := (s.due_iff _).mpr ⟨d, warm, hd⟩
    have row : exec (.warmLimitExpiry b) s = .next (endEvent (warmLimitEnds b s)) := rfl
    have awake : ¬ s.bankDormant b = true := by
      rw [s.bankDormant_iff]
      rintro ⟨ch, owner, dormant⟩
      rw [governed ch owner] at dormant
      cases dormant
    refine ⟨_, row, ?_⟩
    rw [warmLimitEnds_due due warming, if_neg awake]
    have state : ((warmStopped b s).bank b).state = .warming := by rw [warmStopped_bank, warming]
    by_cases lit : (s.bank b).get .minLampsLit ≤ s.litCount b
    · have moves : s.moves (runBank b (warmStopped b s)) := (warmStopped_moves b s).runBank b
      have sound := (State.notesSound.atRest rest).moves moves
      have spared : s.sparesLamps (warmStopped b s) := ⟨rfl, rfl⟩
      obtain ⟨lamps, banks⟩ := (spared.runBank b).endEvent rest.2 sound
      obtain ⟨runs, stopped, _⟩ := runBank_bank state
      rw [if_pos lit, banks]
      exact ⟨moves.sameBase rest, fun _ => ⟨runs, stopped, lamps⟩, fun short => absurd lit (Nat.not_le.mpr short)⟩
    · obtain ⟨left, lamps⟩ := endEvent_ranShort (b := b) rest
      have bank := left.bank
      rw [enterFaulted_bank, warmStopped_bank] at bank
      rw [if_neg lit]
      refine ⟨left.base, fun enough => absurd enough lit, fun _ => ⟨?_, ?_, ?_, ?_, ?_, left.off, ?_, lamps⟩⟩
      · rw [bank]
        exact Bank.entered_state _ _
      · rw [bank]
        rfl
      · rw [bank]
        rfl
      · rw [bank]
        rfl
      · have kept := Bank.entered_left (st := .faulted) { s.bank b with warmTimer := none }
          (by rw [show ({ s.bank b with warmTimer := none } : Bank).state = (s.bank b).state from rfl, warming]; decide) rfl
        rw [bank, ← warming]
        exact kept
      · rw [left.fault, enterFaulted_fault (by rw [state]; decide), State.bankWatched_iff, warmStopped_owner]
        rfl
  · have due : s.due (s.bank b).warmTimer = true := (s.due_iff _).mpr ⟨d, warm, hd⟩
    have row : exec (.warmLimitExpiry b) s = .next (endEvent (warmLimitEnds b s)) := rfl
    rw [row, warmLimitEnds_due due warming, if_pos ((s.bankDormant_iff b).mpr dormant)]
    exact congrArg Host.Outcome.next (endEvent_atRest (rest.of_eq rfl rfl))
  · have due : s.due (s.bank b).faultTimer = true := (s.due_iff _).mpr ⟨d, fault, hd⟩
    have row : exec (.faultRestExpiry b) s = .next (endEvent (faultRestEnds b s)) := rfl
    rw [row, faultRestEnds_due due faulted, if_neg (Nat.not_le.mpr few)]
    exact congrArg Host.Outcome.next (endEvent_atRest (rest.of_eq rfl rfl))
  · have due : s.due (s.bank b).faultTimer = true := (s.due_iff _).mpr ⟨d, fault, hd⟩
    have row : exec (.faultRestExpiry b) s = .next (endEvent (faultRestEnds b s)) := rfl
    have off := sound.off (b := b) (by rw [faulted]; decide) (by rw [faulted]; decide) (by rw [faulted]; decide)
    have rested : s.moves (restOver b s) := State.moves.refl.bank b
    have back := endEvent_darkBank (b := b) rested rest ⟨rfl, rfl⟩ (by rw [restOver_bank, faulted]; decide) off
    refine ⟨_, row, ?_⟩
    rw [faultRestEnds_due due faulted, if_pos enough]
    exact ⟨back.base, back.lamps, back.state, back.timer, back.fault⟩

end Sys2Proof.Machine

namespace Sys2Proof.Machine
open Sys2Proof

set_option Elab.async false

/-! ### Counting the lamps of a bank (05, R85, R95) -/

section Counts

variable {s t : State} {b : BankId} {q p : Lamp → Bool} {l : LampId} {x y : Lamp}

/-- An entry counts among the lamps of a bank. -/
def countsIn (b : BankId) (q : Lamp → Bool) (o : Option Lamp) : Bool :=
  match o with
  | some x => x.bank = b && q x
  | none => false

theorem State.countLamps_eq (s : State) (b : BankId) (q : Lamp → Bool) :
    s.countLamps b q = (List.finRange 64).countP fun l => countsIn b q (s.lamp l) := by
  unfold State.countLamps State.installed
  rw [List.countP_filter]
  refine List.countP_congr fun l _ => ?_
  unfold countsIn
  cases s.lamp l <;> simp [and_comm]

theorem State.countLamps_congr (same : ∀ k, countsIn b q (t.lamp k) = countsIn b p (s.lamp k)) :
    t.countLamps b q = s.countLamps b p := by
  rw [State.countLamps_eq, State.countLamps_eq]
  exact congrArg (fun f => (List.finRange 64).countP f) (funext same)

/-- The count with one lamp apart. -/
theorem State.countLamps_apart (s : State) (b : BankId) (q : Lamp → Bool) (l : LampId) : s.countLamps b q =
    ((List.finRange 64).erase l).countP (fun k => countsIn b q (s.lamp k)) +
      if countsIn b q (s.lamp l) then 1 else 0 := by
  rw [State.countLamps_eq, (List.perm_cons_erase (List.mem_finRange l)).countP_eq, List.countP_cons]

theorem countP_others (same : ∀ k, k ≠ l → countsIn b q (t.lamp k) = countsIn b q (s.lamp k)) :
    ((List.finRange 64).erase l).countP (fun k => countsIn b q (t.lamp k)) =
      ((List.finRange 64).erase l).countP (fun k => countsIn b q (s.lamp k)) := by
  refine List.countP_congr fun k hk => ?_
  rw [same k ((List.Nodup.mem_erase_iff (List.nodup_finRange 64)).mp hk).1]

/-- One more lamp counts. -/
theorem State.countLamps_gains (same : ∀ k, k ≠ l → countsIn b q (t.lamp k) = countsIn b q (s.lamp k))
    (before : countsIn b q (s.lamp l) = false) (after : countsIn b q (t.lamp l) = true) :
    t.countLamps b q = s.countLamps b q + 1 := by
  rw [t.countLamps_apart b q l, s.countLamps_apart b q l, countP_others same, before, after]
  rfl

/-- One lamp less counts. -/
theorem State.countLamps_loses (same : ∀ k, k ≠ l → countsIn b q (t.lamp k) = countsIn b q (s.lamp k))
    (before : countsIn b q (s.lamp l) = true) (after : countsIn b q (t.lamp l) = false) :
    t.countLamps b q = s.countLamps b q - 1 := by
  rw [t.countLamps_apart b q l, s.countLamps_apart b q l, countP_others same, before, after]
  rfl

end Counts

/-! ### The adoption window ends (05, R86; 07, R118, R120, R128) -/

section WindowEnds

variable {s t u v : State} {ch : ChanId} {l : LampId} {x y : Lamp} {b : BankId}

/-- A lamp at the end of the window, confirmed (07, R120, R128). -/
def State.confirmed (s : State) (x : Lamp) : Lamp :=
  if x.unconfirmed then s.struck { x with unconfirmed := false } else x

theorem confirmAtEnd_eq (hx : s.lamp l = some x) : confirmAtEnd l s = s.lampActs l x (s.confirmed x) := by
  unfold confirmAtEnd State.confirmed
  rw [hx]
  dsimp only
  split
  · rw [modLamp_eq hx, strikePath_eq (State.setLamp_lamp_self _ _ _), setLamp_lampActs (x := x) (by rfl)]
    rfl
  · exact (lampActs_same hx).symm

theorem State.confirmed_full (s : State) (x : Lamp) (h : x.cmd ≠ none) : (s.confirmed x).cmd ≠ none := by
  unfold State.confirmed
  split
  · exact s.struck_full _ h
  · exact h

theorem State.struck_bank (s : State) (x : Lamp) : (s.struck x).bank = x.bank := by
  unfold State.struck
  split
  · split <;> rfl
  · rfl

theorem State.confirmed_bank (s : State) (x : Lamp) : (s.confirmed x).bank = x.bank := by
  unfold State.confirmed
  split
  · exact s.struck_bank _
  · rfl

/-- A lamp at the end of the window, out if its bank is on no list (05, R86). -/
def State.unlistedOut (s : State) (x : Lamp) : Lamp :=
  if x.state = .lit ∧ !s.listed x.bank then x.quenched else x

theorem putOutUnlisted_eq (hx : s.lamp l = some x) : putOutUnlisted l s = s.lampActs l x (s.unlistedOut x) := by
  unfold putOutUnlisted State.unlistedOut
  rw [hx]
  dsimp only
  split
  · exact putOutLit_eq hx
  · exact (lampActs_same hx).symm

theorem State.unlistedOut_full (s : State) (x : Lamp) (h : x.cmd ≠ none) : (s.unlistedOut x).cmd ≠ none := by
  unfold State.unlistedOut
  split
  · exact Option.some_ne_none _
  · exact h

theorem State.mem_channelLamps_iff (hx : s.lamp l = some x) (ch : ChanId) :
    l ∈ s.channelLamps ch ↔ (s.bank x.bank).owner = some ch := by
  rw [State.mem_channelLamps]
  refine ⟨fun ⟨y, hy, owner⟩ => ?_, fun owner => ⟨x, hx, owner⟩⟩
  rw [hx] at hy
  exact Option.some.inj hy ▸ owner

/-- Each lamp of a channel has its turn. -/
theorem channelLamps_acted {f : LampId → State → State} {g : Lamp → Lamp} (s : State) (ch : ChanId)
    (acts : ∀ k t x, s.lampsOnly t → t.lamp k = some x → f k t = t.lampActs k x (g x))
    (full : ∀ x, x.cmd ≠ none → (g x).cmd ≠ none) :
    s.lampsOnly (forEach (s.channelLamps ch) f s) ∧
      s.actedBy (forEach (s.channelLamps ch) f s) fun _ x => if (s.bank x.bank).owner = some ch then g x else x := by
  obtain ⟨only, acted⟩ := lampsActed_of (f := f) (g := g) (s.channelLamps_nodup ch)
    (fun k hk => (s.mem_channelLamps ch k).mp hk |>.imp fun _ => And.left) (fun k _ t x ht hx => acts k t x ht hx)
  refine ⟨only, (acted.actedBy full).congr fun k x hx => ?_⟩
  simp only [State.mem_channelLamps_iff hx]

/-- The window closed, its lamps confirmed, and those outside the list out. -/
def windowClosed (ch : ChanId) (s : State) : State := s.modChan ch fun c => { c with adoption := none }

def windowConfirmed (ch : ChanId) (u : State) : State := forEach (u.channelLamps ch) confirmAtEnd u

def windowSwept (ch : ChanId) (u : State) : State := forEach (u.channelLamps ch) putOutUnlisted u

theorem windowEnds_due (due : s.due (s.chan ch).adoption = true) : windowEnds ch s =
    review ch (forEach ((windowSwept ch (windowConfirmed ch (windowClosed ch s))).ownedBanks ch) runAtEnd
      (windowSwept ch (windowConfirmed ch (windowClosed ch s)))) := if_pos due

/-- A lamp of the channel after the window. -/
def State.afterWindow (s : State) (x : Lamp) : Lamp := s.unlistedOut (s.confirmed x)

theorem windowSwept_acted (ch : ChanId) (u : State) :
    u.lampsOnly (windowSwept ch (windowConfirmed ch u)) ∧
      u.actedBy (windowSwept ch (windowConfirmed ch u)) fun _ x =>
        if (u.bank x.bank).owner = some ch then u.afterWindow x else x := by
  obtain ⟨only, confirmed⟩ := channelLamps_acted (f := confirmAtEnd) (g := u.confirmed) u ch
    (fun k t x only hx => by
      rw [confirmAtEnd_eq hx]
      obtain ⟨_, _, rfl⟩ := only
      rfl) u.confirmed_full
  obtain ⟨only', swept⟩ := channelLamps_acted (f := putOutUnlisted) (g := u.unlistedOut) (windowConfirmed ch u) ch
    (fun k t x only' hx => by
      rw [putOutUnlisted_eq hx]
      obtain ⟨_, _, rfl⟩ := only.trans only'
      rfl) u.unlistedOut_full
  refine ⟨only.trans only', (confirmed.trans swept).congr fun k x hx => ?_⟩
  have owner : ∀ b, ((windowConfirmed ch u).bank b).owner = (u.bank b).owner := by
    obtain ⟨_, _, e⟩ := only
    intro b
    rw [windowConfirmed, e]
    rfl
  by_cases own : (u.bank x.bank).owner = some ch
  · simp only [if_pos own, u.confirmed_bank, owner]
    rfl
  · simp only [if_neg own, owner]

/-! #### The listed banks (05, R86) -/

theorem enterRun_bank_other {c : BankId} (h : b ≠ c) (s : State) : (enterRun c s).bank b = s.bank b := by
  rw [enterRun, startInterval, State.modBank_bank, if_neg h, State.modBank_bank, if_neg h, setBankState_bank h]

theorem enterRun_state (b : BankId) (s : State) : ((enterRun b s).bank b).state = .run := by
  rw [enterRun, startInterval, State.modBank_bank_self, State.modBank_bank_self, setBankState_bank_self]
  split <;> exact Bank.entered_state _ _

theorem runAtEnd_chan (b : BankId) (s : State) (c : ChanId) : (runAtEnd b s).chan c = s.chan c := by
  unfold runAtEnd
  split
  · rw [enterRun, startInterval, State.modBank_chan, State.modBank_chan, (setBankState_alarmUnitOnly b .run s).chan,
      State.modBank_chan]
  · rfl

theorem runAtEnd_bank_other {c : BankId} (h : b ≠ c) (s : State) : (runAtEnd c s).bank b = s.bank b := by
  unfold runAtEnd
  split
  · exact enterRun_bank_other h s
  · rfl

theorem runAtEnd_sparesLamps (b : BankId) (s : State) : s.sparesLamps (runAtEnd b s) := by
  unfold runAtEnd
  split
  · exact (State.sparesLamps.refl s).enterRun b
  · exact .refl s

theorem runAtEnd_keeps_run (c : BankId) (run : (s.bank b).state = .run) : ((runAtEnd c s).bank b).state = .run := by
  by_cases e : b = c
  · subst e
    rwa [runAtEnd, if_neg]
    rintro ⟨warming, _⟩
    rw [run] at warming
    cases warming
  · rwa [runAtEnd_bank_other e]

theorem forEach_runAtEnd {l : List BankId} (hb : b ∈ l) (warming : (s.bank b).state = .warming)
    (lit : (s.bank b).get .minLampsLit ≤ s.litCount b) : ((forEach l runAtEnd s).bank b).state = .run := by
  induction l generalizing s with
  | nil => cases hb
  | cons c l ih =>
    rw [forEach_cons]
    by_cases e : b = c
    · subst e
      have runs : ((runAtEnd b s).bank b).state = .run := by
        rw [runAtEnd, if_pos ⟨warming, lit⟩]
        exact enterRun_state b s
      exact forEach_keeps (P := fun t => (t.bank b).state = .run) (fun c _ t ht => runAtEnd_keeps_run c ht) runs
    · have bank := runAtEnd_bank_other e s
      have count : (runAtEnd c s).litCount b = s.litCount b := State.countLamps_congr fun k => by
        rw [State.lamp, (runAtEnd_sparesLamps c s).lamps]
        rfl
      refine ih ((List.mem_cons.mp hb).resolve_left e) (by rw [bank, warming]) ?_
      rwa [bank, count]

/-- A lamp of a listed bank is LIT after the window if it was so before. -/
theorem State.afterWindow_lit (listed : s.listed x.bank = true) :
    (s.afterWindow x).bank = x.bank ∧ ((s.afterWindow x).state = .lit ↔ x.state = .lit) := by
  have kept : s.unlistedOut (s.confirmed x) = s.confirmed x := by
    refine if_neg fun out => ?_
    rw [s.confirmed_bank, listed] at out
    exact Bool.noConfusion out.2
  rw [State.afterWindow, kept]
  refine ⟨s.confirmed_bank x, ?_⟩
  unfold State.confirmed
  split
  · unfold State.struck
    split
    · split
      · next ready =>
        have off : x.state = .off := ready.2.1
        rw [off]
        exact ⟨fun e => LampState.noConfusion e, fun e => LampState.noConfusion e⟩
      · rfl
    · rfl
  · rfl

theorem windowSwept_litCount {u : State} (listed : u.listed b = true) :
    (windowSwept ch (windowConfirmed ch u)).litCount b = u.litCount b := by
  refine State.countLamps_congr fun k => ?_
  rw [(windowSwept_acted ch u).2.lamp k]
  cases hx : u.lamp k with
  | none => rfl
  | some x =>
    simp only [Option.map_some, countsIn]
    split
    · by_cases here : x.bank = b
      · subst here
        obtain ⟨bank, lit⟩ := State.afterWindow_lit listed
        simp only [bank, lit]
      · have bank : (u.afterWindow x).bank = x.bank := by
          unfold State.afterWindow State.unlistedOut
          split
          · exact u.confirmed_bank x
          · exact u.confirmed_bank x
        rw [bank, decide_eq_false here, Bool.false_and, Bool.false_and]
    · rfl

theorem State.sameGround.trans {u : State} (h : s.sameGround t) (g : t.sameGround u) : s.sameGround u where
  now := g.now.trans h.now
  address := g.address.trans h.address
  south := g.south.trans h.south
  owner b := (g.owner b).trans (h.owner b)
  dormant c := (g.dormant c).trans (h.dormant c)
  setting c k := (g.setting c k).trans (h.setting c k)
  code c := (g.code c).trans (h.code c)

/-! #### What the window's end makes of each lamp (05, R86; 07, R120, R128) -/

theorem State.modChan_field {α : Type} {g : Channel → Channel} (f : Channel → α) (s : State) (c d : ChanId)
    (hf : ∀ x, f (g x) = f x := by exact fun _ => rfl) : f ((s.modChan c g).chan d) = f (s.chan d) := by
  rw [State.modChan_chan]
  split
  · next e => rw [hf, e]
  · rfl

theorem windowClosed_ground (ch : ChanId) (s : State) : s.sameGround (windowClosed ch s) where
  now := rfl
  address := rfl
  south := rfl
  owner _ := rfl
  dormant d := State.modChan_field Channel.dormant s ch d
  setting d k := State.modChan_field (fun c => c.get k) s ch d
  code d := State.modChan_field (fun c => c.power.code) s ch d

theorem windowClosed_listed (ch : ChanId) (s : State) (b : BankId) : (windowClosed ch s).listed b = s.listed b := by
  have list : ∀ d, ((windowClosed ch s).chan d).startList = (s.chan d).startList :=
    fun d => State.modChan_field Channel.startList s ch d
  unfold State.listed
  simp only [list]
  rfl

theorem State.confirmed_lit (s : State) (lit : x.state = .lit) : s.confirmed x = { x with unconfirmed := false } := by
  unfold State.confirmed
  split
  · exact s.struck_not_off (x := { x with unconfirmed := false }) (by rw [lit]; decide)
  · next confirmed =>
    rw [Bool.not_eq_true] at confirmed
    rw [← confirmed]

theorem State.unlistedOut_dark (s : State) (dark : x.state ≠ .lit) : s.unlistedOut x = x := if_neg fun out => dark out.1

theorem State.struck_dark (s : State) (dark : x.state ≠ .lit) : (s.struck x).state ≠ .lit := by
  unfold State.struck
  split
  · split
    · exact fun e => LampState.noConfusion e
    · exact dark
  · exact dark

theorem State.afterWindow_listed (lit : x.state = .lit) (listed : s.listed x.bank = true) :
    s.afterWindow x = { x with unconfirmed := false } := by
  rw [State.afterWindow, s.confirmed_lit lit, State.unlistedOut, listed]
  exact if_neg fun out => Bool.noConfusion out.2

theorem State.afterWindow_unlisted (lit : x.state = .lit) (unlisted : s.listed x.bank = false) :
    s.afterWindow x = { x with unconfirmed := false }.quenched := by
  rw [State.afterWindow, s.confirmed_lit lit, State.unlistedOut, unlisted]
  exact if_pos ⟨lit, rfl⟩

theorem State.afterWindow_tried (dark : x.state ≠ .lit) (unconfirmed : x.unconfirmed = true) :
    s.afterWindow x = s.struck { x with unconfirmed := false } := by
  have confirmed : s.confirmed x = s.struck { x with unconfirmed := false } := if_pos unconfirmed
  rw [State.afterWindow, confirmed]
  exact s.unlistedOut_dark (s.struck_dark (x := { x with unconfirmed := false }) dark)

theorem State.afterWindow_same (dark : x.state ≠ .lit) (confirmed : x.unconfirmed = false) : s.afterWindow x = x := by
  have same : s.confirmed x = x := if_neg (by rw [confirmed]; decide)
  rw [State.afterWindow, same, s.unlistedOut_dark dark]

/-- The event of the window's end. -/
def windowRun (ch : ChanId) (s : State) : State :=
  forEach ((windowSwept ch (windowConfirmed ch (windowClosed ch s))).ownedBanks ch) runAtEnd
    (windowSwept ch (windowConfirmed ch (windowClosed ch s)))

theorem windowRun_moves (ch : ChanId) (s : State) : (windowClosed ch s).moves (windowRun ch s) :=
  .each (fun b _ h => h.runAtEnd b) _ (.each (fun l _ h => h.putOutUnlisted l) _
    (.each (fun l _ h => h.confirmAtEnd l) _ .refl))

theorem windowRun_chan (ch d : ChanId) (s : State) : (windowRun ch s).chan d = (windowClosed ch s).chan d := by
  obtain ⟨_, _, e⟩ := (windowSwept_acted ch (windowClosed ch s)).1
  refine forEach_keeps (P := fun t => t.chan d = (windowClosed ch s).chan d) (fun b _ t ht => ?_) ?_
  · rw [runAtEnd_chan, ht]
  · rw [e]
    rfl

theorem windowEnds_acted (ch : ChanId) (s : State) : s.actedBy (review ch (windowRun ch s)) fun _ x =>
    if (s.bank x.bank).owner = some ch then s.afterWindow x else x := by
  have swept := (windowSwept_acted ch (windowClosed ch s)).2
  have run : (windowSwept ch (windowConfirmed ch (windowClosed ch s))).sparesLamps (windowRun ch s) :=
    forEach_relates State.sparesLamps.refl State.sparesLamps.trans (fun b _ t => runAtEnd_sparesLamps b t) _
  have reviewed := run.stages (.review (ch := ch) .refl)
  refine (State.actedBy.after (s := s) (swept.still reviewed.lamps reviewed.slots) rfl rfl).congr fun k x _ => ?_
  have out : ∀ y, (windowClosed ch s).unlistedOut y = s.unlistedOut y := fun y => by
    unfold State.unlistedOut
    rw [windowClosed_listed]
  have confirmed : (windowClosed ch s).confirmed x = s.confirmed x := by
    unfold State.confirmed
    rw [(windowClosed_ground ch s).struck]
  simp only [State.afterWindow, out, confirmed]
  rfl

end WindowEnds

/-- Settles O57: the lamps act first, each for itself; the lit lamps of a listed bank stay, so its count is that of `s`
as it enters RUN, and the review can only take it down. -/
theorem adoptionWindowEnds : Obligations.AdoptionWindowEnds := by
  intro ch d s rest window hd
  have due : s.due (s.chan ch).adoption = true := (s.due_iff _).mpr ⟨d, window, hd⟩
  have row : exec (.adoptionWindowExpiry ch) s = .next (endEvent (windowEnds ch s)) := rfl
  have ends : windowEnds ch s = review ch (windowRun ch s) := windowEnds_due due
  have closed : (windowClosed ch s).atRest := rest.of_eq rfl rfl
  have stages : (windowRun ch s).stages ch (review ch (windowRun ch s)) := .review .refl
  have moves := (windowRun_moves ch s).trans stages.moves
  have sound := (State.notesSound.atRest closed).moves moves
  have acted := windowEnds_acted ch s
  have quiet : ∀ k, lampPos k ∉ s.slotsMade := fun k => by rw [rest.2]; exact List.not_mem_nil
  have ground : s.sameGround (review ch (windowRun ch s)) := (windowClosed_ground ch s).trans moves.ground
  have own : ((windowClosed ch s).chan ch) = { s.chan ch with adoption := none } := State.modChan_chan_self _ _ _
  refine ⟨_, row, ?_⟩
  rw [ends]
  refine ⟨(moves.sameBase closed).of_chan, ?_, ?_, ?_, fun d hd => ?_, fun l x hx other => ?_, fun l x hx here => ?_,
    fun b listed owner warming enough => ?_⟩
  · rw [(endEvent_ends sound).chan, moves.keeps Channel.adoption, own]
  · rw [(endEvent_ends sound).chan, moves.keeps Channel.mode, own]
  · rw [(endEvent_ends sound).chan, moves.keeps Channel.power, own]
  · rw [(endEvent_ends sound).chan, stages.butList hd, windowRun_chan, windowClosed, State.modChan_chan, if_neg hd]
  · exact acted.stays quiet sound ground hx (if_neg other) rfl
  · have isListed : s.listed x.bank = true ↔ x.bank ∈ (s.chan ch).startList := by
      rw [State.listed, here]
      exact List.contains_iff_mem
    have turn : ∀ {y}, s.afterWindow x = y →
        (if (s.bank x.bank).owner = some ch then s.afterWindow x else x) = y := fun e => (if_pos here).trans e
    by_cases lit : x.state = .lit
    · by_cases listed : x.bank ∈ (s.chan ch).startList
      · refine ⟨_, acted.stays quiet sound ground hx (turn (State.afterWindow_listed lit (isListed.mpr listed))) rfl, ?_⟩
        rintro y rfl
        exact ⟨fun _ _ => rfl, fun _ out => absurd listed out, fun dark => absurd lit dark, fun dark => absurd lit dark⟩
      · have unlisted : s.listed x.bank = false := Bool.eq_false_iff.mpr (mt isListed.mp listed)
        obtain ⟨z, hz, put⟩ := acted.putOut quiet sound ground hx (turn (State.afterWindow_unlisted lit unlisted)) rfl rfl
        refine ⟨z, hz, ?_⟩
        rintro y rfl
        exact ⟨fun _ on => absurd on listed, fun _ _ => put, fun dark => absurd lit dark, fun dark => absurd lit dark⟩
    · by_cases unconfirmed : x.unconfirmed = true
      · obtain ⟨z, hz, tried⟩ := acted.tried quiet sound ground hx (turn (State.afterWindow_tried lit unconfirmed)) rfl rfl
        refine ⟨z, hz, ?_⟩
        rintro y rfl
        refine ⟨fun e => absurd e lit, fun e => absurd e lit, fun _ _ => tried, fun _ confirmed => ?_⟩
        rw [unconfirmed] at confirmed
        cases confirmed
      · have confirmed : x.unconfirmed = false := Bool.eq_false_iff.mpr unconfirmed
        refine ⟨x, acted.stays quiet sound ground hx (turn (State.afterWindow_same lit confirmed)) rfl, fun y _ => ?_⟩
        exact ⟨fun e => absurd e lit, fun e => absurd e lit, fun _ e => absurd e unconfirmed, fun _ _ => rfl⟩
  · have isListed : s.listed b = true := by
      rw [State.listed, owner]
      exact List.contains_iff_mem.mpr listed
    obtain ⟨_, _, e⟩ := (windowSwept_acted ch (windowClosed ch s)).1
    have bank : (windowSwept ch (windowConfirmed ch (windowClosed ch s))).bank b = s.bank b := by
      rw [e]
      rfl
    have count : (windowSwept ch (windowConfirmed ch (windowClosed ch s))).litCount b = s.litCount b :=
      windowSwept_litCount ((windowClosed_listed ch s b).trans isListed)
    have runs : ((windowRun ch s).bank b).state = .run := by
      refine forEach_runAtEnd ((State.mem_ownedBanks _ ch b).mpr ?_) ?_ ?_
      · rw [bank, owner]
      · rw [bank, warming]
      · rw [bank, count]
        exact enough
    have burns := (State.burnsOn.refl (windowRun ch s) b).review (by rw [runs]; decide) ch
    rw [acted.bank rest.2 sound]
    rcases burns with ⟨same, _⟩ | ⟨quenching, _⟩
    · rw [same]
      exact .inl runs
    · exact .inr quenching

end Sys2Proof.Machine

namespace Sys2Proof.Machine
open Sys2Proof

set_option Elab.async false

/-! ### A write of a lamp entry (07, R116, R132; 09, R153 to R155) -/

section LampEntry

variable {r : Sender} {l : LampId} {st : Byte} {b : BankId} {sl : Half} {s u : State} {x kept : Lamp}
  {new : Option LampCfg}

/-! #### The tests (09, R153, R155) -/

/-- The content that the bytes name: station 0 empties the entry. -/
def lampContent (st : Byte) (b : BankId) (sl : Half) : Option LampCfg :=
  if st = 0 then none else some ⟨st.toNat, b, sl.toNat⟩

theorem station_zero : st.toNat = 0 ↔ st = 0 := ⟨fun h => BitVec.eq_of_toNat_eq h, fun h => by rw [h]; rfl⟩

theorem lampRef_content (hst : st.toNat ≤ 126) (hsl : sl.toNat ≤ 7) :
    lampRef st (BitVec.ofNat 8 b.1) sl = some (lampContent st b sl) := by
  unfold lampRef lampContent stationRef
  rw [byteOf_bank, indexOf_val]
  by_cases zero : st = 0
  · rw [if_pos (station_zero.mpr zero), if_pos zero]
    exact if_pos hsl
  · rw [if_neg (mt station_zero.mp zero), if_pos hst, if_neg zero]
    exact if_pos hsl

theorem lampChans_content : s.lampChans l (lampContent st b sl) =
    (s.lampOwner l).toList ++ (if st = 0 then [] else (s.bank b).owner.toList) := by
  unfold State.lampChans lampContent
  by_cases zero : st = 0
  · rw [if_pos zero, if_pos zero]
  · rw [if_neg zero, if_neg zero]

theorem lampUnique_iff : s.lampUnique l (lampContent st b sl) = true ↔ st = 0 ∨ ∀ m y, m ≠ l → s.lamp m = some y →
    y.station ≠ st.toNat ∧ ¬ (y.bank = b ∧ y.slot = sl.toNat) := by
  unfold lampContent
  by_cases zero : st = 0
  · rw [if_pos zero]
    exact ⟨fun _ => .inl zero, fun _ => rfl⟩
  · rw [if_neg zero, or_iff_right zero]
    simp only [State.lampUnique, List.all_eq_true, allLamps, List.mem_finRange, true_implies, Bool.or_eq_true,
      decide_eq_true_eq]
    refine forall_congr' fun m => ?_
    cases hm : s.lamp m with
    | none => simp
    | some y =>
      by_cases e : m = l
      · simp [e]
      · simp only [e, Option.some.injEq, forall_eq', Bool.and_eq_true, Bool.not_eq_true', false_or,
          decide_eq_true_eq, Bool.and_eq_false_imp, decide_eq_false_iff_not, not_and, ne_eq, not_false_eq_true,
          true_implies]

theorem lampFree_iff : s.lampFree l = true ↔ ∀ x, s.lamp l = some x → x.state = .off ∨ x.state = .dead := by
  unfold State.lampFree
  cases s.lamp l <;> simp

section Exec

variable (hs : s.ready) (hst : st.toNat ≤ 126) (hsl : sl.toNat ≤ 7)
  (locks : s.holdsLocks r.station ((s.lampOwner l).toList ++ (if st = 0 then [] else (s.bank b).owner.toList)))

theorem exec_writeLampEntry {v : State} {a : Answer} (hs : s.ready)
    (handled : writeLampEntry r.station (BitVec.ofNat 8 l.1) st (BitVec.ofNat 8 b.1) sl s = (v, a))
    (address : v.address = s.address) : exec (.writeLampEntry r (BitVec.ofNat 8 l.1) st (BitVec.ofNat 8 b.1) sl) s =
      .next ((endEvent v).withReply r 0x03 a.bytes) :=
  congrArg Host.Outcome.next (requestRow_event r (.writeLampEntry (BitVec.ofNat 8 l.1) st (BitVec.ofNat 8 b.1) sl) _ hs
    handled address)

include hst hsl

theorem writeLampEntry_content (station : Nat) :
    writeLampEntry station (BitVec.ofNat 8 l.1) st (BitVec.ofNat 8 b.1) sl s =
      takeWrite [s.lockTest station (s.lampChans l (lampContent st b sl)),
          test (s.lampUnique l (lampContent st b sl)) .duplicate, test (s.lampFree l) .inUse]
        (s.lampChans l (lampContent st b sl)) false (storeLamp l (lampContent st b sl)) s := by
  rw [writeLampEntry, byteOf_lamp, indexOf_val, lampRef_content hst hsl]

include hs locks

theorem exec_lamp_refused {reason : Reason} (refused : [test (s.lampUnique l (lampContent st b sl)) .duplicate,
      test (s.lampFree l) .inUse].findSome? id = some reason) :
    exec (.writeLampEntry r (BitVec.ofNat 8 l.1) st (BitVec.ofNat 8 b.1) sl) s =
      .next (s.withReply r 0x03 (Answer.refused reason []).bytes) := by
  have handled : writeLampEntry r.station (BitVec.ofNat 8 l.1) st (BitVec.ofNat 8 b.1) sl s = (s, .refused reason []) := by
    rw [writeLampEntry_content hst hsl, takeWrite, lockTest_holds (lampChans_content ▸ locks)]
    have first : ∀ l : List (Option Reason), (none :: l).findSome? id = l.findSome? id := fun _ => rfl
    rw [first, refused]
    rfl
  rw [exec_writeLampEntry hs handled rfl, endEvent_atRest hs.2.2.2]

/-- A write that passes is stored (07, R116). -/
theorem exec_lamp_stored {v : State} (unique : s.lampUnique l (lampContent st b sl) = true) (free : s.lampFree l = true)
    (stored : storeLamp l (lampContent st b sl) (s.flagsCleared (s.lampChans l (lampContent st b sl))) = v)
    (address : v.address = s.address) : exec (.writeLampEntry r (BitVec.ofNat 8 l.1) st (BitVec.ofNat 8 b.1) sl) s =
      .next ((endEvent v).withReply r 0x03 [0]) := by
  have handled : writeLampEntry r.station (BitVec.ofNat 8 l.1) st (BitVec.ofNat 8 b.1) sl s = (v, .done false []) := by
    rw [writeLampEntry_content hst hsl, ← stored]
    refine takeWrite_passed ?_ _ _ _ s
    simp [lockTest_holds (lampChans_content ▸ locks), test, unique, free]
  exact exec_writeLampEntry hs handled address

end Exec

/-! #### The stored machine (07, R116, R132) -/

/-- A record at rest whose bank changed governance (07, R132). -/
def Lamp.moved (before after : Bool) (k : Lamp) : Lamp :=
  if before = true ∧ after = false then { k with strikeTimer := none, waitTimer := none, clearTimer := none }
  else if before = false ∧ after = true then { k with unconfirmed := false }
  else k

/-- A lamp OFF or DEAD that is not wanted makes no command as its governance changes. -/
theorem regoverned_moved {before : Bool} (free : kept.state = .off ∨ kept.state = .dead)
    (calm : kept.wanted = false ∨ before = u.bankGoverned kept.bank) :
    u.regoverned before kept = kept.moved before (u.bankGoverned kept.bank) := by
  unfold State.regoverned Lamp.moved
  split
  · rw [Lamp.ungoverned_eq]
    rcases free with e | e <;> simp [e]
  · split
    · next gains =>
      have unwanted : kept.wanted = false := calm.resolve_right fun same => by
        rw [gains.1, gains.2] at same
        cases same
      have dark : ¬ (kept.state = .lit ∧ kept.wanted = false) := by
        rcases free with e | e <;> simp [e]
      rw [State.tended, if_neg dark]
      unfold State.struck
      split
      · exact if_neg fun ready => by rw [unwanted] at ready; exact Bool.noConfusion ready.2.2.1
      · rfl
    · rfl

theorem regovern_stored {before : Bool} (free : kept.state = .off ∨ kept.state = .dead)
    (calm : kept.wanted = false ∨ before = u.bankGoverned kept.bank) :
    regovern before l (u.setLamp l (some kept)) =
      u.setLamp l (some (kept.moved before (u.bankGoverned kept.bank))) := by
  have cmd : (kept.moved before (u.bankGoverned kept.bank)).cmd = kept.cmd := by
    unfold Lamp.moved
    split
    · rfl
    · split <;> rfl
  have turned : (u.setLamp l (some kept)).regoverned before kept = kept.moved before (u.bankGoverned kept.bank) :=
    regoverned_moved (u := u.setLamp l (some kept)) free calm
  rw [regovern_eq (State.setLamp_lamp_self _ _ _), turned, lampActs_quiet cmd, State.setLamp_setLamp]

theorem recheckFaulted_idle (h : (s.bank b).state ≠ .faulted ∨ (s.bank b).faultTimer ≠ none ∨
    s.nonDead b < (s.bank b).get .minLampsLit) : recheckFaulted b s = s := by
  refine if_neg fun due => ?_
  rcases h with h | h | h
  · exact h due.1
  · exact h due.2.1
  · exact Nat.not_lt.mpr due.2.2 h

/-- A bank whose re-check waits. -/
def State.noRecheck (s : State) (b : BankId) : Prop := (s.bank b).state ≠ .faulted ∨ (s.bank b).faultTimer ≠ none

theorem storeLamp_empty (old : ∀ x, u.lamp l = some x → u.noRecheck x.bank) : storeLamp l none u = u.setLamp l none := by
  have gone : regovern (u.lampGoverned l) l (u.setLamp l none) = u.setLamp l none := by
    have gone : (u.setLamp l none).lampGoverned l = false := by
      rw [State.lampGoverned, State.setLamp_lamp_self]
    unfold regovern
    rw [gone]
    cases u.lampGoverned l
    · rfl
    · show (u.setLamp l none).modLamp l Lamp.ungoverned = _
      rw [State.modLamp, State.setLamp_lamp_self, State.setLamp_setLamp]
      rfl
  have emptied : rewritten (u.lamp l) none (u.timer coolPeriod) = none := rfl
  unfold storeLamp
  dsimp only
  rw [emptied, gone]
  cases hx : u.lamp l with
  | none => rfl
  | some x => exact recheckFaulted_idle ((old x hx).imp_right .inl)

theorem storeLamp_put {c : LampCfg} (put : rewritten (u.lamp l) (some c) (u.timer coolPeriod) = some kept)
    (free : kept.state = .off ∨ kept.state = .dead)
    (calm : kept.wanted = false ∨ u.lampGoverned l = u.bankGoverned kept.bank)
    (old : ∀ x, u.lamp l = some x → u.noRecheck x.bank) : storeLamp l (some c) u =
      recheckFaulted c.bank (u.setLamp l (some (kept.moved (u.lampGoverned l) (u.bankGoverned kept.bank)))) := by
  unfold storeLamp
  dsimp only
  rw [put, regovern_stored free calm]
  cases hx : u.lamp l with
  | none => rfl
  | some x =>
    dsimp only
    rw [recheckFaulted_idle (b := x.bank) (s := u.setLamp l _) ((old x hx).imp_right .inl)]

theorem nonDead_fresh {new : Lamp} (empty : u.lamp l = none) (bank : new.bank = b) (alive : new.state ≠ .dead) :
    (u.setLamp l (some new)).nonDead b = u.nonDead b + 1 := by
  refine State.countLamps_gains (l := l) (fun k hk => ?_) ?_ ?_
  · rw [State.setLamp_lamp, if_neg hk]
  · rw [empty]
    rfl
  · rw [State.setLamp_lamp_self]
    simp [countsIn, bank, alive]

/-- The machine of an entry rewritten in place (07, R116). -/
theorem rewritten_kept {n slot : Nat} {cool : Timer} (idle : x.state = .off ∨ x.state = .dead)
    (h : kept = if n = x.station then
        if x.bank = b ∧ x.slot = slot then x else { x with bank := b, slot := slot, wanted := false, cmd := none }
      else { station := n, bank := b, slot := slot, state := .off, wanted := false, unconfirmed := false, adopted := false,
             cool := 1000, attempts := 0, sets := 0, dropouts := 0, strikeTimer := none, waitTimer := none,
             clearTimer := none, coolTimer := x.coolTimer, cmd := none }) :
    rewritten (some x) (some ⟨n, b, slot⟩) cool = some kept ∧ kept.bank = b ∧
      (kept.state = .off ∨ kept.state = .dead) ∧ (kept.wanted = false ∨ x.bank = b) := by
  unfold rewritten
  dsimp only
  by_cases station : n = x.station
  · rw [if_pos station] at h
    rw [if_neg (not_not.mpr station.symm)]
    by_cases here : x.bank = b ∧ x.slot = slot
    · rw [if_pos here] at h
      rw [if_pos here, h]
      exact ⟨rfl, here.1, idle, .inr here.1⟩
    · rw [if_neg here] at h
      rw [if_neg here, h]
      exact ⟨rfl, rfl, idle, .inl rfl⟩
  · rw [if_neg station] at h
    rw [if_pos (Ne.symm station), h]
    exact ⟨rfl, rfl, .inl rfl, .inl rfl⟩

end LampEntry

/-- Settles O41: the tests decide a refusal; else the machine is rewritten, its governance moves no command, and only a
FAULTED bank whose rest is over is re-checked. -/
theorem lampEntryIsWritten : Obligations.LampEntryIsWritten := by
  intro r l st b sl s hs hst hsl locks
  have chans := lampChans_content (s := s) (l := l) (st := st) (b := b) (sl := sl)
  refine ⟨fun filled clash => ?_, fun alone => ?_⟩
  · have taken : s.lampUnique l (lampContent st b sl) = false := by
      refine Bool.eq_false_iff.mpr fun unique => ?_
      obtain ⟨m, y, other, hy, same⟩ := clash
      obtain ⟨apart, elsewhere⟩ := (lampUnique_iff.mp unique).resolve_left filled m y other hy
      exact same.elim apart elsewhere
    exact exec_lamp_refused hs hst hsl locks (reason := .duplicate) (by rw [taken]; rfl)
  have unique := lampUnique_iff.mpr alone
  obtain ⟨u, hu⟩ : ∃ u, u = s.flagsCleared (s.lampChans l (lampContent st b sl)) := ⟨_, rfl⟩
  have rest : u.atRest := hu ▸ hs.2.2.2.of_eq rfl rfl
  have lamp : ∀ m, u.lamp m = s.lamp m := fun m => hu ▸ rfl
  have bank : ∀ c, u.bank c = s.bank c := fun c => hu ▸ rfl
  have address : ∀ o, (u.setLamp l o).address = s.address := fun o => hu ▸ rfl
  have settled : ∀ o, endEvent (u.setLamp l o) = u.setLamp l o := fun o => endEvent_atRest (rest.of_eq rfl rfl)
  have governed : ∀ c, u.bankGoverned c = s.bankGoverned c := fun c => by
    rw [hu, State.flagsCleared_bankGoverned]
  refine ⟨fun empty zero => ?_, fun empty filled new hnew => ?_, fun x hx => ⟨fun notOff notDead => ?_, fun idle => ?_⟩⟩
  · have free : s.lampFree l = true := lampFree_iff.mpr fun x hx => by rw [empty] at hx; cases hx
    have content : lampContent st b sl = none := if_pos zero
    have noChans : s.lampChans l (lampContent st b sl) = [] := by
      rw [chans, if_pos zero, State.lampOwner, empty]
      rfl
    have same : u = s := by
      rw [hu, noChans, ← clearFlags_eq]
      rfl
    have stored : storeLamp l (lampContent st b sl) (s.flagsCleared (s.lampChans l (lampContent st b sl))) = s := by
      rw [← hu, same, content, storeLamp_empty (fun x hx => by rw [empty] at hx; cases hx), ← empty, State.setLamp_same]
    rw [exec_lamp_stored hs hst hsl locks unique free stored rfl, endEvent_atRest hs.2.2.2]
  · have free : s.lampFree l = true := lampFree_iff.mpr fun x hx => by rw [empty] at hx; cases hx
    have content : lampContent st b sl = some ⟨st.toNat, b, sl.toNat⟩ := if_neg filled
    have owners : s.lampChans l (lampContent st b sl) = (s.bank b).owner.toList := by
      rw [chans, if_neg filled, State.lampOwner, empty]
      rfl
    have put : rewritten (u.lamp l) (some ⟨st.toNat, b, sl.toNat⟩) (u.timer coolPeriod) = some new := by
      rw [lamp, empty, hnew, hu]
      rfl
    have moved : new.moved (u.lampGoverned l) (u.bankGoverned new.bank) = new := by
      have ungoverned : u.lampGoverned l = false := by
        rw [State.lampGoverned, lamp, empty]
      unfold Lamp.moved
      rw [ungoverned, hnew]
      cases u.bankGoverned b <;> rfl
    have stored := storeLamp_put (u := u) put (.inl (by rw [hnew])) (.inl (by rw [hnew]))
      (fun x hx => by rw [lamp, empty] at hx; cases hx)
    rw [moved, ← content] at stored
    have newBank : new.bank = b := by rw [hnew]
    have alive : new.state ≠ .dead := by
      rw [hnew]
      exact fun e => LampState.noConfusion e
    have count : (u.setLamp l (some new)).nonDead b = s.nonDead b + 1 := by
      rw [nonDead_fresh (by rw [lamp, empty]) newBank alive, hu]
      rfl
    refine ⟨fun waits => ?_, fun sound faulted over' enough => ?_⟩
    · have idle : recheckFaulted b (u.setLamp l (some new)) = u.setLamp l (some new) := by
        refine recheckFaulted_idle ?_
        rw [count, State.setLamp_bank, bank]
        exact waits
      rw [idle, hu] at stored
      rw [exec_lamp_stored hs hst hsl locks unique free stored (hu ▸ address _), ← hu, settled, hu, owners]
    · have dark : recheckFaulted b (u.setLamp l (some new)) = darkBank b (u.setLamp l (some new)) := by
        refine if_pos ?_
        rw [count, State.setLamp_bank, bank]
        exact ⟨faulted, over', enough⟩
      have off := sound.off (b := b) (by rw [faulted]; decide) (by rw [faulted]; decide) (by rw [faulted]; decide)
      have outer : ∀ c, b ∉ ((u.setLamp l (some new)).chan c).startList := fun c => by
        rw [State.setLamp_chan, hu, s.flagsCleared_keeps Channel.startList]
        exact off c
      have back := endEvent_darkBank (b := b) (s := u.setLamp l (some new)) .refl (rest.of_eq rfl rfl) (.refl _)
        (by rw [State.setLamp_bank, bank, faulted]; decide) outer
      have kept : (darkBank b (u.setLamp l (some new))).address = s.address := by
        have moves : (u.setLamp l (some new)).moves (darkBank b (u.setLamp l (some new))) := State.moves.refl.darkBank b
        exact moves.event.address.trans (address _)
      rw [dark, hu] at stored
      refine ⟨_, exec_lamp_stored hs hst hsl locks unique free stored (hu ▸ kept), ?_⟩
      rw [← hu]
      have lamps : ∀ m, (endEvent (darkBank b (u.setLamp l (some new)))).lamp m = (u.setLamp l (some new)).lamp m :=
        fun m => by rw [State.lamp, back.lamps]; rfl
      refine ⟨back.state, back.fault, ?_, fun m hm => ?_⟩
      · rw [lamps, State.setLamp_lamp_self]
      · rw [lamps, State.setLamp_lamp, if_neg hm, lamp]
  · have busy : s.lampFree l = false := by
      refine Bool.eq_false_iff.mpr fun free => ?_
      exact (lampFree_iff.mp free x hx).elim notOff notDead
    exact exec_lamp_refused hs hst hsl locks (reason := .inUse) (by rw [unique, busy]; rfl)
  · have free : s.lampFree l = true := lampFree_iff.mpr fun y hy => by
      rw [hx] at hy
      exact Option.some.inj hy ▸ idle
    have owner : s.lampOwner l = (s.bank x.bank).owner := by rw [State.lampOwner, hx]
    intro oldWaits newWaits
    have old : ∀ y, u.lamp l = some y → u.noRecheck y.bank := fun y hy => by
      rw [lamp, hx] at hy
      rw [State.noRecheck, bank, ← Option.some.inj hy]
      exact oldWaits
    refine ⟨fun zero => ?_, fun filled kept moved before after hkept hbefore hafter hmoved => ?_⟩
    · have content : lampContent st b sl = none := if_pos zero
      have owners : s.lampChans l (lampContent st b sl) = (s.bank x.bank).owner.toList := by
        rw [chans, if_pos zero, owner, List.append_nil]
      have stored : storeLamp l (lampContent st b sl) (s.flagsCleared (s.lampChans l (lampContent st b sl))) =
          u.setLamp l none := by
        rw [← hu, content, storeLamp_empty old]
      rw [exec_lamp_stored hs hst hsl locks unique free stored (address _), settled, hu, owners]
    · have content : lampContent st b sl = some ⟨st.toNat, b, sl.toNat⟩ := if_neg filled
      have owners : s.lampChans l (lampContent st b sl) = (s.bank x.bank).owner.toList ++ (s.bank b).owner.toList := by
        rw [chans, if_neg filled, owner]
      have was : u.lampGoverned l = before := by
        rw [State.lampGoverned, lamp, hx, hbefore]
        exact governed _
      obtain ⟨put, keptBank, keptFree, keptCalm⟩ := rewritten_kept (cool := u.timer coolPeriod) idle hkept
      rw [← hx, ← lamp] at put
      have calm : kept.wanted = false ∨ u.lampGoverned l = u.bankGoverned kept.bank := keptCalm.imp_right fun here => by
        rw [was, hbefore, governed, keptBank, here]
      have after' : u.bankGoverned kept.bank = after := by rw [keptBank, governed, hafter]
      have idle' : recheckFaulted b (u.setLamp l (some (kept.moved before after))) =
          u.setLamp l (some (kept.moved before after)) := by
        refine recheckFaulted_idle ?_
        rw [State.setLamp_bank, bank]
        exact newWaits.imp_right .inl
      have stored := storeLamp_put put keptFree calm old
      rw [was, after', idle', ← content, hu] at stored
      rw [exec_lamp_stored hs hst hsl locks unique free stored (hu ▸ address _), ← hu, settled, hu, owners, hmoved]
      rfl

end Sys2Proof.Machine

namespace Sys2Proof.Machine
open Sys2Proof

set_option Elab.async false

/-! ### A wiper slot at the end of an event (06, R111; 08, R144) -/

section WiperSlot

variable {s t u v : State} {b c : BankId} {st : Nat} {pos : SlotId}

/-- The wiper slot of a bank keeps its command for want of room, or has sent it (08, R144). -/
def State.wiperTried (s t : State) (tried : Prop) (b : BankId) : Prop :=
  (t.bank b = s.bank b ∧ (tried → ∀ st, (s.bank b).wiperSlot = some st → t.southFull)) ∨
    ∃ st, (s.bank b).wiperSlot = some st ∧ t.bank b = { s.bank b with wiperSlot := none } ∧
      s.sentSouth t (s.ownFrame st 0x04 [1]) ∧ tried

theorem slotOwner_wiperPos (b : BankId) : slotOwner (wiperPos b) = .inr b := by
  unfold slotOwner
  rw [dif_neg (show ¬ (wiperPos b).1 < 64 from Nat.not_lt.mpr (Nat.le_add_right 64 b.1))]
  exact congrArg Sum.inr (Fin.ext (Nat.add_sub_cancel_left 64 b.1))

theorem slotOwner_inr (h : slotOwner pos = .inr b) : pos = wiperPos b := by
  unfold slotOwner at h
  split at h
  · cases h
  · next high =>
    obtain rfl := Sum.inr.inj h
    exact Fin.ext (Nat.add_sub_cancel' (Nat.not_lt.mp high)).symm

theorem wiperPos_injective (h : wiperPos b = wiperPos c) : b = c := by
  have same := congrArg slotOwner h
  rw [slotOwner_wiperPos, slotOwner_wiperPos] at same
  exact Sum.inr.inj same

theorem wiperPos_ne_lampPos (b : BankId) (l : LampId) : wiperPos b ≠ lampPos l := fun h => by
  have same := congrArg slotOwner h
  rw [slotOwner_wiperPos, slotOwner_lampPos] at same
  cases same

namespace State.wiperTried

/-- The bank is left alone by a slot that is not its own. -/
theorem other {p : Prop} (bank : t.bank b = s.bank b) (h : ¬ p) : s.wiperTried t p b := .inl ⟨bank, fun hp => absurd hp h⟩

theorem direct (pos : SlotId) (s : State) (b : BankId) : s.wiperTried (tryDirect pos s) (wiperPos b = pos) b := by
  unfold tryDirect
  split
  · next opened =>
    have normal := State.directEntry_repeater opened
    unfold enterSouth State.slotFrame clearSlot
    cases owner : slotOwner pos with
    | inl l =>
      have lamp := slotOwner_inl owner
      dsimp only
      refine other ?_ (lamp ▸ wiperPos_ne_lampPos b l)
      split <;> rfl
    | inr c =>
      obtain rfl := slotOwner_inr owner
      dsimp only
      by_cases e : b = c
      · subst e
        cases slot : (s.bank b).wiperSlot with
        | none => exact .inl ⟨rfl, fun _ st hst => by rw [slot] at hst; cases hst⟩
        | some st =>
          refine .inr ⟨st, slot, ?_, ⟨normal, [_], rfl, List.mem_singleton_self _⟩, rfl⟩
          exact State.modBank_bank_self _ _ _
      · refine other ?_ (fun h => e (wiperPos_injective h))
        split
        · rw [State.modBank_bank, if_neg e]
          rfl
        · rfl
  · next closed => exact .inl ⟨rfl, fun _ _ _ => southFull_of_closed closed⟩

theorem trans {p q : Prop} (h : s.wiperTried t p b) (g : t.wiperTried u q b) (hs : s.sendsSouth t)
    (gs : t.sendsSouth u) : s.wiperTried u (p ∨ q) b := by
  rcases h with ⟨hb, full⟩ | ⟨st, slot, hb, sent, tried⟩
  · rcases g with ⟨gb, full'⟩ | ⟨st, slot, gb, sent, tried⟩
    · refine .inl ⟨gb.trans hb, ?_⟩
      rintro (hp | hq) st slot
      · exact gs.southFull (full hp st slot)
      · exact full' hq st (hb ▸ slot)
    · rw [hs.ownFrame] at sent
      rw [hb] at slot gb
      exact .inr ⟨st, slot, gb, hs.then_sent sent, .inr tried⟩
  · rcases g with ⟨gb, _⟩ | ⟨st', slot', _⟩
    · exact .inr ⟨st, slot, gb.trans hb, gs.sent_then sent, .inl tried⟩
    · rw [hb] at slot'
      cases slot'

theorem flush (l : List SlotId) (s : State) (b : BankId) : s.wiperTried (forEach l tryDirect s) (wiperPos b ∈ l) b := by
  induction l generalizing s with
  | nil => exact other rfl List.not_mem_nil
  | cons pos l ih =>
    have both := (direct pos s b).trans (ih (tryDirect pos s)) (State.Flushed.tryDirect pos s).sends
      (State.Flushed.forEach l (tryDirect pos s)).sends
    unfold State.wiperTried at both ⊢
    rwa [List.mem_cons]

end State.wiperTried

/-- The wiper slots at the end of an event. -/
theorem endEvent_wiper (sound : v.notesSound) (b : BankId) :
    v.wiperTried (endEvent v) (wiperPos b ∈ v.slotsMade) b := by
  obtain ⟨made, slot, _, e⟩ := State.gainsAlerts.flushAlerts sound
  have slots : (flushAlerts v).slotsMade = v.slotsMade := by rw [e]
  have flushed := State.wiperTried.flush v.slotsMade { flushAlerts v with slotsMade := [] } b
  have ends : endEvent v = forEach v.slotsMade tryDirect { flushAlerts v with slotsMade := [] } := by
    rw [endEvent, flushSlots, slots]
  rw [← ends, e] at flushed
  exact flushed

/-- A bank whose wiper slot was not filled stays as it was. -/
theorem endEvent_bank_quiet (sound : v.notesSound) (quiet : wiperPos b ∉ v.slotsMade) :
    (endEvent v).bank b = v.bank b := by
  rcases endEvent_wiper sound b with ⟨same, _⟩ | ⟨_, _, _, _, made⟩
  · exact same
  · exact absurd made quiet

/-- A START made in a bank's wiper slot, at the end of the event. -/
theorem wiperPlaced_started (sound : v.notesSound) (station : (s.bank b).wiperStation = some st)
    (slot : (v.bank b).wiperSlot = some st) (made : wiperPos b ∈ v.slotsMade ↔ (s.bank b).wiperSlot = none)
    (ground : s.sameGround v) : s.wiperPlaced (endEvent v) b true ((endEvent v).bank b).wiperSlot := by
  unfold State.wiperPlaced
  rw [station]
  dsimp only
  rcases endEvent_wiper sound b with ⟨same, full⟩ | ⟨st', slot', sent, south, tried⟩
  · refine .inl ⟨by rw [same, slot], ?_⟩
    by_cases empty : (s.bank b).wiperSlot = none
    · exact .inr (full (made.mpr empty) st slot)
    · exact .inl empty
  · rw [slot] at slot'
    obtain rfl := Option.some.inj slot'
    refine .inr ⟨by rw [sent], made.mp tried, ?_⟩
    unfold State.sentSouth State.repeater State.ownFrame at *
    rwa [ground.address, ground.south] at south

end WiperSlot

end Sys2Proof.Machine

namespace Sys2Proof.Machine
open Sys2Proof

set_option Elab.async false

/-! ### A program step's effects (06, R102, R103, R111) -/

section StepEffects

variable {s u v : State} {b c : BankId} {y : Machine.Step} {k : ProgKind} {m : Byte}

/-- The bank after the step's blank field and wiper start. -/
def Bank.stepped (y : Machine.Step) (now : Nat) (x : Bank) : Bank :=
  { x with
    tracker := x.tracker.afterBlank y.blank
    supervision := if y.wiper = true ∧ x.wiperStation ≠ none then .started else x.supervision
    wipeLimit := if y.wiper = true ∧ x.wiperStation ≠ none then some (now + 1000 * x.get .wipeLimit) else x.wipeLimit
    wiperSlot := if y.wiper = true ∧ x.wiperStation ≠ none then x.wiperStation else x.wiperSlot }

/-- The step fills the bank's empty wiper slot. -/
def Bank.fillsSlot (y : Machine.Step) (x : Bank) : Bool :=
  y.wiper && x.wiperStation.isSome && x.wiperSlot.isNone

/-- The state after the step's blank field and wiper start. -/
def stepBase (b : BankId) (y : Machine.Step) (s : State) : State :=
  { s.modBank b (Bank.stepped y s.now) with
    slotsMade := if (s.bank b).fillsSlot y then insertSlot (wiperPos b) s.slotsMade else s.slotsMade }

theorem applyBlank_eq (b : BankId) (op : BlankOp) (s : State) :
    applyBlank b op s = s.modBank b fun x => { x with tracker := x.tracker.afterBlank op } := by
  cases op with
  | set => rfl
  | clear => rfl
  | keep => exact (State.modBank_same rfl).symm

theorem wiperStart_none (h : (s.bank b).wiperStation = none) : wiperStart b s = s := by rw [wiperStart, h]

theorem wiperStart_some {st : Nat} (h : (s.bank b).wiperStation = some st) : wiperStart b s =
    { s.modBank b fun x => { x with
        supervision := .started, wipeLimit := some (s.now + 1000 * x.get .wipeLimit), wiperSlot := some st } with
      slotsMade := if (s.bank b).wiperSlot = none then insertSlot (wiperPos b) s.slotsMade else s.slotsMade } := by
  rw [wiperStart, h]
  dsimp only
  unfold placeWiper
  rw [State.modBank_bank_self, State.modBank_modBank]
  dsimp only
  split <;> rfl

/-- A step's blank field and wiper start in one (06, R102, R111). -/
theorem stepBase_eq (b : BankId) (y : Machine.Step) (s : State) :
    (if y.wiper then wiperStart b (applyBlank b y.blank s) else applyBlank b y.blank s) = stepBase b y s := by
  have own : (s.modBank b fun x => { x with tracker := x.tracker.afterBlank y.blank }).bank b =
      { s.bank b with tracker := (s.bank b).tracker.afterBlank y.blank } := State.modBank_bank_self _ _ _
  have plain (still : ¬ (y.wiper = true ∧ (s.bank b).wiperStation ≠ none)) :
      (s.modBank b fun x => { x with tracker := x.tracker.afterBlank y.blank }) = stepBase b y s := by
    have unfilled : (s.bank b).fillsSlot y = false := by
      refine Bool.eq_false_iff.mpr fun fills => still ?_
      simp only [Bank.fillsSlot, Bool.and_eq_true, Option.isSome_iff_ne_none] at fills
      exact fills.1
    unfold stepBase
    rw [unfilled, if_neg Bool.false_ne_true]
    exact modBank_congr (by simp only [Bank.stepped, if_neg still])
  rw [applyBlank_eq]
  cases wiper : y.wiper with
  | false => exact plain fun starts => by rw [wiper] at starts; exact Bool.noConfusion starts.1
  | true =>
    rw [if_pos rfl]
    cases station : (s.bank b).wiperStation with
    | none =>
      rw [wiperStart_none (by rw [own, station])]
      exact plain fun starts => starts.2 station
    | some st =>
      rw [wiperStart_some (st := st) (by rw [own, station]), own, State.modBank_modBank]
      unfold stepBase Bank.fillsSlot
      rw [wiper, station]
      have bank : (s.modBank b fun x => { x with
            tracker := x.tracker.afterBlank y.blank, supervision := .started,
            wipeLimit := some (s.now + 1000 * x.get .wipeLimit), wiperSlot := some st }) =
          s.modBank b (Bank.stepped y s.now) := modBank_congr (by simp [Bank.stepped, wiper, station])
      rw [← bank]
      cases (s.bank b).wiperSlot <;> rfl

theorem Tracker.afterBlank_settle (t : Tracker) (op : BlankOp) : (t.afterBlank op).settleTimer = t.settleTimer := by
  cases op with
  | set => rfl
  | clear => exact t.clearBlank_settleTimer
  | keep => rfl

theorem Bank.stepped_record (y : Machine.Step) (now : Nat) (x : Bank) : (x.stepped y now).record = x.record := by
  simp [Bank.record, Bank.stepped, Tracker.afterBlank_settle]

theorem stepBase_moves (b : BankId) (y : Machine.Step) (s : State) : s.moves (stepBase b y s) := by
  have base : s.moves (s.modBank b (Bank.stepped y s.now)) := State.moves.refl.bank b (Bank.stepped_record y s.now _)
  unfold stepBase
  split
  · exact base.slot (wiperPos b)
  · exact base

theorem stepBase_bank (b c : BankId) (y : Machine.Step) (s : State) :
    (stepBase b y s).bank c = if c = b then (s.bank b).stepped y s.now else s.bank c :=
  State.modBank_bank s b c (Bank.stepped y s.now)

theorem mem_stepBase_slots (rest : s.atRest) {pos : SlotId} :
    pos ∈ (stepBase b y s).slotsMade ↔ pos = wiperPos b ∧ (s.bank b).fillsSlot y = true := by
  unfold stepBase
  dsimp only
  split
  · next fills => rw [mem_insertSlot, rest.2]; simp [fills]
  · next unfilled => rw [rest.2]; simp [unfilled]

/-! #### The lamp set (06, R103) -/

theorem applyLampSet_acted (b : BankId) (m : Byte) (s : State) : s.lampsOnly (applyLampSet b m s) ∧
    s.actedBy (applyLampSet b m s) fun k x => if k ∈ s.installed b then s.flagged (m.getLsbD x.slot) x else x := by
  have turns : s.lampsOnly (applyLampSet b m s) ∧
      s.LampsActed (applyLampSet b m s) (s.installed b) fun x => s.flagged (m.getLsbD x.slot) x := by
    refine lampsActed_of (s.installed_nodup b) (fun k hk => ?_) fun k _ t x only hx => ?_
    · obtain ⟨x, hx, _⟩ := (s.mem_installed b k).mp hk
      exact ⟨x, hx⟩
    · rw [hx]
      dsimp only
      rw [setWanted_eq hx]
      obtain ⟨_, _, rfl⟩ := only
      rfl
  exact ⟨turns.1, turns.2.actedBy fun x => s.flagged_full _ x⟩

/-- The state after the step's three effects, before the bank is judged. -/
def stepMid (b : BankId) (y : Machine.Step) (s : State) : State :=
  match y.set with
  | some m => applyLampSet b m (stepBase b y s)
  | none => stepBase b y s

theorem stepMid_lampsOnly (b : BankId) (y : Machine.Step) (s : State) : (stepBase b y s).lampsOnly (stepMid b y s) := by
  unfold stepMid
  split
  · exact (applyLampSet_acted b _ _).1
  · exact .refl _

theorem stepMid_moves (b : BankId) (y : Machine.Step) (s : State) : s.moves (stepMid b y s) := by
  unfold stepMid
  split
  · exact (stepBase_moves b y s).applyLampSet b _
  · exact stepBase_moves b y s

theorem stepMid_bank (b c : BankId) (y : Machine.Step) (s : State) :
    (stepMid b y s).bank c = if c = b then (s.bank b).stepped y s.now else s.bank c := by
  obtain ⟨_, _, e⟩ := stepMid_lampsOnly b y s
  rw [e, ← stepBase_bank]
  rfl

theorem stepMid_bank_self (b : BankId) (y : Machine.Step) (s : State) :
    (stepMid b y s).bank b = (s.bank b).stepped y s.now := by rw [stepMid_bank, if_pos rfl]

theorem stepMid_channels (b : BankId) (y : Machine.Step) (s : State) : (stepMid b y s).channels = s.channels := by
  obtain ⟨_, _, e⟩ := stepMid_lampsOnly b y s
  rw [e]
  rfl

/-- What the step makes of the lamps (06, R103). -/
def State.stepLamp (s : State) (b : BankId) (y : Machine.Step) (x : Lamp) : Lamp :=
  match y.set with
  | some m => if x.bank = b then s.flagged (m.getLsbD x.slot) x else x
  | none => x

theorem stepMid_acted (b : BankId) (y : Machine.Step) (s : State) :
    (stepBase b y s).actedBy (stepMid b y s) fun _ x => s.stepLamp b y x := by
  unfold stepMid State.stepLamp
  cases y.set with
  | none => exact .of_eq rfl rfl
  | some m =>
    refine (applyLampSet_acted b m (stepBase b y s)).2.congr fun k x hx => ?_
    simp only [mem_installed_iff hx, (stepBase_moves b y s).ground.flagged]

theorem mem_stepMid_wiper (rest : s.atRest) :
    wiperPos c ∈ (stepMid b y s).slotsMade ↔ c = b ∧ (s.bank b).fillsSlot y = true := by
  rw [(stepMid_acted b y s).slots, mem_stepBase_slots rest]
  constructor
  · rintro (⟨same, fills⟩ | ⟨l, same, _⟩)
    · exact ⟨wiperPos_injective same, fills⟩
    · exact absurd same (wiperPos_ne_lampPos c l)
  · rintro ⟨rfl, fills⟩
    exact .inl ⟨rfl, fills⟩

/-! #### A count that takes the bank nowhere (05, R85, R95, R96) -/

theorem judgeLit_calm (dark : (s.bank b).state = .dark → ∀ ch, (s.bank b).owner = some ch → (s.chan ch).adoption = none)
    (run : (s.bank b).state ≠ .run)
    (warming : (s.bank b).state = .warming → (s.bank b).tracker.warm = false) : judgeLit b s = s := by
  have burning : judgeBurning b s = s := by
    unfold judgeBurning
    split
    · next e => exact absurd e run
    · next e =>
      refine if_neg fun pass => ?_
      rw [warming e] at pass
      exact Bool.noConfusion pass.1
    all_goals rfl
  unfold judgeLit
  split
  · rfl
  · next ch owner =>
    have below : s.reachesLit ch b = false := by
      unfold State.reachesLit
      by_cases e : (s.bank b).state = .dark
      · rw [dark e ch owner]
        simp
      · simp [e]
    rw [below, burning]
    split <;> rfl

/-- A bank that no lit count takes anywhere (05, R85, R95, R96). -/
structure State.countCalm (s : State) (b : BankId) : Prop where
  dark    : (s.bank b).state = .dark → ∀ ch, (s.bank b).owner = some ch → (s.chan ch).adoption = none
  run     : (s.bank b).state ≠ .run
  warming : (s.bank b).state = .warming → (s.bank b).tracker.warm = false

theorem State.countCalm.of_state (dark : (s.bank b).state ≠ .dark) (run : (s.bank b).state ≠ .run)
    (warming : (s.bank b).state ≠ .warming) : s.countCalm b :=
  ⟨fun e => absurd e dark, run, fun e => absurd e warming⟩

theorem State.countCalm.of_cases (h : (s.bank b).state = .striking ∨ (s.bank b).state = .quenching ∨
    (s.bank b).state = .faulted ∨ (s.bank b).state = .locked ∨
    ((s.bank b).state = .warming ∧ (s.bank b).tracker.warm = false) ∨
    ((s.bank b).state = .dark ∧ ∀ ch, (s.bank b).owner = some ch → (s.chan ch).adoption = none)) : s.countCalm b := by
  rcases h with e | e | e | e | ⟨e, cold⟩ | ⟨e, closed⟩
  · exact .of_state (by rw [e]; decide) (by rw [e]; decide) (by rw [e]; decide)
  · exact .of_state (by rw [e]; decide) (by rw [e]; decide) (by rw [e]; decide)
  · exact .of_state (by rw [e]; decide) (by rw [e]; decide) (by rw [e]; decide)
  · exact .of_state (by rw [e]; decide) (by rw [e]; decide) (by rw [e]; decide)
  · exact ⟨fun dark => BankState.noConfusion (e.symm.trans dark), by rw [e]; decide, fun _ => cold⟩
  · exact ⟨fun _ => closed, by rw [e]; decide, fun warm => BankState.noConfusion (e.symm.trans warm)⟩

theorem Tracker.afterBlank_warm {t : Tracker} (h : t.warm = false) (op : BlankOp) : (t.afterBlank op).warm = false := by
  cases op with
  | set => exact h
  | clear =>
    simp only [Tracker.afterBlank]
    split
    · rfl
    · exact h
  | keep => exact h

/-- A step whose set, if it carries one, moves no bank. -/
theorem stepEffects_calm (calm : y.set = none ∨ s.countCalm b) : stepEffects b y s = stepMid b y s := by
  unfold stepEffects
  dsimp only
  rw [stepBase_eq]
  cases hset : y.set with
  | none => rw [stepMid, hset]
  | some m =>
    obtain ⟨dark, run, warming⟩ := calm.resolve_left (by rw [hset]; exact Option.some_ne_none m)
    have mid : applyLampSet b m (stepBase b y s) = stepMid b y s := by rw [stepMid, hset]
    have bank := stepMid_bank_self b y s
    have chan : ∀ ch, (stepMid b y s).chan ch = s.chan ch := fun ch => by
      rw [State.chan, stepMid_channels]
      rfl
    dsimp only
    rw [mid]
    unfold judgeLitFrom
    split
    · rfl
    · refine judgeLit_calm (fun e ch owner => ?_) ?_ fun e => ?_
      · rw [bank] at e owner
        rw [chan]
        exact dark e ch owner
      · rw [bank]
        exact run
      · rw [bank] at e ⊢
        exact Tracker.afterBlank_warm (warming e) y.blank

end StepEffects

end Sys2Proof.Machine

namespace Sys2Proof.Machine
open Sys2Proof

set_option Elab.async false

/-! ### A step that is not the last (06, R102) -/

section NextStep

variable {s t u v : State} {b c : BankId} {y : Machine.Step} {k : ProgKind} {m : Byte} {i : Fin 8} {st d : Nat}

theorem Bank.stepped_program (y : Machine.Step) (now : Nat) (x : Bank) (k : ProgKind) :
    (x.stepped y now).program k = x.program k := by
  cases k <;> rfl

theorem stepEnds_calm (running : (s.bank b).running = some k) (due : s.due (s.bank b).stepTimer = true)
    (hy : y = ((s.bank b).program k).get (s.bank b).stepIdx) (calm : y.set = none ∨ s.countCalm b) :
    stepEnds b s = if y.last ∨ (s.bank b).stepIdx = 7 then endProgram b k (stepMid b y s)
      else nextStep b k ((s.bank b).stepIdx + 1) (stepMid b y s) := by
  have still : ((stepMid b y s).bank b).running = some k := by
    rw [stepMid_bank_self]
    exact running
  rw [stepEnds, if_pos due, running]
  dsimp only
  rw [takeStep]
  rw [← hy, stepEffects_calm calm, if_pos still]

/-- The bank at the next step's delay. -/
def Bank.onStep (k : ProgKind) (i : Fin 8) (now : Nat) (x : Bank) : Bank :=
  { x with stepIdx := i, stepTimer := some (now + 10 * 2 ^ (((x.program k).get i).k)) }

theorem nextStep_mid (k : ProgKind) (i : Fin 8) :
    nextStep b k i (stepMid b y s) = (stepMid b y s).modBank b (Bank.onStep k i s.now) := by
  rw [← (stepMid_moves b y s).ground.now]
  rfl

theorem stepEnds_next (running : (s.bank b).running = some k) (due : s.due (s.bank b).stepTimer = true)
    (hy : y = ((s.bank b).program k).get (s.bank b).stepIdx) (calm : y.set = none ∨ s.countCalm b)
    (goes : y.last = false) (hi : i.1 = (s.bank b).stepIdx.1 + 1) :
    stepEnds b s = (stepMid b y s).modBank b (Bank.onStep k i s.now) := by
  have next : (s.bank b).stepIdx + 1 = i := by
    refine Fin.ext ?_
    rw [Fin.val_add, hi]
    exact Nat.mod_eq_of_lt (hi ▸ i.isLt)
  have inner : ¬ (y.last = true ∨ (s.bank b).stepIdx = 7) := by
    rintro (last | seven)
    · rw [goes] at last
      cases last
    · have := i.isLt
      rw [hi, seven] at this
      exact absurd this (by decide)
  rw [stepEnds_calm running due hy calm, if_neg inner, next, nextStep_mid]

/-! #### Without a lamp set -/

theorem State.atRest.modBank (rest : s.atRest) (b : BankId) (f : Bank → Bank) : (s.modBank b f).atRest :=
  rest.of_eq rfl rfl

theorem stepBase_unfilled (unfilled : (s.bank b).fillsSlot y = false) :
    stepBase b y s = s.modBank b (Bank.stepped y s.now) := by
  unfold stepBase
  rw [unfilled]
  rfl

theorem Bank.fillsSlot_iff (y : Machine.Step) (x : Bank) :
    x.fillsSlot y = true ↔ y.wiper = true ∧ x.wiperStation ≠ none ∧ x.wiperSlot = none := by
  simp [Bank.fillsSlot, Option.isSome_iff_ne_none, and_assoc]

/-- A START that fills its slot alone tries the south queue (08, R144). -/
theorem endEvent_start (due : v.alertsDue = []) (made : v.slotsMade = [wiperPos b]) (slot : (v.bank b).wiperSlot = some st) :
    endEvent v = if v.directEntry .south then
        (pushFrame .south ⟨v.ownFrame st 0x04 [1], true, false⟩ { v with slotsMade := [] }).modBank b fun x =>
          { x with wiperSlot := none }
      else { v with slotsMade := [] } := by
  have flushed : flushAlerts v = v := by
    unfold flushAlerts
    rw [due]
    show { v with alertsDue := [] } = v
    rw [← due]
  rw [endEvent, flushed, flushSlots, made]
  show tryDirect (wiperPos b) { v with slotsMade := [] } = _
  have frame : ({ v with slotsMade := [] } : State).slotFrame (wiperPos b) = some (v.ownFrame st 0x04 [1]) := by
    unfold State.slotFrame
    rw [slotOwner_wiperPos]
    show ((v.bank b).wiperSlot).map _ = _
    rw [slot]
    rfl
  unfold tryDirect
  refine if_congr Iff.rfl ?_ rfl
  unfold enterSouth clearSlot
  rw [frame, slotOwner_wiperPos]

theorem State.directEntry_iff (s : State) :
    s.directEntry .south = true ↔ s.repeater = false ∧ s.south.queue.length < 16 ∧ s.south.ownCount < 8 := by
  unfold State.directEntry
  rw [Bool.and_eq_true, Bool.not_eq_true', PortState.ownRoom_iff]
  rfl

/-- A step of no set and no START (06, R102). -/
theorem stepEnds_plain (rest : s.atRest) (running : (s.bank b).running = some k)
    (due : s.due (s.bank b).stepTimer = true) (hy : y = ((s.bank b).program k).get (s.bank b).stepIdx)
    (noSet : y.set = none) (noStart : y.wiper = false ∨ (s.bank b).wiperStation = none) (goes : y.last = false)
    (hi : i.1 = (s.bank b).stepIdx.1 + 1) : endEvent (stepEnds b s) = s.modBank b fun x => { x with
      stepIdx := i
      stepTimer := some (s.now + 10 * 2 ^ ((x.program k).get i).k)
      tracker := x.tracker.afterBlank y.blank } := by
  have still : ¬ (y.wiper = true ∧ (s.bank b).wiperStation ≠ none) := by
    rintro ⟨wiper, station⟩
    rcases noStart with off | none
    · rw [off] at wiper
      cases wiper
    · exact station none
  have unfilled : (s.bank b).fillsSlot y = false :=
    Bool.eq_false_iff.mpr fun fills => still (((s.bank b).fillsSlot_iff y).mp fills |>.imp_right And.left)
  have mid : stepMid b y s = s.modBank b (Bank.stepped y s.now) := by
    rw [stepMid, noSet]
    exact stepBase_unfilled unfilled
  rw [stepEnds_next running due hy (.inl noSet) goes hi, mid, State.modBank_modBank,
    endEvent_atRest (rest.modBank b _)]
  refine modBank_congr ?_
  rw [Bank.onStep, Bank.stepped_program]
  simp only [Bank.stepped, if_neg still]

/-- What a START does to the bank besides its slot (06, R112). -/
def Bank.startedStep (k : ProgKind) (i : Fin 8) (y : Machine.Step) (now : Nat) (slot : Option Nat) (x : Bank) : Bank :=
  { x with
    stepIdx := i
    stepTimer := some (now + 10 * 2 ^ ((x.program k).get i).k)
    tracker := x.tracker.afterBlank y.blank
    supervision := .started
    wipeLimit := some (now + 1000 * x.get .wipeLimit)
    wiperSlot := slot }

/-- A step with a START alone, from rest (06, R111; 08, R144). -/
theorem stepEnds_started (rest : s.atRest) (running : (s.bank b).running = some k)
    (due : s.due (s.bank b).stepTimer = true) (hy : y = ((s.bank b).program k).get (s.bank b).stepIdx)
    (noSet : y.set = none) (starts : y.wiper = true) (station : (s.bank b).wiperStation = some st)
    (goes : y.last = false) (hi : i.1 = (s.bank b).stepIdx.1 + 1) :
    endEvent (stepEnds b s) =
      if (s.bank b).wiperSlot = none ∧ s.directEntry .south = true then
        (pushFrame .south ⟨s.ownFrame st 0x04 [1], true, false⟩ s).modBank b (Bank.startedStep k i y s.now none)
      else s.modBank b (Bank.startedStep k i y s.now (some st)) := by
  have there : y.wiper = true ∧ (s.bank b).wiperStation ≠ none := ⟨starts, by rw [station]; exact Option.some_ne_none st⟩
  have bank : Bank.onStep k i s.now ((s.bank b).stepped y s.now) = (s.bank b).startedStep k i y s.now (some st) := by
    rw [Bank.onStep, Bank.stepped_program]
    simp only [Bank.stepped, Bank.startedStep, if_pos there]
    rw [station]
  have run : stepEnds b s = (stepBase b y s).modBank b (Bank.onStep k i s.now) := by
    rw [stepEnds_next running due hy (.inl noSet) goes hi, stepMid, noSet]
  have banks : (s.modBank b (Bank.stepped y s.now)).modBank b (Bank.onStep k i s.now) =
      s.modBank b (Bank.startedStep k i y s.now (some st)) := by
    rw [State.modBank_modBank]
    exact modBank_congr bank
  by_cases empty : (s.bank b).wiperSlot = none
  · have fills : (s.bank b).fillsSlot y = true := ((s.bank b).fillsSlot_iff y).mpr ⟨starts, there.2, empty⟩
    have base : stepEnds b s = { s.modBank b (Bank.startedStep k i y s.now (some st)) with
        slotsMade := [wiperPos b] } := by
      rw [run, ← banks]
      unfold stepBase
      rw [fills, if_pos rfl, rest.2]
      rfl
    have emptied : { s.modBank b (Bank.startedStep k i y s.now (some st)) with slotsMade := [] } =
        s.modBank b (Bank.startedStep k i y s.now (some st)) := by
      rw [← rest.2]
      rfl
    have slot : ((stepEnds b s).bank b).wiperSlot = some st := by
      rw [base]
      exact congrArg Bank.wiperSlot (State.modBank_bank_self s b (Bank.startedStep k i y s.now (some st)))
    rw [endEvent_start (by rw [base]; exact rest.1) (by rw [base]) slot, base]
    refine if_congr ?_ ?_ ?_
    · exact (and_iff_right empty).symm
    · show (pushFrame .south ⟨s.ownFrame st 0x04 [1], true, false⟩
          { s.modBank b (Bank.startedStep k i y s.now (some st)) with slotsMade := [] }).modBank b
            (fun x => { x with wiperSlot := none }) = _
      rw [emptied]
      show ((pushFrame .south ⟨s.ownFrame st 0x04 [1], true, false⟩ s).modBank b
        (Bank.startedStep k i y s.now (some st))).modBank b (fun x => { x with wiperSlot := none }) = _
      rw [State.modBank_modBank]
      rfl
    · exact emptied
  · have unfilled : (s.bank b).fillsSlot y = false :=
      Bool.eq_false_iff.mpr fun fills => empty (((s.bank b).fillsSlot_iff y).mp fills).2.2
    rw [if_neg fun h => empty h.1, run, stepBase_unfilled unfilled, banks, endEvent_atRest (rest.modBank b _)]

end NextStep

end Sys2Proof.Machine

namespace Sys2Proof.Machine
open Sys2Proof

set_option Elab.async false

/-! ### The end of a step's event: the lamps, the wiper slot and the program's end (06, R103, R104, R108) -/

section StepEvent

variable {s t u v : State} {b c : BankId} {y : Machine.Step} {k : ProgKind} {m : Byte} {i : Fin 8} {st d : Nat}
  {l : LampId} {x : Lamp}

/-! #### The lamps -/

theorem stepBase_quiet (rest : s.atRest) (k : LampId) : lampPos k ∉ (stepBase b y s).slotsMade := fun made =>
  wiperPos_ne_lampPos b k ((mem_stepBase_slots rest).mp made).1.symm

/-- The lamps of the bank take the set, the others stay. -/
theorem stepLamps (rest : s.atRest) (moves : s.moves v) (spared : (stepMid b y s).sparesLamps v)
    (hset : y.set = some m) (hx : s.lamp l = some x) :
    (x.bank ≠ b → (endEvent v).lamp l = some x) ∧
      (x.bank = b → ∃ z, (endEvent v).lamp l = some z ∧ s.flagBecame (endEvent v) (m.getLsbD x.slot) x z) := by
  have acted := (stepMid_acted b y s).still spared.lamps spared.slots
  have sound := (State.notesSound.atRest rest).moves moves
  have turn : s.stepLamp b y x = if x.bank = b then s.flagged (m.getLsbD x.slot) x else x := by
    rw [State.stepLamp, hset]
  refine ⟨fun other => ?_, fun here => ?_⟩
  · exact acted.stays (stepBase_quiet rest) sound moves.ground hx (turn.trans (if_neg other)) rfl
  · exact acted.flag (stepBase_quiet rest) sound moves.ground hx (turn.trans (if_pos here))

/-- Without a set no lamp moves. -/
theorem stepLamps_none (rest : s.atRest) (moves : s.moves v) (spared : (stepMid b y s).sparesLamps v)
    (hset : y.set = none) : (endEvent v).lamps = s.lamps := by
  have sound := (State.notesSound.atRest rest).moves moves
  have mid : stepMid b y s = stepBase b y s := by rw [stepMid, hset]
  have slots : v.slotsMade = (stepBase b y s).slotsMade := by rw [spared.slots, mid]
  have lamps : v.lamps = s.lamps := by
    rw [spared.lamps, mid]
    rfl
  refine vector_ext_get fun k => ?_
  rcases (endEvent_ends sound).lamp k with ⟨kept, _⟩ | ⟨_, _, _, _, _, _, made⟩
  · exact kept.trans (congrArg (fun w => w.get k) lamps)
  · rw [slots] at made
    exact absurd made (stepBase_quiet rest k)

/-! #### The wiper slot -/

/-- Where a START put its frame (06, R111). -/
theorem stepWiper (rest : s.atRest) (moves : s.moves v) (spared : (stepMid b y s).sparesLamps v)
    (side : (v.bank b).wiperSlot = ((s.bank b).stepped y s.now).wiperSlot) :
    s.wiperPlaced (endEvent v) b y.wiper ((endEvent v).bank b).wiperSlot := by
  have sound := (State.notesSound.atRest rest).moves moves
  have made : wiperPos b ∈ v.slotsMade ↔ (s.bank b).fillsSlot y = true := by
    rw [spared.slots, mem_stepMid_wiper rest]
    exact and_iff_right rfl
  cases wiper : y.wiper with
  | false =>
    have quiet : wiperPos b ∉ v.slotsMade := fun filled => by
      have starts := (((s.bank b).fillsSlot_iff y).mp (made.mp filled)).1
      rw [wiper] at starts
      cases starts
    show ((endEvent v).bank b).wiperSlot = (s.bank b).wiperSlot
    rw [endEvent_bank_quiet sound quiet, side, Bank.stepped, if_neg fun h => by rw [wiper] at h; cases h.1]
  | true =>
    cases station : (s.bank b).wiperStation with
    | none =>
      have quiet : wiperPos b ∉ v.slotsMade := fun filled =>
        (((s.bank b).fillsSlot_iff y).mp (made.mp filled)).2.1 station
      unfold State.wiperPlaced
      rw [station]
      show ((endEvent v).bank b).wiperSlot = (s.bank b).wiperSlot
      rw [endEvent_bank_quiet sound quiet, side, Bank.stepped, if_neg fun h => h.2 station]
    | some st =>
      have there : y.wiper = true ∧ (s.bank b).wiperStation ≠ none :=
        ⟨wiper, by rw [station]; exact Option.some_ne_none st⟩
      refine wiperPlaced_started sound station ?_ (made.trans (((s.bank b).fillsSlot_iff y).trans ?_)) moves.ground
      · rw [side, Bank.stepped, if_pos there, station]
      · exact ⟨fun h => h.2.2, fun empty => ⟨wiper, there.2, empty⟩⟩

/-! #### The program's end (06, R104, R108) -/

/-- The bank as its program ends. -/
def Bank.ended (x : Bank) : Bank := { x with running := none, stepTimer := none, tracker := x.tracker.clearBlank }

theorem Bank.ended_record (x : Bank) : x.ended.record = x.record := by simp [Bank.record, Bank.ended]

theorem endProgram_strike (b : BankId) (u : State) :
    endProgram b .strike u = reviewOwner b (enterWarming b (u.modBank b Bank.ended)) := rfl

theorem endProgram_quench (b : BankId) (u : State) : endProgram b .quench u = darkBank b (u.modBank b Bank.ended) := rfl

theorem endProgram_wipe (b : BankId) (u : State) : endProgram b .wipe u = wipeEnds b (u.modBank b Bank.ended) := rfl

theorem Tracker.clearBlank_blank (t : Tracker) : t.clearBlank.blank = false := by
  rw [Tracker.clearBlank_eq]
  split
  · rfl
  · next h => exact Bool.eq_false_iff.mpr h

theorem wipeEnds_sparesLamps (b : BankId) (u : State) : u.sparesLamps (wipeEnds b u) := by
  unfold wipeEnds
  dsimp only
  split
  · split
    · unfold startWipe
      split <;> exact ⟨rfl, rfl⟩
    · exact ⟨rfl, rfl⟩
  · exact ⟨rfl, rfl⟩

theorem endProgram_sparesLamps (b : BankId) (k : ProgKind) (u : State) : u.sparesLamps (endProgram b k u) := by
  have ended : u.sparesLamps (u.modBank b Bank.ended) := ⟨rfl, rfl⟩
  cases k with
  | strike => exact ((ended.setBankState b .warming).bank b _).reviewOwner b
  | quench => exact ended.darkBank b
  | wipe => exact ended.trans (wipeEnds_sparesLamps b _)

theorem reviewOwner_keeps {P : Bank → Prop} (up : ∀ x now, P x → P (x.struck now))
    (down : ∀ s : State, P (s.bank b) → P ((enterQuenching b s).bank b)) (h : P (u.bank b)) :
    P ((reviewOwner b u).bank b) := by
  unfold reviewOwner
  split
  · exact (bank_keeps b _ up down).review (fun _ _ => trivial) h
  · exact h

/-- What supervision and the wiper slot hold. -/
def Bank.wiperSide (x : Bank) : Supervision × Timer × Option Nat := (x.supervision, x.wipeLimit, x.wiperSlot)

theorem reviewOwner_wiperSide (b : BankId) (u : State) :
    ((reviewOwner b u).bank b).wiperSide = (u.bank b).wiperSide := by
  refine reviewOwner_keeps (P := fun x => x.wiperSide = (u.bank b).wiperSide) (fun _ _ h => h) (fun s h => ?_) rfl
  rw [enterQuenching_bank, Bank.entered]
  split <;> exact h

theorem Bank.entered_wiperSide (st : BankState) (x : Bank) : (x.entered st).wiperSide = x.wiperSide := by
  unfold Bank.entered
  split <;> rfl

theorem enterWarming_bank (b : BankId) (u : State) : (enterWarming b u).bank b =
    { (u.bank b).entered .warming with warmTimer := some (u.now + 1000 * (u.bank b).get .warmLimit) } := by
  have limit : ((u.bank b).entered .warming).get .warmLimit = (u.bank b).get .warmLimit :=
    congrArg (fun r : Bank.Record => r.settings.get BankSetting.warmLimit.idx) (Bank.entered_record .warming (u.bank b))
  rw [enterWarming, State.modBank_bank_self, setBankState_bank_self, limit]
  rfl

theorem startWipe_bank (b : BankId) (u : State) :
    ((startWipe b u).bank b).state = (u.bank b).state ∧ ((startWipe b u).bank b).tracker = (u.bank b).tracker ∧
      ((startWipe b u).bank b).wipeDue = (u.bank b).wipeDue ∧ ((startWipe b u).bank b).running = some .wipe ∧
      ((startWipe b u).bank b).wiperSide = (u.bank b).wiperSide := by
  unfold startWipe
  dsimp only
  split
  · rw [startInterval, startProgram, State.modBank_modBank, State.modBank_bank_self]
    split <;> exact ⟨rfl, rfl, rfl, rfl, rfl⟩
  · rw [startProgram, State.modBank_bank_self]
    exact ⟨rfl, rfl, rfl, rfl, rfl⟩

/-- A WIPE's end leaves the bank in RUN with reseed pending and the due wipe started, or elsewhere as it is (06, R104,
R108). -/
theorem wipeEnds_run (run : (u.bank b).state = .run) :
    ((wipeEnds b u).bank b).state = .run ∧
      ((wipeEnds b u).bank b).tracker = { (u.bank b).tracker with reseed := true } ∧
      ((wipeEnds b u).bank b).wipeDue = false ∧
      ((wipeEnds b u).bank b).running = (if (u.bank b).wipeDue = true then some .wipe else (u.bank b).running) ∧
      ((wipeEnds b u).bank b).wiperSide = (u.bank b).wiperSide := by
  unfold wipeEnds
  dsimp only
  rw [if_pos run]
  split
  · obtain ⟨state, tracker, due, running, side⟩ := startWipe_bank b (u.modBank b fun x =>
      { x.setTracker (fun t => { t with reseed := true }) with wipeDue := false })
    rw [state, tracker, due, running, side, State.modBank_bank_self]
    exact ⟨run, rfl, rfl, rfl, rfl⟩
  · rw [State.modBank_bank_self]
    exact ⟨run, rfl, rfl, rfl, rfl⟩

theorem wipeEnds_other (other : (u.bank b).state ≠ .run) :
    (wipeEnds b u).bank b = { u.bank b with wipeDue := false } := by
  unfold wipeEnds
  dsimp only
  rw [if_neg other, State.modBank_bank_self]

theorem endProgram_wiperSide (b : BankId) (k : ProgKind) (u : State) :
    ((endProgram b k u).bank b).wiperSide = (u.bank b).wiperSide := by
  have ended : ((u.modBank b Bank.ended).bank b).wiperSide = (u.bank b).wiperSide := by
    rw [State.modBank_bank_self]
    rfl
  rw [← ended]
  cases k with
  | strike =>
    rw [endProgram_strike, reviewOwner_wiperSide, enterWarming_bank]
    exact Bank.entered_wiperSide .warming _
  | quench =>
    rw [endProgram_quench, darkBank, reviewOwner_wiperSide, enterDark_bank]
    exact Bank.entered_wiperSide .dark _
  | wipe =>
    rw [endProgram_wipe]
    by_cases run : ((u.modBank b Bank.ended).bank b).state = .run
    · obtain ⟨_, _, _, _, side⟩ := wipeEnds_run run
      exact side
    · rw [wipeEnds_other run]
      rfl

theorem Tracker.onState_blank (t : Tracker) (a c : BankState) : (t.onState a c).blank = t.blank := by
  simp only [Tracker.onState, apply_ite Tracker.blank, ite_self]

theorem Bank.entered_blank (st : BankState) (x : Bank) : (x.entered st).tracker.blank = x.tracker.blank := by
  unfold Bank.entered
  split
  · rfl
  · exact Tracker.onState_blank _ _ _

/-- A review leaves no blank where there is none (06, R105). -/
theorem reviewOwner_blank (h : (u.bank b).tracker.blank = false) : ((reviewOwner b u).bank b).tracker.blank = false := by
  refine reviewOwner_keeps (P := fun x => x.tracker.blank = false) (fun x now _ => ?_) (fun s _ => ?_) h
  · exact Tracker.clearBlank_blank x.tracker
  · rw [enterQuenching_bank]
    exact Tracker.clearBlank_blank _

/-- STRIKE ends: WARMING, or QUENCHING by the review (05, R95, R92; 06, R104). -/
theorem endProgram_strike_bank (striking : (u.bank b).state = .striking) :
    (((endProgram b .strike u).bank b).state = .warming ∨ ((endProgram b .strike u).bank b).state = .quenching) ∧
      ((endProgram b .strike u).bank b).tracker.blank = false ∧
      (((endProgram b .strike u).bank b).state = .warming →
        ((endProgram b .strike u).bank b).running = none ∧ ((endProgram b .strike u).bank b).stepTimer = none ∧
          ((endProgram b .strike u).bank b).tracker.warm = false ∧
          ((endProgram b .strike u).bank b).warmTimer = some (u.now + 1000 * (u.bank b).get .warmLimit)) := by
  have bank := enterWarming_bank b (u.modBank b Bank.ended)
  rw [State.modBank_bank_self, Bank.entered,
    if_neg (show ¬ (u.bank b).ended.state = .warming by rw [show (u.bank b).ended.state = _ from striking]; decide)] at bank
  have state : ((enterWarming b (u.modBank b Bank.ended)).bank b).state = .warming := by rw [bank]
  have blank : ((enterWarming b (u.modBank b Bank.ended)).bank b).tracker.blank = false := by
    rw [bank]
    exact (Tracker.onState_blank _ _ _).trans (Tracker.clearBlank_blank _)
  have burns : (enterWarming b (u.modBank b Bank.ended)).burnsOn (endProgram b .strike u) b := by
    rw [endProgram_strike]
    unfold reviewOwner
    split
    · exact (State.burnsOn.refl _ b).review (by rw [state]; decide) _
    · exact .refl _ b
  refine ⟨?_, reviewOwner_blank blank, fun warming => ?_⟩
  · rcases burns with ⟨same, _⟩ | ⟨quenching, _⟩
    · exact .inl (by rw [same, state])
    · exact .inr quenching
  · rcases burns with ⟨same, _⟩ | ⟨quenching, _⟩
    · rw [same, bank]
      refine ⟨rfl, rfl, ?_, rfl⟩
      simp [Tracker.onState]
    · rw [quenching] at warming
      cases warming

/-- QUENCH ends: DARK, or STRIKING by the review (05, R88, R91, R95; 06, R104). -/
theorem endProgram_quench_bank (quenching : (u.bank b).state = .quenching) (off : ∀ c, b ∉ (u.chan c).startList) :
    (((endProgram b .quench u).bank b).state = .dark ∨ ((endProgram b .quench u).bank b).state = .striking) ∧
      ((endProgram b .quench u).bank b).tracker.blank = false ∧
      (((endProgram b .quench u).bank b).state = .dark →
        ((endProgram b .quench u).bank b).running = none ∧ ((endProgram b .quench u).bank b).stepTimer = none) := by
  have own : (u.modBank b Bank.ended).bank b = (u.bank b).ended := State.modBank_bank_self _ _ _
  have bank : (enterDark b (u.modBank b Bank.ended)).bank b = { (u.bank b).ended.entered .dark with faultTimer := none } := by
    rw [enterDark_bank, own]
  have stopped : ((u.bank b).ended.entered .dark).running = none ∧ ((u.bank b).ended.entered .dark).stepTimer = none := by
    unfold Bank.entered
    split <;> exact ⟨rfl, rfl⟩
  have lit : ((u.modBank b Bank.ended).bank b).state ≠ .dark := by
    rw [own, show (u.bank b).ended.state = _ from quenching]
    decide
  rw [endProgram_quench]
  refine ⟨?_, reviewOwner_blank ?_, ?_⟩
  · have rested : ∃ ch, (darkBank b (u.modBank b Bank.ended)).Rested ch b := darkBank_rests lit off
    obtain ⟨ch, rested⟩ := rested
    exact rested.place.imp And.left And.left
  · rw [bank]
    exact (Bank.entered_blank .dark _).trans (Tracker.clearBlank_blank _)
  · refine reviewOwner_keeps (P := fun x => x.state = .dark → x.running = none ∧ x.stepTimer = none)
      (fun x now _ dark => ?_) (fun s _ dark => ?_) fun _ => ?_
    · exact BankState.noConfusion dark
    · rw [(enterQuenching_bank_self b s).1] at dark
      cases dark
    · rw [bank]
      exact stopped

end StepEvent

end Sys2Proof.Machine

namespace Sys2Proof.Machine
open Sys2Proof

set_option Elab.async false

/-! ### The last step, and a step with a set (06, R103, R104) -/

section LastStep

variable {s v : State} {b c : BankId} {y : Machine.Step} {k : ProgKind} {m : Byte} {i : Fin 8} {st : Nat}

theorem stepEnds_last (running : (s.bank b).running = some k) (due : s.due (s.bank b).stepTimer = true)
    (hy : y = ((s.bank b).program k).get (s.bank b).stepIdx) (calm : y.set = none ∨ s.countCalm b)
    (last : y.last = true ∨ (s.bank b).stepIdx = 7) : stepEnds b s = endProgram b k (stepMid b y s) := by
  rw [stepEnds_calm running due hy calm, if_pos last]

theorem stepEnds_sparesLamps (running : (s.bank b).running = some k) (due : s.due (s.bank b).stepTimer = true)
    (hy : y = ((s.bank b).program k).get (s.bank b).stepIdx) (calm : y.set = none ∨ s.countCalm b) :
    (stepMid b y s).sparesLamps (stepEnds b s) := by
  rw [stepEnds_calm running due hy calm]
  split
  · exact endProgram_sparesLamps b k _
  · exact ⟨rfl, rfl⟩

/-- A step with a set, before the last (06, R103). -/
theorem stepEnds_set (rest : s.atRest) (running : (s.bank b).running = some k)
    (due : s.due (s.bank b).stepTimer = true) (hy : y = ((s.bank b).program k).get (s.bank b).stepIdx)
    (calm : s.countCalm b) (goes : y.last = false) (hi : i.1 = (s.bank b).stepIdx.1 + 1) :
    (endEvent (stepEnds b s)).channels = s.channels ∧ (∀ c, c ≠ b → (endEvent (stepEnds b s)).bank c = s.bank c) ∧
      s.wiperPlaced (endEvent (stepEnds b s)) b y.wiper ((endEvent (stepEnds b s)).bank b).wiperSlot ∧
      (endEvent (stepEnds b s)).bank b = { Bank.onStep k i s.now ((s.bank b).stepped y s.now) with
        wiperSlot := ((endEvent (stepEnds b s)).bank b).wiperSlot } := by
  have moves : s.moves (stepEnds b s) := State.moves.refl.stepEnds b
  have sound := (State.notesSound.atRest rest).moves moves
  have spared := stepEnds_sparesLamps running due hy (.inr calm)
  have next := stepEnds_next running due hy (.inr calm) goes hi
  have bank : (stepEnds b s).bank b = Bank.onStep k i s.now ((s.bank b).stepped y s.now) := by
    rw [next, State.modBank_bank_self, stepMid_bank_self]
  refine ⟨?_, fun c hc => ?_, ?_, ?_⟩
  · obtain ⟨_, _, _, _, _, e⟩ := (endEvent_ends sound).frame
    rw [e, next]
    exact stepMid_channels b y s
  · have quiet : wiperPos c ∉ (stepEnds b s).slotsMade := by
      rw [spared.slots, mem_stepMid_wiper rest]
      exact fun made => hc made.1
    rw [endEvent_bank_quiet sound quiet, next, State.modBank_bank, if_neg hc, stepMid_bank, if_neg hc]
  · exact stepWiper rest moves spared (by rw [bank]; rfl)
  · rcases (endEvent_ends sound).bank b with same | emptied
    · rw [same, bank]
    · rw [emptied, bank]

end LastStep

/-- Settles O58: the effects of a step in a bank that no lit count moves are one update of the bank and one turn of each
of its lamps; then the next delay or the program's end follows, whose review leaves what the step did. -/
theorem stepTimerTakesTheStep : Obligations.StepTimerTakesTheStep := by
  intro b k d y s rest sound running timer hd hy
  have due : s.due (s.bank b).stepTimer = true := (s.due_iff _).mpr ⟨d, timer, hd⟩
  have row : exec (.stepTimerExpiry b) s = .next (endEvent (stepEnds b s)) := rfl
  have moves : s.moves (stepEnds b s) := State.moves.refl.stepEnds b
  have ends := endEvent_ends ((State.notesSound.atRest rest).moves moves)
  refine ⟨fun noSet noStart goes i hi => ?_, fun noSet starts goes st station i hi => ?_, fun m hset cases' => ?_,
    fun last => ?_⟩
  · rw [row, stepEnds_plain rest running due hy noSet noStart goes hi]
  · have run := stepEnds_started rest running due hy noSet starts station goes hi
    rw [row, run]
    by_cases enters : (s.bank b).wiperSlot = none ∧ s.directEntry .south = true
    · rw [if_pos enters]
      obtain ⟨empty, direct⟩ := enters
      obtain ⟨normal, room, own⟩ := s.directEntry_iff.mp direct
      refine ⟨_, none, rfl, rfl, fun c hc => ?_, ?_, fun _ _ _ _ => ⟨rfl, rfl⟩, fun closed => ?_⟩
      · rw [State.modBank_bank, if_neg hc]
        rfl
      · rw [State.modBank_bank_self]
        rfl
      · rcases closed with full | repeats | long | owned
        · exact absurd empty full
        · rw [normal] at repeats
          cases repeats
        · omega
        · omega
    · rw [if_neg enters]
      refine ⟨_, some st, rfl, rfl, fun c hc => ?_, ?_, fun empty normal room own => ?_, fun _ => ⟨rfl, rfl⟩⟩
      · rw [State.modBank_bank, if_neg hc]
      · rw [State.modBank_bank_self]
        rfl
      · exact absurd ⟨empty, s.directEntry_iff.mpr ⟨normal, room, own⟩⟩ enters
  · have calm := State.countCalm.of_cases cases'
    have spared := stepEnds_sparesLamps running due hy (.inr calm)
    refine ⟨_, row, moves.sameBase rest, fun goes i hi => ?_, fun l x hx => stepLamps rest moves spared hset hx⟩
    obtain ⟨channels, others, wiper, bank⟩ := stepEnds_set rest running due hy calm goes hi
    refine ⟨channels, others, wiper, bank.trans ?_⟩
    rw [Bank.onStep, Bank.stepped_program]
    rfl
  · refine ⟨_, row, moves.sameBase rest, fun noSet => ?_, fun starts st station quiet striking quenching => ?_,
      fun hk striking => ?_, fun hk quenching => ?_, fun hk noSet run => ?_, fun hk noSet other => ?_⟩
    · exact stepLamps_none rest moves (stepEnds_sparesLamps running due hy (.inl noSet)) noSet
    · have calm : y.set = none ∨ s.countCalm b := by
        refine quiet.imp_right fun notWipe => ?_
        cases k with
        | strike =>
          have e := striking rfl
          exact .of_state (by rw [e]; decide) (by rw [e]; decide) (by rw [e]; decide)
        | quench =>
          have e := quenching rfl
          exact .of_state (by rw [e]; decide) (by rw [e]; decide) (by rw [e]; decide)
        | wipe => exact absurd rfl notWipe
      have there : y.wiper = true ∧ (s.bank b).wiperStation ≠ none :=
        ⟨starts, by rw [station]; exact Option.some_ne_none st⟩
      have side : ((stepEnds b s).bank b).wiperSide = ((s.bank b).stepped y s.now).wiperSide := by
        rw [stepEnds_last running due hy calm last, endProgram_wiperSide, stepMid_bank_self]
      obtain ⟨started, limit, slot⟩ : ((stepEnds b s).bank b).supervision = ((s.bank b).stepped y s.now).supervision ∧
          ((stepEnds b s).bank b).wipeLimit = ((s.bank b).stepped y s.now).wipeLimit ∧
          ((stepEnds b s).bank b).wiperSlot = ((s.bank b).stepped y s.now).wiperSlot := by
        simpa [Bank.wiperSide] using side
      have placed := stepWiper rest moves (stepEnds_sparesLamps running due hy calm) slot
      rw [starts] at placed
      refine ⟨?_, placed, ?_⟩
      · rw [ends.bankKeeps Bank.supervision, started]
        exact if_pos there
      · rw [ends.bankKeeps Bank.wipeLimit, limit]
        exact if_pos there
    · have calm : s.countCalm b := .of_state (by rw [striking]; decide) (by rw [striking]; decide) (by rw [striking]; decide)
      have run := stepEnds_last running due hy (.inr calm) last
      have state : ((stepMid b y s).bank b).state = .striking := by
        rw [stepMid_bank_self]
        exact striking
      have limit : ((stepMid b y s).bank b).get .warmLimit = (s.bank b).get .warmLimit :=
        (stepMid_moves b y s).bankGet b .warmLimit
      obtain ⟨warms, blank, inWarming⟩ := endProgram_strike_bank state
      rw [limit, (stepMid_moves b y s).ground.now] at inWarming
      rw [hk] at run
      rw [← run] at warms blank inWarming
      rw [ends.bankKeeps Bank.state, ends.bankKeeps Bank.tracker, ends.bankKeeps Bank.running,
        ends.bankKeeps Bank.stepTimer, ends.bankKeeps Bank.warmTimer]
      exact ⟨warms, blank, inWarming⟩
    · have calm : s.countCalm b :=
        .of_state (by rw [quenching]; decide) (by rw [quenching]; decide) (by rw [quenching]; decide)
      have run := stepEnds_last running due hy (.inr calm) last
      have state : ((stepMid b y s).bank b).state = .quenching := by
        rw [stepMid_bank_self]
        exact quenching
      have off : ∀ c, b ∉ ((stepMid b y s).chan c).startList := fun c => by
        rw [State.chan, stepMid_channels]
        exact sound.off (by rw [quenching]; decide) (by rw [quenching]; decide) (by rw [quenching]; decide) c
      have ended := endProgram_quench_bank state off
      rw [hk] at run
      rw [← run] at ended
      rw [ends.bankKeeps Bank.state, ends.bankKeeps Bank.tracker, ends.bankKeeps Bank.running,
        ends.bankKeeps Bank.stepTimer]
      exact ended
    · have ended := stepEnds_last running due hy (.inl noSet) last
      have own : ((stepMid b y s).modBank b Bank.ended).bank b = ((s.bank b).stepped y s.now).ended := by
        rw [State.modBank_bank_self, stepMid_bank_self]
      obtain ⟨state, tracker, noDue, wipes, _⟩ := wipeEnds_run (b := b) (u := (stepMid b y s).modBank b Bank.ended)
        (by rw [own]; exact run)
      rw [own] at tracker wipes
      rw [hk, endProgram_wipe] at ended
      rw [ends.bankKeeps Bank.state, ends.bankKeeps Bank.tracker, ends.bankKeeps Bank.running,
        ends.bankKeeps Bank.wipeDue, ended, tracker]
      exact ⟨state, Tracker.clearBlank_blank _, rfl, noDue, wipes⟩
    · have ended := stepEnds_last running due hy (.inl noSet) last
      have own : ((stepMid b y s).modBank b Bank.ended).bank b = ((s.bank b).stepped y s.now).ended := by
        rw [State.modBank_bank_self, stepMid_bank_self]
      have bank := wipeEnds_other (b := b) (u := (stepMid b y s).modBank b Bank.ended) (by rw [own]; exact other)
      rw [own] at bank
      rw [hk, endProgram_wipe] at ended
      rw [ends.bankKeeps Bank.state, ends.bankKeeps Bank.tracker, ends.bankKeeps Bank.running,
        ends.bankKeeps Bank.wipeDue, ended, bank]
      exact ⟨rfl, Tracker.clearBlank_blank _, rfl, rfl⟩

end Sys2Proof.Machine

namespace Sys2Proof.Machine
open Sys2Proof

set_option Elab.async false

/-! ### A LAMP_STATUS is tapped and goes on (07, R127; 08, R138, R139) -/

section Onward

variable {s u v t : State} {l m : LampId} {x y : Lamp} {c : LampCmd} {f : Frame} {dst src code : Byte}

theorem kindLampStatus_ne_kindRequest : kindLampStatus ≠ kindRequest := by decide

theorem kindLampStatus_ne_kindSample : kindLampStatus ≠ kindSample := by decide

/-- A LAMP_STATUS that reaches the south port in normal operation is tapped and goes on. -/
theorem exec_lampStatusFrame (hn : s.normal) : exec (.lampStatusFrame dst src [code]) s =
    .next (passOn .south ⟨dst, src, 0x02, [code]⟩ (endEvent (tapStatus (stationOf src) [code] s))) := by
  have good : receiveFrame .south ⟨dst, src, kindLampStatus, [code]⟩ s =
      southStatus ⟨dst, src, kindLampStatus, [code]⟩ s :=
    calc receiveFrame .south ⟨dst, src, kindLampStatus, [code]⟩ s
        = receiveGood .south ⟨dst, src, kindLampStatus, [code]⟩ s :=
          if_pos (show ([code] : List Byte).length ≤ 48 from Nat.le_of_ble_eq_true rfl)
      _ = fromSouth ⟨dst, src, kindLampStatus, [code]⟩ s := by
        unfold receiveGood
        rw [State.normal_repeater hn, if_neg (fun h => absurd h Bool.false_ne_true),
          if_neg fun h => kindLampStatus_ne_kindRequest h.2]
      _ = southStatus ⟨dst, src, kindLampStatus, [code]⟩ s := by
        unfold fromSouth
        rw [if_neg kindLampStatus_ne_kindSample, if_pos rfl]
  have row : exec (.lampStatusFrame dst src [code]) s =
      .next (receiveFrame .south ⟨dst, src, kindLampStatus, [code]⟩ s) := rfl
  rw [row, good]
  rfl

/-- The lamp of the status's station (07, R127). -/
theorem State.lampOfStation_none {n : Nat} (h : ∀ m y, s.lamp m = some y → y.station ≠ n) :
    s.lampOfStation n = none := by
  refine List.find?_eq_none.mpr fun m _ => ?_
  cases hm : s.lamp m with
  | none => simp
  | some y => simpa using h m y hm

theorem State.lampOfStation_some {n : Nat} (hx : s.lamp l = some x) (station : x.station = n)
    (alone : ∀ m y, s.lamp m = some y → y.station = x.station → m = l) : s.lampOfStation n = some l := by
  have found : (s.lampOfStation n).isSome := by
    rw [State.lampOfStation, List.find?_isSome]
    exact ⟨l, List.mem_finRange l, by rw [hx]; simp [station]⟩
  obtain ⟨m, hm⟩ := Option.isSome_iff_exists.mp found
  have holds := List.find?_some hm
  cases hy : s.lamp m with
  | none => rw [hy] at holds; cases holds
  | some y =>
    rw [hy] at holds
    rw [hm, alone m y hy ((of_decide_eq_true holds).trans station.symm)]

/-! #### What goes on behind an event that moved one lamp and the south port (08, R143) -/

theorem lampAndFrame_of (u : State) (moved : { u with lamps := s.lamps, south := s.south } = s)
    (others : ∀ m, m ≠ l → u.lamp m = s.lamp m) (rest : u.atRest) (away : stationOf f.dst ≠ s.address)
    (room : s.north.queue.length < 16) :
    s.lampAndFrame (passOn .south f u) l f ∧ (passOn .south f u).south = u.south ∧
      ∀ m, (passOn .south f u).lamp m = u.lamp m := by
  have address := congrArg State.address moved
  have north := congrArg State.north moved
  dsimp only at address north
  rw [passOn_room rest (by rwa [address]) (by rwa [north])]
  have inner : { u with lamps := s.lamps, south := s.south, north := s.north } = s := by
    rw [← north]
    exact moved
  have queue : ({ u.north with queue := u.north.queue ++ [⟨f, false, false⟩] } : PortState) =
      { s.north with queue := s.north.queue ++ [⟨f, false, false⟩] } := by
    rw [north]
  exact ⟨⟨inner, others, queue⟩, rfl, fun _ => rfl⟩

/-- A lamp that made no command. -/
theorem lampQuiet_onward (rest : s.atRest) (l : LampId) (y : Lamp) (away : stationOf f.dst ≠ s.address)
    (room : s.north.queue.length < 16) :
    s.lampAndFrame (passOn .south f (endEvent (s.setLamp l (some y)))) l f ∧
      (passOn .south f (endEvent (s.setLamp l (some y)))).south = s.south ∧
      (passOn .south f (endEvent (s.setLamp l (some y)))).lamp l = some y := by
  have still : (s.setLamp l (some y)).atRest := rest.of_eq rfl rfl
  rw [endEvent_atRest still]
  obtain ⟨frame, south, lamps⟩ := lampAndFrame_of (l := l) (s.setLamp l (some y)) rfl
    (fun m hm => by rw [State.setLamp_lamp, if_neg hm]) still away room
  refine ⟨frame, south, ?_⟩
  rw [lamps, State.setLamp_lamp_self]

/-! #### The end of an event in which one lamp made a command (08, R144) -/

theorem makeAlert_lampActs (n : AlertNote) (u : State) :
    makeAlert n (u.lampActs l x y) = (makeAlert n u).lampActs l x y := by
  unfold makeAlert
  by_cases empty : u.alertSlot = none
  · have empty' : (u.lampActs l x y).alertSlot = none := empty
    rw [if_pos empty, if_pos empty']
    show (if u.directEntry .north = true then _ else _) = _
    split <;> rfl
  · have full' : (u.lampActs l x y).alertSlot ≠ none := empty
    rw [if_neg empty, if_neg full']

theorem forEach_makeAlert_lampActs (notes : List AlertNote) (u : State) :
    forEach notes makeAlert (u.lampActs l x y) = (forEach notes makeAlert u).lampActs l x y := by
  induction notes generalizing u with
  | nil => rfl
  | cons n notes ih => rw [forEach_cons, forEach_cons, makeAlert_lampActs, ih]

/-- The alerts go first, and the lamp's command finds what they left. -/
theorem endEvent_lampActs_alerts (quiet : u.slotsMade = []) (sound : u.notesSound) :
    endEvent (u.lampActs l x y) = flushSlots ((endEvent u).lampActs l x y) := by
  have still : (flushAlerts u).slotsMade = [] := by
    obtain ⟨_, _, _, e⟩ := State.gainsAlerts.flushAlerts sound
    rw [e]
    exact quiet
  have alone : endEvent u = flushAlerts u := flushSlots_none still
  rw [alone, endEvent]
  exact congrArg flushSlots (forEach_makeAlert_lampActs u.alertsDue { u with alertsDue := [] })

/-- One lamp's command tries the queue. -/
def State.lampEnds (s : State) (l : LampId) (x y : Lamp) (c : LampCmd) : State :=
  if x.cmd = none ∧ s.directEntry .south = true then
    (pushFrame .south ⟨s.ownFrame y.station 0x03 c.payload, true, false⟩ s).setLamp l (some { y with cmd := none })
  else s.setLamp l (some y)

theorem flushSlots_lampActs (quiet : u.slotsMade = []) (hc : y.cmd = some c) :
    flushSlots (u.lampActs l x y) = u.lampEnds l x y c := by
  unfold State.lampEnds
  have emptied : { u.setLamp l (some y) with slotsMade := [] } = u.setLamp l (some y) := by
    rw [← quiet]
    rfl
  by_cases empty : x.cmd = none
  · have made : u.lampActs l x y = { u.setLamp l (some y) with slotsMade := [lampPos l] } := by
      unfold State.lampActs
      rw [if_pos ⟨empty, by rw [hc]; exact Option.some_ne_none c⟩, quiet]
      rfl
    rw [made, flushSlots]
    show tryDirect (lampPos l) { u.setLamp l (some y) with slotsMade := [] } = _
    rw [emptied]
    have frame : (u.setLamp l (some y)).slotFrame (lampPos l) = some (u.ownFrame y.station 0x03 c.payload) := by
      unfold State.slotFrame
      rw [slotOwner_lampPos]
      dsimp only
      rw [State.setLamp_lamp_self]
      dsimp only
      rw [hc]
      rfl
    unfold tryDirect
    refine if_congr (and_iff_right empty).symm ?_ rfl
    unfold enterSouth clearSlot
    rw [frame, slotOwner_lampPos]
    show (pushFrame .south _ (u.setLamp l (some y))).modLamp l _ = _
    rw [State.modLamp, show (pushFrame .south ⟨u.ownFrame y.station 0x03 c.payload, true, false⟩
      (u.setLamp l (some y))).lamp l = some y from State.setLamp_lamp_self u l (some y)]
    exact State.setLamp_setLamp (pushFrame .south ⟨u.ownFrame y.station 0x03 c.payload, true, false⟩ u) l _ _
  · have made : u.lampActs l x y = u.setLamp l (some y) := by
      unfold State.lampActs
      rw [if_neg fun h => empty h.1]
      rfl
    rw [made, if_neg fun h => empty h.1]
    exact flushSlots_none quiet

theorem State.lampEnds_others (s : State) (hm : m ≠ l) : (s.lampEnds l x y c).lamp m = s.lamp m := by
  unfold State.lampEnds
  split
  · exact (State.setLamp_lamp _ l m _).trans (if_neg hm)
  · exact (State.setLamp_lamp _ l m _).trans (if_neg hm)

theorem State.lampEnds_commanded (s : State) (hc : y.cmd = some c) (station : y.station = x.station) :
    s.lampCommanded (s.lampEnds l x y c) l x y c := by
  unfold State.lampEnds
  split
  · next sent =>
    refine ⟨none, ?_, State.setLamp_lamp_self _ _ _⟩
    unfold State.placedIn
    rw [if_pos ⟨sent.1, s.directEntry_iff.mp sent.2⟩, ← station]
    exact ⟨rfl, rfl⟩
  · next waits =>
    refine ⟨some c, ?_, ?_⟩
    · unfold State.placedIn
      rw [if_neg fun h => waits ⟨h.1, s.directEntry_iff.mpr h.2⟩]
      exact ⟨rfl, rfl⟩
    · rw [State.setLamp_lamp_self, ← hc]

/-- What commands a lamp between two states does so between any that show the same lamp and the same south port. -/
theorem State.lampCommanded_congr (h : u.lampCommanded v l x y c)
    (address : u.address = s.address) (south : u.south = s.south) (south' : t.south = v.south)
    (lamp : t.lamp l = v.lamp l) : s.lampCommanded t l x y c := by
  unfold State.lampCommanded State.placedIn State.repeater State.ownFrame at *
  rwa [address, south, ← south', ← lamp] at h

/-- A lamp that made a command (07, R131; 08, R144). -/
theorem lampCommanded_onward (rest : s.atRest) (hc : y.cmd = some c) (station : y.station = x.station)
    (away : stationOf f.dst ≠ s.address) (room : s.north.queue.length < 16) :
    s.lampAndFrame (passOn .south f (endEvent (s.lampActs l x y))) l f ∧
      s.lampCommanded (passOn .south f (endEvent (s.lampActs l x y))) l x y c := by
  have ends : endEvent (s.lampActs l x y) = s.lampEnds l x y c := by
    rw [endEvent_lampActs_alerts rest.2 (.atRest rest), endEvent_atRest rest, flushSlots_lampActs rest.2 hc]
  have still := endEvent_leavesRest (s.lampActs l x y)
  rw [ends] at still ⊢
  have moved : { s.lampEnds l x y c with lamps := s.lamps, south := s.south } = s := by
    unfold State.lampEnds
    split <;> rfl
  obtain ⟨frame, south, lamps⟩ := lampAndFrame_of (f := f) (l := l) (s.lampEnds l x y c) moved
    (fun m hm => s.lampEnds_others hm) still away room
  exact ⟨frame, State.lampCommanded_congr (s.lampEnds_commanded hc station) rfl rfl south (lamps l)⟩

end Onward

end Sys2Proof.Machine

namespace Sys2Proof.Machine
open Sys2Proof

set_option Elab.async false

/-! ### A lamp's turn at a status (07, Table 7-5, R121, R122, R124 to R127) -/

section Turns

variable {s t u : State} {l : LampId} {x y w z : Lamp} {ch : ChanId} {st : LampStatus} {a : Bool}

/-- The record of a lamp that has been heard from. -/
def Lamp.heard (x : Lamp) : Lamp := { x with unconfirmed := false }

theorem Lamp.heard_same (h : x.unconfirmed = false) : x.heard = x := by
  unfold Lamp.heard
  rw [← h]

theorem lampSetting_eq (hx : s.lamp l = some x) (owner : (s.bank x.bank).owner = some ch) (k : ChanSetting) :
    s.lampSetting l k = (s.chan ch).get k := by
  simp [State.lampSetting, State.lampOwner, hx, owner]

/-! #### The records that a turn leaves -/

/-- A lamp LIT by a success or by an adoption (07, R121, R127). -/
def State.litAs (s : State) (ch : ChanId) (a : Bool) (x : Lamp) : Lamp :=
  { x with
    state := .lit, adopted := a, attempts := 0, sets := 0, strikeTimer := none,
    clearTimer := some (s.now + 1000 * (s.chan ch).get .dropoutClear) }

theorem becomeLit_eq (hx : s.lamp l = some x) (owner : (s.bank x.bank).owner = some ch) :
    becomeLit a l s = s.setLamp l (some (s.litAs ch a x)) := by
  rw [becomeLit, modLamp_eq hx, lampSetting_eq hx owner]
  rfl

/-- A lamp with a QUENCH made in its slot. -/
def Lamp.quenching (x : Lamp) : Lamp := { x with cmd := some .quench }

theorem placeQuench_eq (hx : s.lamp l = some x) : placeLamp l .quench s = s.lampActs l x x.quenching := by
  rw [placeLamp_eq hx, mergeCmd_quench]
  rfl

/-- The lamp's record moves to `y` and a QUENCH is made. -/
theorem setQuench_eq (hw : y.cmd = x.cmd) : placeLamp l .quench (s.setLamp l (some y)) = s.lampActs l x y.quenching := by
  rw [placeQuench_eq (State.setLamp_lamp_self _ _ _), setLamp_lampActs hw]

/-- A dropout's record and whether it makes the lamp DEAD (07, R125). -/
def State.dropoutOf (s : State) (ch : ChanId) (x : Lamp) : Lamp × Bool :=
  if (s.chan ch).get .dropoutMode = 1 ∧ 3 ≤ min 255 (x.dropouts + 1) then
    ({ x with state := .dead, dropouts := min 255 (x.dropouts + 1), strikeTimer := none, waitTimer := none,
              clearTimer := none }, true)
  else
    ({ x with state := .retryWait, dropouts := min 255 (x.dropouts + 1), clearTimer := none,
              waitTimer := some (s.now + 1000 * (s.chan ch).get .retryDelay) }, false)

/-- The record of a lamp out by OVERTEMP (07, R126). -/
def Lamp.hotOut (x : Lamp) : Lamp := { x with state := .off, cool := 1000, strikeTimer := none, clearTimer := none }

/-- The lamp goes out with a QUENCH, and LAMP_DEAD is raised if it is DEAD (07, R124). -/
def State.wentOut (s : State) (l : LampId) (x : Lamp) (o : Lamp × Bool) : State :=
  if o.2 = true then raise .lampDead x.bank.1 (s.lampActs l x o.1.quenching) else s.lampActs l x o.1.quenching

theorem enterDead_eq (hw : w.cmd = x.cmd) (bank : w.bank = x.bank) : enterDead l (s.setLamp l (some w)) =
    raise .lampDead x.bank.1 (s.lampActs l x
      ({ w with state := .dead, strikeTimer := none, waitTimer := none, clearTimer := none } : Lamp).quenching) := by
  have stored := State.setLamp_lamp_self s l (some w)
  unfold enterDead
  rw [stored]
  dsimp only
  rw [modLamp_eq stored, State.setLamp_setLamp, bank]
  exact congrArg _ (setQuench_eq hw)

theorem strikeFailure_eq (hx : s.lamp l = some x) (owner : (s.bank x.bank).owner = some ch) :
    strikeFailure l s = s.wentOut l x (s.failureOf ch x) := by
  have limit : s.retryLimit l x.sets =
      if x.sets = 0 then (s.chan ch).get .firstSetRetries else (s.chan ch).get .runSetRetries := by
    unfold State.retryLimit
    rw [lampSetting_eq hx owner, lampSetting_eq hx owner]
  unfold strikeFailure State.failureOf State.wentOut
  rw [hx]
  dsimp only
  rw [limit, lampSetting_eq hx owner, lampSetting_eq hx owner, lampSetting_eq hx owner, modLamp_eq hx, modLamp_eq hx,
    modLamp_eq hx]
  generalize (if x.sets = 0 then (s.chan ch).get .firstSetRetries else (s.chan ch).get .runSetRetries) = retries
  split
  · exact setQuench_eq rfl
  · split
    · exact setQuench_eq rfl
    · exact enterDead_eq rfl rfl

theorem dropoutLamp_eq (hx : s.lamp l = some x) (owner : (s.bank x.bank).owner = some ch) :
    dropoutLamp l s = s.wentOut l x (s.dropoutOf ch x) := by
  unfold dropoutLamp State.dropoutOf State.wentOut
  rw [hx]
  dsimp only
  rw [lampSetting_eq hx owner, lampSetting_eq hx owner, modLamp_eq hx, modLamp_eq hx]
  split
  · exact enterDead_eq rfl rfl
  · exact setQuench_eq rfl

theorem overtempOut_eq (hx : s.lamp l = some x) : overtempOut l s = s.wentOut l x (x.hotOut, false) := by
  rw [overtempOut, modLamp_eq hx]
  exact setQuench_eq rfl

/-! #### The status at the machine -/

theorem State.lampGoverned_eq (s : State) (hx : s.lamp l = some x) : s.lampGoverned l = s.bankGoverned x.bank := by
  rw [State.lampGoverned, hx]

theorem lampStatus_free (hx : s.lamp l = some x) (free : s.bankGoverned x.bank = false) :
    lampStatus l st s = s.setLamp l (some x.heard) := by
  have ungoverned : s.lampGoverned l = false := (s.lampGoverned_eq hx).trans free
  unfold lampStatus
  rw [hx]
  dsimp only
  rw [ungoverned, modLamp_eq hx]
  rfl

theorem State.bankGoverned_live (owner : (s.bank x.bank).owner = some ch) (live : (s.chan ch).dormant = false) :
    s.bankGoverned x.bank = true := by
  simp [State.bankGoverned, owner, live]

theorem lampStatus_eq (hx : s.lamp l = some x) (governed : s.bankGoverned x.bank = true) : lampStatus l st s =
    if x.unconfirmed then strikePath l (statusActs l x st (s.setLamp l (some x.heard)))
    else statusActs l x st (s.setLamp l (some x.heard)) := by
  have told : s.lampGoverned l = true := (s.lampGoverned_eq hx).trans governed
  unfold lampStatus
  rw [hx]
  dsimp only
  rw [told, modLamp_eq hx]
  rfl

theorem State.struck_idle (s : State) (idle : z.state ≠ .off ∨ z.wanted = false) : s.struck z = z := by
  rcases idle with other | unwanted
  · exact s.struck_not_off other
  · unfold State.struck
    split
    · refine if_neg fun ready => ?_
      rw [unwanted] at ready
      exact Bool.noConfusion ready.2.2.1
    · rfl

/-- The strike path of a lamp that is not OFF, or not wanted (07, R120). -/
theorem strikePath_idle (hz : t.lamp l = some z) (idle : z.state ≠ .off ∨ z.wanted = false) : strikePath l t = t := by
  rw [strikePath_eq hz, t.struck_idle idle, lampActs_same hz]

/-- A status of a lamp heard from before. -/
theorem lampStatus_known (hx : s.lamp l = some x) (governed : s.bankGoverned x.bank = true)
    (known : x.unconfirmed = false) : lampStatus l st s = statusActs l x st s := by
  rw [lampStatus_eq hx governed, known, x.heard_same known, ← hx, State.setLamp_same]
  rfl

/-- A status after which the lamp's strike path has nothing to do. -/
theorem lampStatus_idle (hx : s.lamp l = some x) (governed : s.bankGoverned x.bank = true)
    (turn : statusActs l x st (s.setLamp l (some x.heard)) = t) (hz : t.lamp l = some z)
    (idle : z.state ≠ .off ∨ z.wanted = false) : lampStatus l st s = t := by
  rw [lampStatus_eq hx governed, turn, strikePath_idle hz idle, ite_self]

end Turns

end Sys2Proof.Machine

namespace Sys2Proof.Machine
open Sys2Proof

set_option Elab.async false

/-! ### A governed lamp has a status, and the frame goes on (07, R127; 08, R139) -/

section Statuses

variable {s t u v : State} {l m : LampId} {x y w z : Lamp} {ch : ChanId} {st : LampStatus} {f : Frame} {c : LampCmd}
  {b : BankId} {n : Nat}

/-! #### A lamp that becomes DEAD (07, R124; 10, R169) -/

theorem enterPending_lampActs (k : AlarmKind) (i : Nat) (s : State) :
    enterPending k i (s.lampActs l x y) = (enterPending k i s).lampActs l x y := by
  unfold enterPending noteAlert
  show judgeLine (if s.threshold < s.priority k then _ else _) =
    (judgeLine (if s.threshold < s.priority k then _ else _)).lampActs l x y
  split <;> rfl

theorem raise_lampActs (k : AlarmKind) (i : Nat) (s : State) :
    raise k i (s.lampActs l x y) = (raise k i s).lampActs l x y := by
  unfold raise
  by_cases off : s.priority k = 0
  · have off' : (s.lampActs l x y).priority k = 0 := off
    rw [if_pos off, if_pos off']
  · have on' : (s.lampActs l x y).priority k ≠ 0 := off
    rw [if_neg off, if_neg on']
    have same : (s.lampActs l x y).alarm k i = s.alarm k i := rfl
    rw [same]
    cases (s.alarm k i).state with
    | idle => exact enterPending_lampActs k i s
    | pending => rfl
    | inService => rfl
    | inServiceRecurred => rfl

theorem raise_slotsMade (k : AlarmKind) (i : Nat) (s : State) : (raise k i s).slotsMade = s.slotsMade :=
  (raise_alarmUnitOnly k i s).slotsMade

/-- `m` is `s` after an event that raised one latched alarm (10, R169, R175). -/
structure State.Raised (s m : State) (k : AlarmKind) (i : Nat) : Prop where
  rest    : m.atRest
  address : m.address = s.address
  south   : m.south = s.south
  lamps   : m.lamps = s.lamps
  banks   : m.banks = s.banks
  north   : m.north.queue.length ≤ s.north.queue.length + 1
  only    : s.raisedOnly m k i

theorem endEvent_raised {k : AlarmKind} {i : Nat} (rest : s.atRest) (hi : i < k.scope) :
    s.Raised (endEvent (raise k i s)) k i := by
  have sound : (raise k i s).notesSound := (State.notesSound.atRest rest).raise hi
  have quiet : (raise k i s).slotsMade = [] := (raise_slotsMade _ _ s).trans rest.2
  obtain ⟨same, _⟩ := (raise_alarmUnitOnly k i s).onlyAlarms rest sound
  have address := congrArg State.address same
  have south := congrArg State.south same
  have lamps := congrArg State.lamps same
  have banks := congrArg State.banks same
  have length := endEvent_north_length quiet sound
  have one := raise_alertsDue_length k i s
  have north : (raise k i s).north = s.north := by
    obtain ⟨_, _, _, e⟩ := raise_alarmUnitOnly k i s
    rw [e]
  rw [rest.1, List.length_nil] at one
  rw [north] at length
  exact ⟨endEvent_leavesRest _, address, south, lamps, banks, by omega, (raise_raisedOnly k i s).endEvent⟩

theorem State.lampEnds_same (s : State) : (s.lampEnds l x y c).banks = s.banks ∧ (s.lampEnds l x y c).alarms = s.alarms ∧
    (s.lampEnds l x y c).north = s.north ∧ (s.lampEnds l x y c).address = s.address := by
  unfold State.lampEnds
  split <;> exact ⟨rfl, rfl, rfl, rfl⟩

/-- The lamp makes its command behind the alert. -/
theorem lampDead_onward (rest : s.atRest) (hc : y.cmd = some c) (station : y.station = x.station) (b : BankId) :
    (s.north.queue.length < 15 →
      s.raisedOnly (passOn .south f (endEvent (raise .lampDead b.1 (s.lampActs l x y)))) .lampDead b.1) ∧
      (passOn .south f (endEvent (raise .lampDead b.1 (s.lampActs l x y)))).banks = s.banks ∧
      (∀ m, m ≠ l → (passOn .south f (endEvent (raise .lampDead b.1 (s.lampActs l x y)))).lamp m = s.lamp m) ∧
      s.lampCommanded (passOn .south f (endEvent (raise .lampDead b.1 (s.lampActs l x y)))) l x y c := by
  obtain ⟨m, hm⟩ : ∃ m, m = endEvent (raise .lampDead b.1 s) := ⟨_, rfl⟩
  have raised : s.Raised m .lampDead b.1 := hm ▸ endEvent_raised rest b.2
  have ends : endEvent (raise .lampDead b.1 (s.lampActs l x y)) = m.lampEnds l x y c := by
    rw [raise_lampActs, endEvent_lampActs_alerts ((raise_slotsMade _ _ s).trans rest.2)
      ((State.notesSound.atRest rest).raise b.2), ← hm, flushSlots_lampActs raised.rest.2 hc]
  have still := endEvent_leavesRest (raise .lampDead b.1 (s.lampActs l x y))
  rw [ends] at still ⊢
  obtain ⟨banks, alarms, north, _⟩ := m.lampEnds_same (l := l) (x := x) (y := y) (c := c)
  have onward := passOn_hasPassedOn (f := f) still
  have banks' := congrArg State.banks onward.onlyAlarms.1
  refine ⟨fun few => ?_, banks'.trans (banks.trans raised.banks), fun k hk => ?_, ?_⟩
  · have few' : (m.lampEnds l x y c).north.queue.length < 16 := by
      have length := raised.north
      rw [north]
      omega
    have kept := passOn_alarms (f := f) still (.inr few')
    have only := raised.only
    unfold State.raisedOnly State.alarm at only ⊢
    rwa [kept, alarms]
  · rw [onward.lamp, m.lampEnds_others hk, State.lamp, raised.lamps]
    rfl
  · exact State.lampCommanded_congr (m.lampEnds_commanded hc station) raised.address raised.south onward.south
      (onward.lamp l)

/-! #### A confirmed lamp that tries the strike path (07, R120; log 20) -/

theorem triedStrike_onward (rest : s.atRest) (cmd : y.cmd = x.cmd) (station : y.station = x.station)
    (away : stationOf f.dst ≠ s.address) (room : s.north.queue.length < 16) :
    s.lampAndFrame (passOn .south f (endEvent (s.lampActs l x (s.struck y)))) l f ∧
      s.triedStrike (passOn .south f (endEvent (s.lampActs l x (s.struck y)))) l y := by
  have idle : s.struck y = y → s.lampAndFrame (passOn .south f (endEvent (s.lampActs l x (s.struck y)))) l f ∧
      (passOn .south f (endEvent (s.lampActs l x (s.struck y)))).south = s.south ∧
      (passOn .south f (endEvent (s.lampActs l x (s.struck y)))).lamp l = some y := fun same => by
    rw [same, lampActs_quiet cmd]
    exact lampQuiet_onward rest l y away room
  unfold State.triedStrike
  cases owner : (s.bank y.bank).owner with
  | none =>
    have same : s.struck y = y := by
      unfold State.struck
      rw [owner]
    obtain ⟨frame, south, lamp⟩ := idle same
    exact ⟨frame, lamp, south⟩
  | some ch =>
    dsimp only
    split
    · next ready =>
      rw [State.struck_ready owner ready]
      obtain ⟨frame, slot, placed, lamp⟩ := lampCommanded_onward (x := x)
        (c := .strike (s.chan ch).power.code) (f := f) (l := l)
        (y := { y with
          state := .striking
          strikeTimer := some (s.now + 1000 * (s.chan ch).get .strikeWindow)
          cmd := some (.strike (s.chan ch).power.code) }) rest rfl station away room
      exact ⟨frame, slot, (congrArg₂ (fun a b => s.placedIn _ a b slot _) station cmd).mpr placed, lamp⟩
    · next unready =>
      obtain ⟨frame, south, lamp⟩ := idle (State.struck_unready owner unready)
      exact ⟨frame, lamp, south⟩

/-! #### The lit count that the turn leaves, and its judgement (05, R85, R95, R96) -/

/-- `t` shows a bank controller what `s` shows it, but for the lamps. -/
structure State.sameBanks (s t : State) : Prop where
  bank : ∀ b, t.bank b = s.bank b
  chan : ∀ c, t.chan c = s.chan c

theorem litCount_gains (hx : s.lamp l = some x) (others : ∀ m, m ≠ l → t.lamp m = s.lamp m) (hy : t.lamp l = some y)
    (bank : y.bank = x.bank) (dark : x.state ≠ .lit) (lit : y.state = .lit) :
    t.litCount x.bank = s.litCount x.bank + 1 := by
  refine State.countLamps_gains (l := l) (fun k hk => by rw [others k hk]) ?_ ?_
  · rw [hx]
    simp [countsIn, dark]
  · rw [hy]
    simp [countsIn, bank, lit]

theorem litCount_loses (hx : s.lamp l = some x) (others : ∀ m, m ≠ l → t.lamp m = s.lamp m) (hy : t.lamp l = some y)
    (lit : x.state = .lit) (dark : y.state ≠ .lit) : t.litCount x.bank = s.litCount x.bank - 1 := by
  refine State.countLamps_loses (l := l) (fun k hk => by rw [others k hk]) ?_ ?_
  · rw [hx]
    simp [countsIn, lit]
  · rw [hy]
    simp [countsIn, dark]

theorem judgeLit_live (owner : (t.bank b).owner = some ch) (live : (t.chan ch).dormant = false) : judgeLit b t =
    if t.reachesLit ch b then (if t.standingDown ch then putOutChannel ch t else adoptBank ch b t)
    else judgeBurning b t := by
  unfold judgeLit
  rw [owner]
  dsimp only
  rw [live]
  rfl

theorem State.sameBanks.reachesLit (same : s.sameBanks t) (ch : ChanId) (b : BankId) : t.reachesLit ch b = true ↔
    (s.bank b).state = .dark ∧ (s.chan ch).adoption ≠ none ∧ (s.bank b).get .minLampsLit ≤ t.litCount b := by
  unfold State.reachesLit
  rw [same.bank, same.chan, Bool.and_eq_true, Bool.and_eq_true, decide_eq_true_iff, decide_eq_true_iff,
    Option.isSome_iff_ne_none, and_assoc]

theorem State.sameBanks.standingDown (same : s.sameBanks t) (ch : ChanId) : t.standingDown ch = true ↔
    (s.chan ch).adoption ≠ none ∧ (s.chan ch).effMode = .standdown := by
  unfold State.standingDown
  rw [same.chan, Bool.and_eq_true, decide_eq_true_iff, Option.isSome_iff_ne_none]

/-- A lit count that calls for no transition (05, R85, R95, R96). -/
theorem judgeLit_quiet (same : s.sameBanks t) (owner : (s.bank b).owner = some ch) (count : t.litCount b = n)
    (quiet : s.countQuiet ch b n) : judgeLit b t = t := by
  obtain ⟨run, warming, dark⟩ := quiet
  have unreached : t.reachesLit ch b = false := by
    rw [Bool.eq_false_iff, ne_eq, same.reachesLit, count]
    rintro ⟨isDark, window, reached⟩
    exact (dark isDark).elim window (Nat.not_lt.mpr reached)
  have burning : judgeBurning b t = t := by
    unfold judgeBurning
    rw [same.bank]
    split
    · next e =>
      refine if_neg fun short => ?_
      rw [same.bank, count] at short
      exact Nat.not_lt.mpr (run e) short.2
    · next e =>
      refine if_neg fun pass => ?_
      rw [count] at pass
      rcases warming e with fails | few
      · rw [fails] at pass
        exact Bool.noConfusion pass.1
      · exact Nat.not_lt.mpr pass.2 few
    all_goals rfl
  unfold judgeLit
  rw [same.bank, owner]
  dsimp only
  rw [unreached, burning]
  split <;> rfl

theorem State.sameBanks.wentOut (s : State) (l : LampId) (x : Lamp) (o : Lamp × Bool) : s.sameBanks (s.wentOut l x o) := by
  unfold State.wentOut
  split
  · exact ⟨fun b => raise_bank _ _ _ b, fun c => raise_chan _ _ _ c⟩
  · exact ⟨fun _ => rfl, fun _ => rfl⟩

theorem wentOut_lamp (s : State) (l : LampId) (x : Lamp) (o : Lamp × Bool) (k : LampId) :
    (s.wentOut l x o).lamp k = if k = l then some o.1.quenching else s.lamp k := by
  unfold State.wentOut
  split
  · rw [raise_lamp, lampActs_lamp]
  · exact lampActs_lamp k

theorem State.sameBanks.setLamp (s : State) (l : LampId) (y : Lamp) : s.sameBanks (s.setLamp l (some y)) :=
  ⟨fun _ => rfl, fun _ => rfl⟩

end Statuses

end Sys2Proof.Machine

namespace Sys2Proof.Machine
open Sys2Proof

set_option Elab.async false

/-! ### The outcomes that take no bank anywhere (07, Table 7-5, R121 to R127) -/

section QuietOutcomes

variable {s t u v : State} {l m : LampId} {x y w z : Lamp} {ch : ChanId} {st : LampStatus} {f : Frame} {c : LampCmd}
  {b : BankId} {n : Nat} {a : Bool}

/-- A lamp of a live channel is about to have a status, and the frame finds room north. -/
structure State.Heard (s : State) (l : LampId) (x : Lamp) (ch : ChanId) (f : Frame) : Prop where
  rest  : s.atRest
  lamp  : s.lamp l = some x
  owner : (s.bank x.bank).owner = some ch
  live  : (s.chan ch).dormant = false
  away  : stationOf f.dst ≠ s.address
  room  : s.north.queue.length < 16

/-- The state after the status has been taken and the frame has gone on. -/
def State.afterStatus (s : State) (l : LampId) (st : LampStatus) (f : Frame) : State :=
  passOn .south f (endEvent (lampStatus l st s))

/-- The lamp has just been adopted. -/
def State.adopting (s : State) (ch : ChanId) (l : LampId) (x : Lamp) : State :=
  s.setLamp l (some (s.litAs ch true x.heard))

theorem adopting_lamp : (s.adopting ch l x).lamp l = some (s.litAs ch true x.heard) := State.setLamp_lamp_self _ _ _

theorem adopting_same : s.sameBanks (s.adopting ch l x) := .setLamp s l _

/-- Two records that differ in the slot only. -/
theorem State.lampCommanded.record (h : s.lampCommanded t l x y c) (same : { y with cmd := none } = { z with cmd := none }) :
    s.lampCommanded t l x z c := by
  obtain ⟨slot, placed, lamp⟩ := h
  refine ⟨slot, placed, lamp.trans (congrArg some ?_)⟩
  have slots := congrArg (fun w : Lamp => { w with cmd := slot }) same
  exact slots

namespace State.Heard

theorem governed (h : s.Heard l x ch f) : s.bankGoverned x.bank = true := State.bankGoverned_live h.owner h.live

/-- The lamp's record moves and nothing else. -/
theorem recorded (h : s.Heard l x ch f) (turn : lampStatus l st s = s.setLamp l (some y)) :
    s.lampAndFrame (s.afterStatus l st f) l f ∧ (s.afterStatus l st f).south = s.south ∧
      (s.afterStatus l st f).lamp l = some y := by
  rw [State.afterStatus, turn]
  exact lampQuiet_onward h.rest l y h.away h.room

/-- The lamp's record moves and a QUENCH is made. -/
theorem quenches (h : s.Heard l x ch f) (turn : lampStatus l st s = s.lampActs l x y.quenching)
    (station : y.station = x.station) :
    s.lampAndFrame (s.afterStatus l st f) l f ∧ s.lampCommanded (s.afterStatus l st f) l x y .quench := by
  rw [State.afterStatus, turn]
  exact lampCommanded_onward (y := y.quenching) h.rest rfl station h.away h.room

/-! #### A success and an adoption (07, R121, R127) -/

theorem success_turn (h : s.Heard l x ch f) (striking : x.state = .striking) (known : x.unconfirmed = false) :
    lampStatus l .lit s = judgeLit x.bank (s.setLamp l (some (s.litAs ch false x))) := by
  rw [lampStatus_known h.lamp h.governed known, ← becomeLit_eq h.lamp h.owner]
  unfold statusActs statusLit
  dsimp only
  rw [striking]

theorem litAs_count (h : s.Heard l x ch f) (w : Lamp) (bank : w.bank = x.bank) (dark : x.state ≠ .lit) :
    (s.setLamp l (some (s.litAs ch a w))).litCount x.bank = s.litCount x.bank + 1 :=
  litCount_gains h.lamp (fun m hm => (State.setLamp_lamp s l m _).trans (if_neg hm))
    (State.setLamp_lamp_self _ _ _) bank dark rfl

theorem success (h : s.Heard l x ch f) (striking : x.state = .striking) (known : x.unconfirmed = false)
    (quiet : s.countQuiet ch x.bank (s.litCount x.bank + 1)) :
    s.lampAndFrame (s.afterStatus l .lit f) l f ∧ (s.afterStatus l .lit f).south = s.south ∧
      (s.afterStatus l .lit f).lamp l = some (s.litAs ch false x) := by
  refine h.recorded ?_
  rw [h.success_turn striking known]
  exact judgeLit_quiet (.setLamp s l _) h.owner (h.litAs_count x rfl (by rw [striking]; decide)) quiet

theorem adopts (h : s.Heard l x ch f) (off : x.state = .off) (met : x.unconfirmed = true ∨ x.wanted = true) :
    statusActs l x .lit (s.setLamp l (some x.heard)) =
      if (s.adopting ch l x).standingDown ch && !(s.adopting ch l x).reachesLit ch x.bank then
        putOutLit l (s.adopting ch l x)
      else judgeLit x.bank (s.adopting ch l x) := by
  have met' : (x.unconfirmed || x.wanted) = true := by rwa [Bool.or_eq_true]
  have lit : becomeLit true l (s.setLamp l (some x.heard)) = (s.adopting ch l x) := by
    rw [becomeLit_eq (x := x.heard) (State.setLamp_lamp_self s l _) (ch := ch) h.owner, State.setLamp_setLamp]
    rfl
  have owner : ((s.adopting ch l x).bank x.bank).owner = some ch := h.owner
  unfold statusActs statusLit adoptLamp
  dsimp only
  rw [off]
  dsimp only
  rw [if_pos met', lit, owner]

theorem adopting_count (h : s.Heard l x ch f) (off : x.state = .off) :
    (s.adopting ch l x).litCount x.bank = s.litCount x.bank + 1 := h.litAs_count _ rfl (by rw [off]; decide)

/-- The judgement of an adoption that is not put out alone. -/
theorem adoption_turn (h : s.Heard l x ch f) (off : x.state = .off) (met : x.unconfirmed = true ∨ x.wanted = true)
    (judged : ((s.chan ch).adoption = none ∨ (s.chan ch).effMode ≠ .standdown) ∨ (s.bank x.bank).state = .dark ∧
      (s.chan ch).adoption ≠ none ∧ (s.bank x.bank).get .minLampsLit ≤ s.litCount x.bank + 1)
    (hz : (judgeLit x.bank (s.adopting ch l x)).lamp l = some z) (idle : z.state ≠ .off ∨ z.wanted = false) :
    lampStatus l .lit s = judgeLit x.bank (s.adopting ch l x) := by
  refine lampStatus_idle h.lamp h.governed ?_ hz idle
  rw [h.adopts off met]
  refine if_neg fun alone => ?_
  rw [Bool.and_eq_true, adopting_same.standingDown, Bool.not_eq_true', ← Bool.not_eq_true,
    adopting_same.reachesLit, h.adopting_count off] at alone
  obtain ⟨⟨window, down⟩, unreached⟩ := alone
  exact judged.elim (fun none => none.elim window fun other => other down) unreached

theorem adoption (h : s.Heard l x ch f) (off : x.state = .off) (met : x.unconfirmed = true ∨ x.wanted = true)
    (going : (s.chan ch).adoption = none ∨ (s.chan ch).effMode ≠ .standdown)
    (quiet : s.countQuiet ch x.bank (s.litCount x.bank + 1)) :
    s.lampAndFrame (s.afterStatus l .lit f) l f ∧ (s.afterStatus l .lit f).south = s.south ∧
      (s.afterStatus l .lit f).lamp l = some (s.litAs ch true x.heard) := by
  have judged : judgeLit x.bank (s.adopting ch l x) = s.adopting ch l x :=
    judgeLit_quiet adopting_same h.owner (h.adopting_count off) quiet
  have lit : (s.litAs ch true x.heard).state ≠ .off := fun e => LampState.noConfusion e
  refine h.recorded ((h.adoption_turn (z := s.litAs ch true x.heard) off met (.inl going) ?_ (.inl lit)).trans judged)
  rw [judged, adopting_lamp]

/-- An adopted lamp put out at once (05, R85; log 17). -/
theorem adoptedOut (h : s.Heard l x ch f) (off : x.state = .off) (met : x.unconfirmed = true ∨ x.wanted = true)
    (window : (s.chan ch).adoption ≠ none) (down : (s.chan ch).effMode = .standdown)
    (unreached : (s.bank x.bank).state ≠ .dark ∨ s.litCount x.bank + 1 < (s.bank x.bank).get .minLampsLit) :
    s.lampAndFrame (s.afterStatus l .lit f) l f ∧ s.lampCommanded (s.afterStatus l .lit f) l x
      { x with wanted := false, unconfirmed := false, adopted := true, attempts := 0, sets := 0,
               strikeTimer := none, clearTimer := none } .quench := by
  have out : putOutLit l (s.adopting ch l x) = s.lampActs l x (s.litAs ch true x.heard).quenched := by
    rw [putOutLit_eq adopting_lamp]
    exact setLamp_lampActs rfl
  have alone : statusActs l x .lit (s.setLamp l (some x.heard)) = s.lampActs l x (s.litAs ch true x.heard).quenched := by
    rw [h.adopts off met, ← out]
    refine if_pos ?_
    rw [Bool.and_eq_true, adopting_same.standingDown, Bool.not_eq_true', ← Bool.not_eq_true,
      adopting_same.reachesLit, h.adopting_count off]
    refine ⟨⟨window, down⟩, ?_⟩
    rintro ⟨dark, _, enough⟩
    exact unreached.elim (fun other => other dark) (Nat.not_lt.mpr enough)
  have turn := lampStatus_idle h.lamp h.governed alone ((lampActs_lamp l).trans (if_pos rfl)) (.inr rfl)
  obtain ⟨frame, commanded⟩ := h.quenches (y := (s.litAs ch true x.heard).quenched) turn rfl
  refine ⟨frame, commanded.record ?_⟩
  show ({ (s.litAs ch true x.heard).quenched with cmd := none } : Lamp) = _
  unfold Lamp.quenched State.litAs Lamp.heard
  rw [← off]

/-! #### A lamp that burns against the part's intent (07, R127) -/

theorem unwelcome (h : s.Heard l x ch f)
    (burning : (x.state = .off ∧ x.unconfirmed = false ∧ x.wanted = false) ∨ x.state = .dead) :
    s.lampAndFrame (s.afterStatus l .lit f) l f ∧
      s.lampCommanded (s.afterStatus l .lit f) l x { x with unconfirmed := false } .quench := by
  have placed : placeLamp l .quench (s.setLamp l (some x.heard)) = s.lampActs l x x.heard.quenching := setQuench_eq rfl
  have turn : statusActs l x .lit (s.setLamp l (some x.heard)) = s.lampActs l x x.heard.quenching := by
    unfold statusActs statusLit
    rcases burning with ⟨off, known, unwanted⟩ | dead
    · rw [off, known, unwanted]
      exact placed
    · rw [dead]
      exact placed
  refine h.quenches (lampStatus_idle h.lamp h.governed turn ((lampActs_lamp l).trans (if_pos rfl)) ?_) rfl
  rcases burning with ⟨_, _, unwanted⟩ | dead
  · exact .inr unwanted
  · exact .inl (show x.state ≠ .off by rw [dead]; decide)

theorem waits_turn (h : s.Heard l x ch f) (waiting : x.state = .retryWait ∨ x.state = .longWait)
    (known : x.unconfirmed = false) :
    lampStatus l .lit s = if x.cmd = some .quench then s else s.lampActs l x x.quenching := by
  rw [lampStatus_known h.lamp h.governed known, ← placeQuench_eq h.lamp]
  unfold statusActs statusLit
  rcases waiting with e | e <;> rw [e]

/-- It burns while it waits for its retry. -/
theorem burnsInWait (h : s.Heard l x ch f) (waiting : x.state = .retryWait ∨ x.state = .longWait)
    (known : x.unconfirmed = false) : s.lampAndFrame (s.afterStatus l .lit f) l f ∧
      (x.cmd = some .quench → (s.afterStatus l .lit f).lamp l = some x ∧ (s.afterStatus l .lit f).south = s.south) ∧
      (x.cmd ≠ some .quench → s.lampCommanded (s.afterStatus l .lit f) l x x .quench) := by
  have turn := h.waits_turn waiting known
  by_cases quenching : x.cmd = some .quench
  · rw [if_pos quenching] at turn
    have same : s = s.setLamp l (some x) := by rw [← h.lamp, State.setLamp_same]
    obtain ⟨frame, south, lamp⟩ := h.recorded (turn.trans same)
    exact ⟨frame, fun _ => ⟨lamp, south⟩, fun other => absurd quenching other⟩
  · rw [if_neg quenching] at turn
    obtain ⟨frame, commanded⟩ := h.quenches turn rfl
    exact ⟨frame, fun e => absurd e quenching, fun _ => commanded⟩

/-! #### A lamp that goes out (07, R122, R124 to R126) -/

theorem lost_turn (h : s.Heard l x ch f) (lost : st = .dark ∨ st = .dropout) (lit : x.state = .lit)
    (known : x.unconfirmed = false) : lampStatus l st s = judgeLit x.bank (s.wentOut l x (s.dropoutOf ch x)) := by
  rw [lampStatus_known h.lamp h.governed known, ← dropoutLamp_eq h.lamp h.owner]
  rcases lost with rfl | rfl <;> exact if_pos lit

theorem hot_turn (h : s.Heard l x ch f) (lit : x.state = .lit) (known : x.unconfirmed = false) :
    lampStatus l .overtemp s = judgeLit x.bank (s.wentOut l x (x.hotOut, false)) := by
  rw [lampStatus_known h.lamp h.governed known, ← overtempOut_eq h.lamp]
  unfold statusActs statusHot
  rw [lit]

theorem failure_turn (h : s.Heard l x ch f) (striking : x.state = .striking) (known : x.unconfirmed = false) :
    lampStatus l .strikeFail s = s.wentOut l x (s.failureOf ch x) := by
  rw [lampStatus_known h.lamp h.governed known, ← strikeFailure_eq h.lamp h.owner]
  exact if_pos striking

theorem hotStrike_turn (h : s.Heard l x ch f) (striking : x.state = .striking) (known : x.unconfirmed = false) :
    lampStatus l .overtemp s = s.wentOut l x (x.hotOut, false) := by
  rw [lampStatus_known h.lamp h.governed known, ← overtempOut_eq h.lamp]
  unfold statusActs statusHot
  rw [striking]

theorem out_count (h : s.Heard l x ch f) {o : Lamp × Bool} (lit : x.state = .lit) (out : o.1.state ≠ .lit) :
    (s.wentOut l x o).litCount x.bank = s.litCount x.bank - 1 := by
  refine litCount_loses h.lamp (fun m hm => ?_) ((wentOut_lamp s l x o l).trans (if_pos rfl)) lit out
  rw [wentOut_lamp, if_neg hm]

theorem out_quiet (h : s.Heard l x ch f) {o : Lamp × Bool} (lit : x.state = .lit) (out : o.1.state ≠ .lit)
    (quiet : s.countQuiet ch x.bank (s.litCount x.bank - 1)) :
    judgeLit x.bank (s.wentOut l x o) = s.wentOut l x o :=
  judgeLit_quiet (.wentOut s l x o) h.owner (h.out_count lit out) quiet

/-- The lamp is out, and not DEAD. -/
theorem goesOut (h : s.Heard l x ch f) (turn : lampStatus l st s = s.wentOut l x (y, false))
    (station : y.station = x.station) :
    s.lampAndFrame (s.afterStatus l st f) l f ∧ s.lampCommanded (s.afterStatus l st f) l x y .quench :=
  h.quenches turn station

/-- The lamp is out and DEAD (07, R124). -/
theorem dies (h : s.Heard l x ch f) (turn : lampStatus l st s = s.wentOut l x (y, true))
    (station : y.station = x.station) :
    (s.north.queue.length < 15 → s.raisedOnly (s.afterStatus l st f) .lampDead x.bank.1) ∧
      (s.afterStatus l st f).banks = s.banks ∧ (∀ m, m ≠ l → (s.afterStatus l st f).lamp m = s.lamp m) ∧
      s.lampCommanded (s.afterStatus l st f) l x y .quench := by
  rw [State.afterStatus, turn]
  exact lampDead_onward (y := y.quenching) h.rest rfl station x.bank

theorem dropoutOf_retry (few : (s.chan ch).get .dropoutMode ≠ 1 ∨ min 255 (x.dropouts + 1) < 3) :
    s.dropoutOf ch x = ({ x with
      state := .retryWait, dropouts := min 255 (x.dropouts + 1), clearTimer := none,
      waitTimer := some (s.now + 1000 * (s.chan ch).get .retryDelay) }, false) :=
  if_neg fun dead => few.elim (fun other => other dead.1) (Nat.not_lt.mpr dead.2)

theorem dropoutOf_dead (limited : (s.chan ch).get .dropoutMode = 1) (third : 3 ≤ min 255 (x.dropouts + 1)) :
    s.dropoutOf ch x = ({ x with
      state := .dead, dropouts := min 255 (x.dropouts + 1), strikeTimer := none, waitTimer := none,
      clearTimer := none }, true) :=
  if_pos ⟨limited, third⟩

theorem dropoutOf_out : (s.dropoutOf ch x).1.state ≠ .lit := by
  unfold State.dropoutOf
  split <;> exact fun e => LampState.noConfusion e

theorem dropout (h : s.Heard l x ch f) (lost : st = .dark ∨ st = .dropout) (lit : x.state = .lit)
    (known : x.unconfirmed = false) (few : (s.chan ch).get .dropoutMode ≠ 1 ∨ min 255 (x.dropouts + 1) < 3)
    (quiet : s.countQuiet ch x.bank (s.litCount x.bank - 1)) :
    s.lampAndFrame (s.afterStatus l st f) l f ∧ s.lampCommanded (s.afterStatus l st f) l x { x with
      state := .retryWait, dropouts := min 255 (x.dropouts + 1), clearTimer := none,
      waitTimer := some (s.now + 1000 * (s.chan ch).get .retryDelay) } .quench := by
  refine h.goesOut ?_ rfl
  rw [h.lost_turn lost lit known, h.out_quiet lit dropoutOf_out quiet, dropoutOf_retry few]

theorem lastDropout (h : s.Heard l x ch f) (lost : st = .dark ∨ st = .dropout) (lit : x.state = .lit)
    (known : x.unconfirmed = false) (limited : (s.chan ch).get .dropoutMode = 1)
    (third : 3 ≤ min 255 (x.dropouts + 1)) (quiet : s.countQuiet ch x.bank (s.litCount x.bank - 1)) :
    (s.north.queue.length < 15 → s.raisedOnly (s.afterStatus l st f) .lampDead x.bank.1) ∧
      (s.afterStatus l st f).banks = s.banks ∧ (∀ m, m ≠ l → (s.afterStatus l st f).lamp m = s.lamp m) ∧
      s.lampCommanded (s.afterStatus l st f) l x { x with
        state := .dead, dropouts := min 255 (x.dropouts + 1), strikeTimer := none, waitTimer := none,
        clearTimer := none } .quench := by
  refine h.dies ?_ rfl
  rw [h.lost_turn lost lit known, h.out_quiet lit dropoutOf_out quiet, dropoutOf_dead limited third]

theorem failureOf_station (s : State) (ch : ChanId) (x : Lamp) : (s.failureOf ch x).1.station = x.station := by
  unfold State.failureOf
  dsimp only
  generalize (if x.sets = 0 then (s.chan ch).get .firstSetRetries else (s.chan ch).get .runSetRetries) = retries
  split
  · rfl
  · split <;> rfl

theorem failure (h : s.Heard l x ch f) (striking : x.state = .striking) (known : x.unconfirmed = false) :
    s.lampCommanded (s.afterStatus l .strikeFail f) l x (s.failureOf ch x).1 .quench ∧
      ((s.failureOf ch x).2 = false → s.lampAndFrame (s.afterStatus l .strikeFail f) l f) ∧
      ((s.failureOf ch x).2 = true →
        (s.north.queue.length < 15 → s.raisedOnly (s.afterStatus l .strikeFail f) .lampDead x.bank.1) ∧
          (s.afterStatus l .strikeFail f).banks = s.banks ∧
          ∀ m, m ≠ l → (s.afterStatus l .strikeFail f).lamp m = s.lamp m) := by
  have turn := h.failure_turn striking known
  have station := failureOf_station s ch x
  revert turn station
  rcases s.failureOf ch x with ⟨y, dead⟩
  intro turn station
  cases dead with
  | false =>
    obtain ⟨frame, commanded⟩ := h.goesOut turn station
    exact ⟨commanded, fun _ => frame, fun e => Bool.noConfusion e⟩
  | true =>
    obtain ⟨raised, banks, others, commanded⟩ := h.dies turn station
    exact ⟨commanded, fun e => Bool.noConfusion e, fun _ => ⟨raised, banks, others⟩⟩

theorem overtemp (h : s.Heard l x ch f)
    (out : x.state = .striking ∨ (x.state = .lit ∧ s.countQuiet ch x.bank (s.litCount x.bank - 1)))
    (known : x.unconfirmed = false) :
    s.lampAndFrame (s.afterStatus l .overtemp f) l f ∧ s.lampCommanded (s.afterStatus l .overtemp f) l x
      { x with state := .off, cool := 1000, strikeTimer := none, clearTimer := none } .quench := by
  refine h.goesOut (y := x.hotOut) ?_ rfl
  rcases out with striking | ⟨lit, quiet⟩
  · exact h.hotStrike_turn striking known
  · rw [h.hot_turn lit known, h.out_quiet lit (fun e => LampState.noConfusion e) quiet]

end State.Heard

/-! #### A status that moves no more than the index and the flag (07, R126, R127, Table 7-5) -/

/-- The index at 1000 after an OVERTEMP, else as it was (07, R126). -/
def LampStatus.index (st : LampStatus) (x : Lamp) : Nat := if st = .overtemp then 1000 else x.cool

theorem statusHot_cold (dark : x.state ≠ .lit) (idle : x.state ≠ .striking) :
    statusHot l x (s.setLamp l (some x.heard)) = s.setLamp l (some { x.heard with cool := 1000 }) := by
  have cooled := modLamp_eq (State.setLamp_lamp_self s l (some x.heard)) fun x => { x with cool := 1000 }
  rw [State.setLamp_setLamp] at cooled
  unfold statusHot
  cases state : x.state with
  | striking => exact absurd state idle
  | lit => exact absurd state dark
  | off => exact cooled
  | retryWait => exact cooled
  | longWait => exact cooled
  | dead => exact cooled

/-- A status other than LIT, of a lamp neither LIT nor STRIKING. -/
theorem statusActs_cold (other : st ≠ .lit) (dark : x.state ≠ .lit) (idle : x.state ≠ .striking) :
    statusActs l x st (s.setLamp l (some x.heard)) = s.setLamp l (some { x.heard with cool := st.index x }) := by
  have lost : statusLost l x (s.setLamp l (some x.heard)) = s.setLamp l (some x.heard) := if_neg dark
  cases st with
  | lit => exact absurd rfl other
  | dark => exact lost
  | strikeFail => exact if_neg idle
  | dropout => exact lost
  | overtemp => exact statusHot_cold dark idle

namespace State.Heard

/-- The turn's record, where the strike path is not to be tried. -/
theorem moved (h : s.Heard l x ch f) (turn : statusActs l x st (s.setLamp l (some x.heard)) = s.setLamp l (some y))
    (state : y.state = x.state) (settled : x.unconfirmed = false ∨ x.state ≠ .off) :
    s.lampAndFrame (s.afterStatus l st f) l f ∧ (s.afterStatus l st f).south = s.south ∧
      (s.afterStatus l st f).lamp l = some y := by
  refine h.recorded ?_
  rcases settled with known | on
  · rw [lampStatus_eq h.lamp h.governed, turn, known]
    rfl
  · exact lampStatus_idle h.lamp h.governed turn (State.setLamp_lamp_self _ _ _) (.inl (state ▸ on))

theorem overtempCold (h : s.Heard l x ch f) (cold : x.state = .retryWait ∨ x.state = .longWait ∨ x.state = .dead ∨
      (x.state = .off ∧ x.unconfirmed = false)) :
    s.lampAndFrame (s.afterStatus l .overtemp f) l f ∧ (s.afterStatus l .overtemp f).south = s.south ∧
      (s.afterStatus l .overtemp f).lamp l = some { x with unconfirmed := false, cool := 1000 } := by
  have out : x.state ≠ .lit ∧ x.state ≠ .striking ∧ (x.unconfirmed = false ∨ x.state ≠ .off) := by
    rcases cold with e | e | e | ⟨e, known⟩ <;> rw [e]
    · exact ⟨by decide, by decide, .inr (by decide)⟩
    · exact ⟨by decide, by decide, .inr (by decide)⟩
    · exact ⟨by decide, by decide, .inr (by decide)⟩
    · exact ⟨by decide, by decide, .inl known⟩
  obtain ⟨dark, idle, settled⟩ := out
  exact h.moved (statusActs_cold (by decide) dark idle) rfl settled

/-- Nothing but confirmation (07, R127, Table 7-5). -/
theorem confirmedOnly (h : s.Heard l x ch f) (turn : statusActs l x st (s.setLamp l (some x.heard)) =
      s.setLamp l (some x.heard)) (on : x.state ≠ .off) :
    s.lampAndFrame (s.afterStatus l st f) l f ∧ (s.afterStatus l st f).south = s.south ∧
      (s.afterStatus l st f).lamp l = some { x with unconfirmed := false } :=
  h.moved turn rfl (.inr on)

/-- A lamp OFF has a status other than LIT, and tries the strike path if this confirms it (07, R120; log 20). -/
theorem confirmedOff (h : s.Heard l x ch f) (other : st ≠ .lit) (off : x.state = .off) :
    s.lampAndFrame (s.afterStatus l st f) l f ∧
      (x.unconfirmed = true →
        s.triedStrike (s.afterStatus l st f) l { x with unconfirmed := false, cool := st.index x }) ∧
      (x.unconfirmed = false → (s.afterStatus l st f).lamp l = some { x with unconfirmed := false, cool := st.index x } ∧
        (s.afterStatus l st f).south = s.south) := by
  have turn : statusActs l x st (s.setLamp l (some x.heard)) = s.setLamp l (some { x.heard with cool := st.index x }) :=
    statusActs_cold other (by rw [off]; decide) (by rw [off]; decide)
  cases known : x.unconfirmed with
  | false =>
    obtain ⟨frame, south, lamp⟩ := h.moved turn rfl (.inl known)
    exact ⟨frame, fun e => Bool.noConfusion e, fun _ => ⟨lamp, south⟩⟩
  | true =>
    have tries : lampStatus l st s = s.lampActs l x (s.struck { x.heard with cool := st.index x }) := by
      rw [lampStatus_eq h.lamp h.governed, turn, known]
      show strikePath l _ = _
      rw [strikePath_eq (State.setLamp_lamp_self _ _ _), setLamp_lampActs (x := x) (by rfl)]
      rfl
    obtain ⟨frame, tried⟩ := triedStrike_onward (l := l) (y := { x.heard with cool := st.index x }) (x := x)
      h.rest rfl rfl
      h.away h.room
    rw [State.afterStatus, tries]
    exact ⟨frame, fun _ => tried, fun e => Bool.noConfusion e⟩

end State.Heard

end QuietOutcomes

end Sys2Proof.Machine

namespace Sys2Proof.Machine
open Sys2Proof

set_option Elab.async false

/-! ### The outcomes that take a bank somewhere: RUN, the adoption, FAULTED (05, R85, R95, R96) -/

section BankOutcomes

variable {s t u v : State} {l m : LampId} {x y w z : Lamp} {ch : ChanId} {st : LampStatus} {f : Frame} {c : LampCmd}
  {b : BankId} {n : Nat}

/-! #### What the frame that goes on leaves as it was (08, R143) -/

theorem State.HasPassedOn.address (h : s.HasPassedOn t f) : t.address = s.address := by
  have same := congrArg State.address h.onlyAlarms.1
  exact same

theorem State.cmdMade_onward (h : s.cmdMade u x z c) (onward : u.HasPassedOn t f) : s.cmdMade t x z c :=
  State.cmdMade_congr h rfl rfl onward.address.symm onward.south.symm

theorem State.putOut_onward (h : s.putOut u x z) (onward : u.HasPassedOn t f) : s.putOut t x z :=
  ⟨h.1, State.cmdMade_onward h.2 onward⟩

theorem State.flagBecame_onward {w : Bool} (h : s.flagBecame u w x z) (onward : u.HasPassedOn t f) :
    s.flagBecame t w x z := by
  unfold State.flagBecame State.strikeTried State.putOut State.cmdMade State.sentSouth State.southFull State.repeater at *
  rwa [onward.address, onward.south]

/-- The ground of a state in which one lamp's record differs. -/
theorem sameGround_setLamp (s : State) (l : LampId) (y : Lamp) : s.sameGround (s.setLamp l (some y)) :=
  ⟨rfl, rfl, rfl, fun _ => rfl, fun _ => rfl, fun _ _ => rfl, fun _ => rfl⟩

/-! #### RUN (05, R95) -/

theorem judgeLit_runs (same : s.sameBanks t) (owner : (s.bank b).owner = some ch) (live : (s.chan ch).dormant = false)
    (warming : (s.bank b).state = .warming) (warm : (s.bank b).tracker.warm = true)
    (enough : (s.bank b).get .minLampsLit ≤ t.litCount b) : judgeLit b t = runBank b t := by
  have unreached : ¬ t.reachesLit ch b = true := by
    rw [same.reachesLit, warming]
    exact fun reached => BankState.noConfusion reached.1
  rw [judgeLit_live ((congrArg Bank.owner (same.bank b)).trans owner) ((congrArg Channel.dormant (same.chan ch)).trans live),
    if_neg unreached]
  unfold judgeBurning
  rw [same.bank, warming]
  exact if_pos ⟨warm, enough⟩

namespace State.Heard

/-- The bank is in RUN after the review, or staged down by it; no other lamp moved. -/
theorem runs_of (h : s.Heard l x ch f) (turn : lampStatus l st s = runBank x.bank (s.setLamp l (some y)))
    (warming : (s.bank x.bank).state = .warming) :
    (((s.afterStatus l st f).bank x.bank).state = .run ∨ ((s.afterStatus l st f).bank x.bank).state = .quenching) ∧
      ((s.afterStatus l st f).bank x.bank).warmTimer = none ∧
      ∀ m, m ≠ l → (s.afterStatus l st f).lamp m = s.lamp m := by
  have rest : (s.setLamp l (some y)).atRest := h.rest.of_eq rfl rfl
  have sound := (State.notesSound.atRest rest).moves (State.moves.refl.runBank x.bank)
  obtain ⟨lamps, banks⟩ := ((State.sparesLamps.refl (s.setLamp l (some y))).runBank x.bank).endEvent rest.2 sound
  obtain ⟨runs, stopped, _⟩ := runBank_bank (s := s.setLamp l (some y)) warming
  have onward := passOn_hasPassedOn (f := f) (endEvent_leavesRest (runBank x.bank (s.setLamp l (some y))))
  rw [State.afterStatus, turn, onward.bank, banks]
  refine ⟨runs, stopped, fun m hm => ?_⟩
  rw [onward.lamp, State.lamp, lamps]
  exact (State.setLamp_lamp s l m _).trans (if_neg hm)

theorem runs (h : s.Heard l x ch f) (lit : (x.state = .striking ∧ x.unconfirmed = false) ∨
      (x.state = .off ∧ (x.unconfirmed = true ∨ x.wanted = true)))
    (warming : (s.bank x.bank).state = .warming) (warm : (s.bank x.bank).tracker.warm = true)
    (enough : (s.bank x.bank).get .minLampsLit ≤ s.litCount x.bank + 1)
    (going : (s.chan ch).adoption = none ∨ (s.chan ch).effMode ≠ .standdown ∨ x.state = .striking) :
    (((s.afterStatus l .lit f).bank x.bank).state = .run ∨ ((s.afterStatus l .lit f).bank x.bank).state = .quenching) ∧
      ((s.afterStatus l .lit f).bank x.bank).warmTimer = none ∧
      ∀ m, m ≠ l → (s.afterStatus l .lit f).lamp m = s.lamp m := by
  rcases lit with ⟨striking, known⟩ | ⟨off, met⟩
  · have count : (s.bank x.bank).get .minLampsLit ≤ (s.setLamp l (some (s.litAs ch false x))).litCount x.bank := by
      rwa [h.litAs_count x rfl (by rw [striking]; decide)]
    exact h.runs_of ((h.success_turn striking known).trans
      (judgeLit_runs (.setLamp s l _) h.owner h.live warming warm count)) warming
  · have count : (s.bank x.bank).get .minLampsLit ≤ (s.adopting ch l x).litCount x.bank := by rwa [h.adopting_count off]
    have runs := judgeLit_runs (t := s.adopting ch l x) adopting_same h.owner h.live warming warm count
    have going' : (s.chan ch).adoption = none ∨ (s.chan ch).effMode ≠ .standdown :=
      going.imp_right fun other => other.resolve_right (by rw [off]; decide)
    have lamp : (judgeLit x.bank (s.adopting ch l x)).lamp l = some (s.litAs ch true x.heard) := by
      rw [runs, State.lamp, ((State.sparesLamps.refl (s.adopting ch l x)).runBank x.bank).lamps]
      exact adopting_lamp
    have state : (s.litAs ch true x.heard).state ≠ .off := fun e => LampState.noConfusion e
    exact h.runs_of ((h.adoption_turn off met (.inl going') lamp (.inl state)).trans runs) warming

end State.Heard

/-! #### The adoption of the bank (05, R85) -/

/-- The adoption without its review, which an open window leaves out. -/
def takenOn (ch : ChanId) (b : BankId) (u : State) : State := wantAll true b (enlist ch b (enterWarming b u))

theorem takenOn_bank (ch : ChanId) (b : BankId) (u : State) : (takenOn ch b u).bank b = (enterWarming b u).bank b := by
  rw [takenOn, wantAll_bank]
  rfl

theorem takenOn_list (ch : ChanId) (b : BankId) (u : State) :
    ((takenOn ch b u).chan ch).startList = (u.chan ch).startList ++ [b] := by
  have chan : (enterWarming b u).chan ch = u.chan ch := by
    rw [enterWarming, State.modBank_chan, (setBankState_alarmUnitOnly b .warming u).chan, State.modBank_chan]
  rw [takenOn, wantAll_chan, enlist, State.modChan_chan_self, chan]

theorem takenOn_moves (ch : ChanId) (b : BankId) (u : State) : u.moves (takenOn ch b u) :=
  ((State.moves.refl.enterWarming b).enlist ch b).wantAll true b

theorem adoptBank_open (window : (u.chan ch).adoption ≠ none) : adoptBank ch b u = takenOn ch b u := by
  have still : ((takenOn ch b u).chan ch).adoption ≠ none := by
    rwa [(takenOn_moves ch b u).keeps Channel.adoption]
  exact review_idle (.inr still)

/-- The lamps of the adopted bank take the flag. -/
theorem takenOn_acted (ch : ChanId) (b : BankId) (u : State) :
    u.actedBy (takenOn ch b u) fun _ y => if y.bank = b then u.flagged true y else y := by
  have spared : u.sparesLamps (enlist ch b (enterWarming b u)) :=
    (((State.sparesLamps.refl u).setBankState b .warming).bank b _).chan ch _
  have moves : u.moves (enlist ch b (enterWarming b u)) := (State.moves.refl.enterWarming b).enlist ch b
  refine ((wantAll_acted true b _).2.after spared.lamps spared.slots).congr fun k y hy => ?_
  have here : (enlist ch b (enterWarming b u)).lamp k = some y := by
    rw [State.lamp, spared.lamps]
    exact hy
  simp only [mem_installed_iff here, moves.ground.flagged]

/-- A LIT lamp whose flag is set. -/
theorem State.flagged_lit (s : State) (governed : s.bankGoverned y.bank = true) (lit : y.state = .lit) :
    s.flagged true y = { y with wanted := true } := by
  unfold State.flagged
  split
  · next wanted => rw [← wanted]
  · rw [governed, if_neg Bool.noConfusion]
    exact s.struck_not_off (x := { y with wanted := true }) (show y.state ≠ .off by rw [lit]; decide)

theorem adopting_flagged (w : Bool) (y : Lamp) : (s.adopting ch l x).flagged w y = s.flagged w y :=
  (sameGround_setLamp s l _).flagged w y

namespace State.Heard

/-- The bank is adopted in the window (05, R85). -/
theorem adoptsBank (h : s.Heard l x ch f) (off : x.state = .off) (met : x.unconfirmed = true ∨ x.wanted = true)
    (window : (s.chan ch).adoption ≠ none)
    (lighting : (s.chan ch).effMode = .auto ∨ (s.chan ch).effMode = .manual ∨ (s.chan ch).effMode = .full)
    (dark : (s.bank x.bank).state = .dark) (enough : (s.bank x.bank).get .minLampsLit ≤ s.litCount x.bank + 1) :
    ((s.afterStatus l .lit f).bank x.bank).state = .warming ∧
      ((s.afterStatus l .lit f).bank x.bank).warmTimer = some (s.now + 1000 * (s.bank x.bank).get .warmLimit) ∧
      ((s.afterStatus l .lit f).chan ch).startList = (s.chan ch).startList ++ [x.bank] ∧
      (s.afterStatus l .lit f).lamp l = some { s.litAs ch true x.heard with wanted := true } ∧
      ∀ m y, m ≠ l → s.lamp m = some y →
        (y.bank ≠ x.bank → (s.afterStatus l .lit f).lamp m = some y) ∧
          (y.bank = x.bank → ∃ z, (s.afterStatus l .lit f).lamp m = some z ∧
            s.flagBecame (s.afterStatus l .lit f) true y z) := by
  have up : (s.chan ch).effMode ≠ .standdown := by
    rcases lighting with e | e | e <;> rw [e] <;> decide
  have moves := takenOn_moves ch x.bank (s.adopting ch l x)
  have acted := takenOn_acted ch x.bank (s.adopting ch l x)
  have judged : judgeLit x.bank (s.adopting ch l x) = takenOn ch x.bank (s.adopting ch l x) := by
    have owner : ((s.adopting ch l x).bank x.bank).owner = some ch := h.owner
    have live : ((s.adopting ch l x).chan ch).dormant = false := h.live
    rw [judgeLit_live owner live, if_pos ((adopting_same.reachesLit ch x.bank).mpr
      ⟨dark, window, by rwa [h.adopting_count off]⟩), if_neg (mt (adopting_same.standingDown ch).mp fun e => up e.2)]
    exact adoptBank_open window
  have own : (s.adopting ch l x).flagged true (s.litAs ch true x.heard) =
      { s.litAs ch true x.heard with wanted := true } :=
    (s.adopting ch l x).flagged_lit h.governed rfl
  have lamp : (judgeLit x.bank (s.adopting ch l x)).lamp l = some { s.litAs ch true x.heard with wanted := true } := by
    rw [judged, acted.lamp, adopting_lamp, Option.map_some,
      if_pos (show (s.litAs ch true x.heard).bank = x.bank from rfl), own]
  have turn : lampStatus l .lit s = takenOn ch x.bank (s.adopting ch l x) :=
    (h.adoption_turn off met (.inl (.inr up)) lamp (.inl fun e => LampState.noConfusion e)).trans judged
  have rest : (s.adopting ch l x).atRest := h.rest.of_eq rfl rfl
  have quiet : ∀ k, lampPos k ∉ (s.adopting ch l x).slotsMade := fun k => by rw [rest.2]; exact List.not_mem_nil
  have sound := (State.notesSound.atRest rest).moves moves
  have ground : s.sameGround (takenOn ch x.bank (s.adopting ch l x)) := (sameGround_setLamp s l _).trans moves.ground
  have onward := passOn_hasPassedOn (f := f) (endEvent_leavesRest (takenOn ch x.bank (s.adopting ch l x)))
  have bank := acted.bank rest.2 sound x.bank
  rw [takenOn_bank, enterWarming_bank, Bank.entered,
    if_neg (show ¬ ((s.adopting ch l x).bank x.bank).state = .warming from fun e => by cases dark.symm.trans e)] at bank
  rw [State.afterStatus, turn, onward.bank, onward.chan, onward.lamp, bank, (endEvent_ends sound).chan, takenOn_list]
  refine ⟨rfl, rfl, rfl, acted.stays quiet sound ground adopting_lamp ((if_pos rfl).trans own) rfl, fun m y hm hy => ?_⟩
  have there : (s.adopting ch l x).lamp m = some y := ((State.setLamp_lamp s l m _).trans (if_neg hm)).trans hy
  rw [onward.lamp]
  refine ⟨fun other => acted.stays quiet sound ground there (if_neg other) rfl, fun here => ?_⟩
  obtain ⟨z, hz, flag⟩ := acted.flag (w := true) quiet sound ground there
    ((if_pos here).trans (adopting_flagged true y))
  exact ⟨z, hz, State.flagBecame_onward flag onward⟩

end State.Heard

end BankOutcomes

end Sys2Proof.Machine

namespace Sys2Proof.Machine
open Sys2Proof

set_option Elab.async false

/-! ### A bank in RUN left with too few lamps (05, R96; 07, R118) -/

section LeftShort

variable {s t u v : State} {l m : LampId} {x y w z : Lamp} {ch : ChanId} {st : LampStatus} {f : Frame} {o : Lamp × Bool}
  {b : BankId}

theorem wentOut_acted (hx : s.lamp l = some x) :
    s.actedBy (s.wentOut l x o) fun k y => if k = l then o.1.quenching else y := by
  have one : s.actedBy (s.lampActs l x o.1.quenching) fun k y => if k = l then o.1.quenching else y :=
    .one hx fun _ => Option.some_ne_none _
  unfold State.wentOut
  split
  · refine one.still ?_ (raise_slotsMade _ _ _)
    obtain ⟨_, _, _, e⟩ := raise_alarmUnitOnly .lampDead x.bank.1 (s.lampActs l x o.1.quenching)
    rw [e]
  · exact one

theorem judgeLit_short (same : s.sameBanks t) (owner : (s.bank b).owner = some ch) (live : (s.chan ch).dormant = false)
    (run : (s.bank b).state = .run) (short : t.litCount b < (s.bank b).get .minLampsLit) : judgeLit b t = faultBank b t := by
  have unreached : ¬ t.reachesLit ch b = true := by
    rw [same.reachesLit, run]
    exact fun reached => BankState.noConfusion reached.1
  rw [judgeLit_live ((congrArg Bank.owner (same.bank b)).trans owner) ((congrArg Channel.dormant (same.chan ch)).trans live),
    if_neg unreached]
  unfold judgeBurning faultIfShort
  rw [same.bank, run]
  exact if_pos ⟨rfl, short⟩

theorem Lamp.unlit_out (out : y.state ≠ .lit) (idle : y.state ≠ .striking) :
    y.unlit.cmd = y.cmd ∧ y.unlit.station = y.station := by
  unfold Lamp.unlit
  split
  · next e => exact absurd e idle
  · next e => exact absurd e out
  · exact ⟨rfl, rfl⟩
  · exact ⟨rfl, rfl⟩
  · exact ⟨rfl, rfl⟩
  · exact ⟨rfl, rfl⟩

theorem State.flagged_governed (s : State) {w : Bool} (governed : s.bankGoverned y.bank = true) (differs : y.wanted ≠ w) :
    s.flagged w y = if w = true then s.struck { y with wanted := true } else { y with wanted := false }.unlit := by
  unfold State.flagged
  rw [if_neg differs, governed, if_neg Bool.noConfusion]

/-- The lamp that went out keeps its QUENCH as its flag is lost (07, R118). -/
theorem flagged_quenching (s : State) (governed : s.bankGoverned y.bank = true) (out : y.state ≠ .lit)
    (idle : y.state ≠ .striking) : (s.flagged false y.quenching).cmd = some .quench ∧
      (s.flagged false y.quenching).station = y.station := by
  by_cases same : y.wanted = false
  · have kept : s.flagged false y.quenching = y.quenching := if_pos same
    rw [kept]
    exact ⟨rfl, rfl⟩
  · rw [s.flagged_governed (y := y.quenching) governed same]
    exact Lamp.unlit_out (y := { y.quenching with wanted := false }) out idle

namespace State.Heard

/-- The bank is FAULTED, its lamps unwanted. -/
theorem shortOf (h : s.Heard l x ch f) (turn : lampStatus l st s = faultBank x.bank (s.wentOut l x o))
    (moves : s.moves (s.wentOut l x o)) (bank : o.1.bank = x.bank) (station : o.1.station = x.station)
    (out : o.1.state ≠ .lit) (idle : o.1.state ≠ .striking) :
    ((s.afterStatus l st f).bank x.bank).state = .faulted ∧
      ((s.afterStatus l st f).bank x.bank).faultTimer = some (s.now + 1000 * (s.bank x.bank).get .faultRest) ∧
      (∃ z, (s.afterStatus l st f).lamp l = some z ∧ s.cmdMade (s.afterStatus l st f) x z .quench ∧
        z = { s.flagged false o.1.quenching with cmd := z.cmd }) ∧
      ∀ m y, m ≠ l → s.lamp m = some y →
        (y.bank ≠ x.bank → (s.afterStatus l st f).lamp m = some y) ∧
          (y.bank = x.bank → ∃ z, (s.afterStatus l st f).lamp m = some z ∧
            s.flagBecame (s.afterStatus l st f) false y z) := by
  have first := wentOut_acted (o := o) h.lamp
  have next := enterFaulted_actedBy x.bank (s.wentOut l x o)
  have acted := first.trans next
  have whole := moves.trans (enterFaulted_moves x.bank (s.wentOut l x o))
  have owner : ((s.wentOut l x o).bank x.bank).owner = some ch :=
    (congrArg Bank.owner ((State.sameBanks.wentOut s l x o).bank x.bank)).trans h.owner
  have state : ((enterFaulted x.bank (s.wentOut l x o)).bank x.bank).state ≠ .dark := by
    rw [enterFaulted_bank]
    exact fun e => BankState.noConfusion ((Bank.entered_state .faulted _).symm.trans e)
  have left := acted.settled h.rest whole state (fun d own => by
    rw [h.owner] at own
    exact Option.some.inj own ▸ enterFaulted_off owner) ((s.wentOut l x o).listed x.bank)
  rw [← faultBank_eq] at left
  have entered : (enterFaulted x.bank (s.wentOut l x o)).bank x.bank = (s.bank x.bank).faultedAt s.now := by
    rw [enterFaulted_bank, (State.sameBanks.wentOut s l x o).bank, moves.ground.now]
  have spared := settleLoss_sparesLamps x.bank ((s.wentOut l x o).listed x.bank) (enterFaulted x.bank (s.wentOut l x o))
  rw [← faultBank_eq] at spared
  have done := acted.still spared.lamps spared.slots
  have moved : s.moves (faultBank x.bank (s.wentOut l x o)) := moves.faultBank x.bank
  have quiet : ∀ k, lampPos k ∉ s.slotsMade := fun k => by rw [h.rest.2]; exact List.not_mem_nil
  have sound := (State.notesSound.atRest h.rest).moves moved
  have onward := passOn_hasPassedOn (f := f) (endEvent_leavesRest (faultBank x.bank (s.wentOut l x o)))
  have home : ∀ {k y}, (s.wentOut l x o).lamp k = some y →
      (k ∈ (s.wentOut l x o).installed x.bank ↔ y.bank = x.bank) := fun there => mem_installed_iff there _
  rw [State.afterStatus, turn, onward.bank, onward.lamp, left.bank, entered]
  refine ⟨Bank.entered_state _ _, rfl, ?_, fun m y hm hy => ?_⟩
  · have there : (s.wentOut l x o).lamp l = some o.1.quenching := (wentOut_lamp s l x o l).trans (if_pos rfl)
    obtain ⟨cmd, same⟩ := flagged_quenching (y := o.1) s (bank ▸ h.governed) out idle
    obtain ⟨z, hz, record, made⟩ := done.commanded quiet sound moved.ground h.lamp (y := s.flagged false o.1.quenching)
      (by simp only [if_pos trivial, if_pos ((home there).mpr bank), moves.ground.flagged]) (same.trans station) cmd
    exact ⟨z, hz, State.cmdMade_onward made onward, record⟩
  · have there : (s.wentOut l x o).lamp m = some y := ((wentOut_lamp s l x o m).trans (if_neg hm)).trans hy
    rw [onward.lamp]
    refine ⟨fun other => ?_, fun here => ?_⟩
    · exact done.stays quiet sound moved.ground hy
        (by simp only [if_neg hm, if_neg (mt (home there).mp other)]) rfl
    · obtain ⟨z, hz, flag⟩ := done.flag (w := false) quiet sound moved.ground hy
        (by simp only [if_neg hm, if_pos ((home there).mpr here), moves.ground.flagged])
      exact ⟨z, hz, State.flagBecame_onward flag onward⟩

end State.Heard

/-! #### The record of the lamp that went out (07, R118, R125, R126) -/

theorem flagged_settled (s : State) (governed : s.bankGoverned y.bank = true) (still : y.state = .off ∨ y.state = .dead) :
    s.flagged false y = { y with wanted := false } := by
  by_cases same : y.wanted = false
  · rw [State.flagged, if_pos same, ← same]
  · rw [s.flagged_governed governed same, if_neg Bool.noConfusion]
    unfold Lamp.unlit
    rcases still with e | e <;> rw [e]

theorem flagged_waiting (s : State) (governed : s.bankGoverned y.bank = true) (waits : y.state = .retryWait)
    (wanted : y.wanted = true) : s.flagged false y = { y with state := .off, wanted := false, waitTimer := none } := by
  rw [s.flagged_governed governed (by rw [wanted]; exact Bool.noConfusion), if_neg Bool.noConfusion]
  unfold Lamp.unlit
  rw [waits]

theorem State.dropoutOf_frame (s : State) (ch : ChanId) (x : Lamp) :
    (s.dropoutOf ch x).1.bank = x.bank ∧ (s.dropoutOf ch x).1.station = x.station ∧
      (s.dropoutOf ch x).1.state ≠ .striking := by
  unfold State.dropoutOf
  split <;> exact ⟨rfl, rfl, fun e => LampState.noConfusion e⟩

namespace State.Heard

theorem hotShort (h : s.Heard l x ch f) (lit : x.state = .lit) (known : x.unconfirmed = false)
    (run : (s.bank x.bank).state = .run) (short : s.litCount x.bank - 1 < (s.bank x.bank).get .minLampsLit) :
    lampStatus l .overtemp s = faultBank x.bank (s.wentOut l x (x.hotOut, false)) := by
  rw [h.hot_turn lit known]
  refine judgeLit_short (.wentOut s l x _) h.owner h.live run ?_
  rwa [h.out_count lit fun e => LampState.noConfusion e]

theorem lostShort (h : s.Heard l x ch f) (lost : st = .dark ∨ st = .dropout) (lit : x.state = .lit)
    (known : x.unconfirmed = false) (run : (s.bank x.bank).state = .run)
    (short : s.litCount x.bank - 1 < (s.bank x.bank).get .minLampsLit) :
    lampStatus l st s = faultBank x.bank (s.wentOut l x (s.dropoutOf ch x)) := by
  rw [h.lost_turn lost lit known]
  refine judgeLit_short (.wentOut s l x _) h.owner h.live run ?_
  rwa [h.out_count lit dropoutOf_out]

/-- A bank in RUN left with too few (05, R96). -/
theorem leftShort (h : s.Heard l x ch f) (out : (st = .dark ∨ st = .dropout) ∨ st = .overtemp) (lit : x.state = .lit)
    (known : x.unconfirmed = false) (run : (s.bank x.bank).state = .run)
    (short : s.litCount x.bank - 1 < (s.bank x.bank).get .minLampsLit) :
    ((s.afterStatus l st f).bank x.bank).state = .faulted ∧
      ((s.afterStatus l st f).bank x.bank).faultTimer = some (s.now + 1000 * (s.bank x.bank).get .faultRest) ∧
      (∃ z, (s.afterStatus l st f).lamp l = some z ∧ s.cmdMade (s.afterStatus l st f) x z .quench ∧
        ∀ n, n = min 255 (x.dropouts + 1) →
          (st = .overtemp → z = { x with
            state := .off, wanted := false, cool := 1000, strikeTimer := none, clearTimer := none, cmd := z.cmd }) ∧
          (st ≠ .overtemp → (s.chan ch).get .dropoutMode = 1 → 3 ≤ n → z = { x with
            state := .dead, wanted := false, dropouts := n, strikeTimer := none, waitTimer := none,
            clearTimer := none, cmd := z.cmd }) ∧
          (st ≠ .overtemp → ((s.chan ch).get .dropoutMode ≠ 1 ∨ n < 3) →
            (x.wanted = true → z = { x with
              state := .off, wanted := false, dropouts := n, waitTimer := none, clearTimer := none, cmd := z.cmd }) ∧
            (x.wanted = false → z = { x with
              state := .retryWait, dropouts := n, clearTimer := none,
              waitTimer := some (s.now + 1000 * (s.chan ch).get .retryDelay), cmd := z.cmd }))) ∧
      ∀ m y, m ≠ l → s.lamp m = some y →
        (y.bank ≠ x.bank → (s.afterStatus l st f).lamp m = some y) ∧
          (y.bank = x.bank → ∃ z, (s.afterStatus l st f).lamp m = some z ∧
            s.flagBecame (s.afterStatus l st f) false y z) := by
  have governed := h.governed
  rcases out with lost | rfl
  · obtain ⟨bank, station, idle⟩ := s.dropoutOf_frame ch x
    have moves : s.moves (s.wentOut l x (s.dropoutOf ch x)) := by
      rw [← dropoutLamp_eq h.lamp h.owner]
      exact State.moves.refl.dropoutLamp l
    obtain ⟨state, timer, ⟨z, hz, made, record⟩, others⟩ :=
      h.shortOf (h.lostShort lost lit known run short) moves bank station dropoutOf_out idle
    refine ⟨state, timer, ⟨z, hz, made, ?_⟩, others⟩
    have cold : st ≠ .overtemp := by
      rcases lost with rfl | rfl <;> exact LampStatus.noConfusion
    have live : s.bankGoverned (s.dropoutOf ch x).1.quenching.bank = true := by
      show s.bankGoverned (s.dropoutOf ch x).1.bank = true
      rwa [bank]
    rintro n rfl
    refine ⟨fun hot => absurd hot cold, fun _ limited third => ?_,
      fun _ few => ⟨fun wanted => ?_, fun unwanted => ?_⟩⟩
    · have dead := dropoutOf_dead (s := s) limited third
      rw [flagged_settled s live (.inr (congrArg (fun o => o.1.state) dead)), dead] at record
      exact record
    · have retry := dropoutOf_retry (s := s) few
      rw [flagged_waiting s live (congrArg (fun o => o.1.state) retry)
        ((congrArg (fun o => o.1.wanted) retry).trans wanted), retry] at record
      exact record
    · have retry := dropoutOf_retry (s := s) few
      have off : (s.dropoutOf ch x).1.quenching.wanted = false :=
        (congrArg (fun o => o.1.wanted) retry).trans unwanted
      have kept : s.flagged false (s.dropoutOf ch x).1.quenching = (s.dropoutOf ch x).1.quenching := if_pos off
      rw [kept, retry] at record
      exact record
  · have moves : s.moves (s.wentOut l x (x.hotOut, false)) := by
      rw [← overtempOut_eq h.lamp]
      exact State.moves.refl.overtempOut l
    obtain ⟨state, timer, ⟨z, hz, made, record⟩, others⟩ :=
      h.shortOf (h.hotShort lit known run short) moves rfl rfl (fun e => LampState.noConfusion e)
        (fun e => LampState.noConfusion e)
    rw [flagged_settled (y := x.hotOut.quenching) s governed (.inl rfl)] at record
    exact ⟨state, timer, ⟨z, hz, made, fun _ _ => ⟨fun _ => record, fun other => absurd rfl other,
      fun other => absurd rfl other⟩⟩, others⟩

end State.Heard

end LeftShort

end Sys2Proof.Machine

namespace Sys2Proof.Machine
open Sys2Proof

set_option Elab.async false

/-! ### In an open window no review follows a bank's transition (05, R88) -/

section OpenWindow

variable {s t u : State} {ch : ChanId} {b c : BankId} {x y : Lamp} {k : LampId}

theorem requestStageUp_open (window : (u.chan ch).adoption ≠ none) :
    (∀ c, (requestStageUp ch u).bank c = u.bank c) ∧ ((requestStageUp ch u).chan ch).adoption ≠ none := by
  have asked : ∀ g : Channel → Nat,
      ((u.modChan ch fun x => { x with pendingUp := g x }).chan ch).adoption ≠ none := fun g => by
    rwa [State.modChan_chan_self]
  unfold requestStageUp
  split
  · rw [review_idle (.inr (asked _))]
    exact ⟨fun _ => rfl, asked _⟩
  · exact ⟨fun _ => rfl, window⟩

theorem settleLoss_open (owner : (u.bank b).owner = some ch) (window : (u.chan ch).adoption ≠ none) (was : Bool)
    (c : BankId) : (settleLoss b was u).bank c = u.bank c := by
  have asked : (∀ c, (if was then requestForBank b u else u).bank c = u.bank c) ∧
      ((if was then requestForBank b u else u).chan ch).adoption ≠ none := by
    split
    · unfold requestForBank
      rw [owner]
      exact requestStageUp_open window
    · exact ⟨fun _ => rfl, window⟩
  obtain ⟨banks, still⟩ := asked
  unfold settleLoss reviewOwner
  rw [banks, owner]
  dsimp only
  rw [review_idle (.inr still)]
  exact banks c

theorem faultBank_open (owner : (u.bank b).owner = some ch) (window : (u.chan ch).adoption ≠ none) (c : BankId) :
    (faultBank b u).bank c = if c = b then (u.bank b).faultedAt u.now else u.bank c := by
  have moves := enterFaulted_moves b u
  have window' : ((enterFaulted b u).chan ch).adoption ≠ none := by rwa [moves.keeps Channel.adoption]
  rw [faultBank_eq, settleLoss_open ((moves.owner b).trans owner) window']
  by_cases e : c = b
  · rw [if_pos e, e, enterFaulted_bank]
  · rw [if_neg e, enterFaulted_eq, State.modBank_bank, if_neg e, withdraw_bank_other e]

theorem runBank_open (owner : (u.bank b).owner = some ch) (window : (u.chan ch).adoption ≠ none) :
    runBank b u = enterRun b u := by
  have moves : u.moves (enterRun b u) := State.moves.refl.enterRun b
  unfold runBank reviewOwner
  rw [moves.owner, owner]
  exact review_idle (.inr (by rwa [moves.keeps Channel.adoption]))

end OpenWindow

/-! ### The banks judged after adopted lamps were put out (05, R85, R94 to R96; log 17) -/

section Judged

variable {s t u v w old : State} {ch : ChanId} {b c : BankId} {bs : List BankId} {x y : Lamp} {k : LampId}

/-- A changed lit count that leaves a RUN bank short. -/
def State.dueShort (s old : State) (b : BankId) : Bool :=
  s.litCount b ≠ old.litCount b && (s.bank b).state = .run && s.litCount b < (s.bank b).get .minLampsLit

/-- A changed lit count that leaves a WARMING bank with a PASS and lamps enough. -/
def State.dueRun (s old : State) (b : BankId) : Bool :=
  s.litCount b ≠ old.litCount b && (s.bank b).state = .warming && (s.bank b).tracker.warm &&
    (s.bank b).get .minLampsLit ≤ s.litCount b

theorem State.dueShort_iff (s old : State) (b : BankId) : s.dueShort old b = true ↔ s.litCount b ≠ old.litCount b ∧
    (s.bank b).state = .run ∧ s.litCount b < (s.bank b).get .minLampsLit := by
  simp [State.dueShort, and_assoc]

theorem State.dueRun_iff (s old : State) (b : BankId) : s.dueRun old b = true ↔ s.litCount b ≠ old.litCount b ∧
    (s.bank b).state = .warming ∧ (s.bank b).tracker.warm = true ∧ (s.bank b).get .minLampsLit ≤ s.litCount b := by
  simp [State.dueRun, and_assoc]

/-- A bank judged if its lit count has changed since `old`. -/
def judgeChanged (old : State) (b : BankId) (out : State) : State :=
  if out.litCount b = old.litCount b then out else judgeBurning b out

theorem judgeChanged_eq (old : State) (b : BankId) (u : State) : judgeChanged old b u =
    if u.dueShort old b then faultBank b u else if u.dueRun old b then runBank b u else u := by
  unfold judgeChanged
  split
  · next same =>
    have calm : u.dueShort old b = false ∧ u.dueRun old b = false := by simp [State.dueShort, State.dueRun, same]
    rw [calm.1, calm.2]
    rfl
  · next changed =>
    unfold judgeBurning faultIfShort State.dueShort State.dueRun
    cases state : (u.bank b).state <;> simp [changed]

/-- Of the listed banks, those whose count has changed since `old` have been judged, once. -/
structure State.JudgedBanks (old s t : State) (bs : List BankId) : Prop where
  moves : s.moves t
  acted : s.actedBy t fun _ y => if y.bank ∈ bs ∧ s.dueShort old y.bank = true then s.flagged false y else y
  short : ∀ b ∈ bs, s.dueShort old b = true → t.bank b = (s.bank b).faultedAt s.now
  runs  : ∀ b ∈ bs, s.dueRun old b = true → (t.bank b).state = .run ∧ (t.bank b).warmTimer = none
  same  : ∀ b, (b ∈ bs → s.dueShort old b = false ∧ s.dueRun old b = false) → t.bank b = s.bank b

theorem judgeChanged_judged (owner : (u.bank b).owner = some ch) (window : (u.chan ch).adoption ≠ none) :
    State.JudgedBanks old u (judgeChanged old b u) [b] := by
  rw [judgeChanged_eq]
  by_cases short : u.dueShort old b = true
  · rw [if_pos short]
    have banks := faultBank_open owner window
    have spared := settleLoss_sparesLamps b (u.listed b) (enterFaulted b u)
    rw [← faultBank_eq] at spared
    have notRun : u.dueRun old b = false := by
      obtain ⟨_, run, _⟩ := (u.dueShort_iff old b).mp short
      simp [State.dueRun, run]
    refine ⟨State.moves.refl.faultBank b, ?_, ?_, ?_, fun c calm => ?_⟩
    · refine ((enterFaulted_actedBy b u).still spared.lamps spared.slots).congr fun k y hy => ?_
      refine if_congr ?_ rfl rfl
      rw [mem_installed_iff hy, List.mem_singleton]
      exact ⟨fun e => ⟨e, e ▸ short⟩, And.left⟩
    · intro c hc _
      rw [banks, List.mem_singleton.mp hc, if_pos rfl]
    · intro c hc due
      rw [List.mem_singleton.mp hc, notRun] at due
      cases due
    · have other : c ≠ b := fun e => by
        have off := (calm (List.mem_singleton.mpr e)).1
        rw [e, short] at off
        cases off
      rw [banks, if_neg other]
  · rw [if_neg short]
    rw [Bool.not_eq_true] at short
    have idle : u.actedBy u fun _ y => if y.bank ∈ [b] ∧ u.dueShort old y.bank = true then u.flagged false y else y :=
      (State.actedBy.of_eq rfl rfl).congr fun k y _ => by
        refine (if_neg ?_).symm
        rintro ⟨here, due⟩
        rw [List.mem_singleton.mp here, short] at due
        cases due
    have notShort : ∀ c ∈ [b], u.dueShort old c = true → u.bank c = (u.bank c).faultedAt u.now := fun c hc due => by
      rw [List.mem_singleton.mp hc, short] at due
      cases due
    by_cases runs : u.dueRun old b = true
    · rw [if_pos runs, runBank_open owner window]
      have spared := (State.sparesLamps.refl u).enterRun b
      obtain ⟨_, warming, _⟩ := (u.dueRun_iff old b).mp runs
      obtain ⟨run, stopped, _⟩ := enterRun_bank warming
      refine ⟨State.moves.refl.enterRun b, idle.still spared.lamps spared.slots, fun c hc due => ?_, fun c hc _ => ?_,
        fun c calm => ?_⟩
      · rw [List.mem_singleton.mp hc, short] at due
        cases due
      · rw [List.mem_singleton.mp hc]
        exact ⟨run, stopped⟩
      · have other : c ≠ b := fun e => by
          have off := (calm (List.mem_singleton.mpr e)).2
          rw [e, runs] at off
          cases off
        exact enterRun_bank_other other u
    · rw [if_neg runs]
      refine ⟨.refl, idle, notShort, fun c hc due => ?_, fun _ _ => rfl⟩
      rw [List.mem_singleton.mp hc] at due
      exact absurd due runs

theorem Lamp.unlit_bank (x : Lamp) : x.unlit.bank = x.bank := by
  unfold Lamp.unlit
  split <;> rfl

theorem State.flagged_bank (s : State) (w : Bool) (x : Lamp) : (s.flagged w x).bank = x.bank := by
  unfold State.flagged
  split
  · rfl
  · split
    · rfl
    · split
      · exact s.struck_bank _
      · exact Lamp.unlit_bank _

namespace State.JudgedBanks

/-- A bank whose turn has not come is judged as it stood. -/
theorem litCount (h : State.JudgedBanks old s t bs) (hc : c ∉ bs) : t.litCount c = s.litCount c := by
  refine State.countLamps_congr fun k => ?_
  rw [h.acted.lamp]
  cases s.lamp k with
  | none => rfl
  | some y =>
    rw [Option.map_some]
    by_cases here : y.bank = c
    · rw [if_neg fun listed => hc (here ▸ listed.1)]
    · have away : ∀ z : Lamp, z.bank = y.bank → countsIn c (fun x => x.state = .lit) (some z) = false := fun z e => by
        simp [countsIn, e, here]
      rw [away y rfl, away _]
      split
      · exact s.flagged_bank _ _
      · rfl

theorem dueShort (h : State.JudgedBanks old s t bs) (hc : c ∉ bs) : t.dueShort old c = s.dueShort old c := by
  unfold State.dueShort
  rw [h.litCount hc, h.same c fun listed => absurd listed hc]

theorem dueRun (h : State.JudgedBanks old s t bs) (hc : c ∉ bs) : t.dueRun old c = s.dueRun old c := by
  unfold State.dueRun
  rw [h.litCount hc, h.same c fun listed => absurd listed hc]

/-- One bank after the other. -/
theorem cons (first : State.JudgedBanks old s t [b]) (hb : b ∉ bs) (rest : State.JudgedBanks old t u bs) :
    State.JudgedBanks old s u (b :: bs) := by
  have apart : ∀ {c}, c ∈ bs → c ∉ [b] := fun hc e => hb (List.mem_singleton.mp e ▸ hc)
  have still : u.bank b = t.bank b := rest.same b fun listed => absurd listed hb
  have before : ∀ {c}, c ∈ bs → t.bank c = s.bank c := fun hc => first.same _ fun listed => absurd listed (apart hc)
  refine ⟨first.moves.trans rest.moves, ?_, fun c hc due => ?_, fun c hc due => ?_, fun c calm => ?_⟩
  · refine (first.acted.trans rest.acted).congr fun k y hy => ?_
    by_cases here : y.bank = b
    · have turn : ∀ z : Lamp, z.bank = y.bank →
          (if z.bank ∈ bs ∧ t.dueShort old z.bank = true then t.flagged false z else z) = z := fun z e =>
        if_neg fun listed => hb (here ▸ e ▸ listed.1)
      rw [turn]
      · simp [here]
      · split
        · exact s.flagged_bank _ _
        · rfl
    · rw [if_neg (show ¬ (y.bank ∈ [b] ∧ s.dueShort old y.bank = true) from fun listed =>
        here (List.mem_singleton.mp listed.1))]
      by_cases listed : y.bank ∈ bs
      · simp only [listed, List.mem_cons, or_true, first.dueShort (apart listed), first.moves.ground.flagged]
      · simp [listed, here]
  · rcases List.mem_cons.mp hc with rfl | hc
    · rw [still, first.short c (List.mem_singleton.mpr rfl) due]
    · rw [← first.dueShort (apart hc)] at due
      rw [rest.short c hc due, before hc, first.moves.ground.now]
  · rcases List.mem_cons.mp hc with rfl | hc
    · rw [still]
      exact first.runs c (List.mem_singleton.mpr rfl) due
    · rw [← first.dueRun (apart hc)] at due
      exact rest.runs c hc due
  · have once : t.bank c = s.bank c := first.same c fun listed =>
      calm (List.mem_cons.mpr (.inl (List.mem_singleton.mp listed)))
    rw [← once]
    refine rest.same c fun listed => ?_
    rw [first.dueShort (apart listed), first.dueRun (apart listed)]
    exact calm (List.mem_cons_of_mem b listed)

end State.JudgedBanks

theorem judgeChanged_all (distinct : bs.Nodup) (owned : ∀ b ∈ bs, (u.bank b).owner = some ch)
    (window : (u.chan ch).adoption ≠ none) : State.JudgedBanks old u (forEach bs (judgeChanged old) u) bs := by
  induction bs generalizing u with
  | nil =>
    refine ⟨.refl, (State.actedBy.of_eq rfl rfl).congr fun _ y _ => (if_neg fun listed => ?_).symm, ?_, ?_,
      fun _ _ => rfl⟩
    · cases listed.1
    · intro b hb
      cases hb
    · intro b hb
      cases hb
  | cons b bs ih =>
    obtain ⟨hb, distinct⟩ := List.nodup_cons.mp distinct
    have first : State.JudgedBanks old u (judgeChanged old b u) [b] :=
      judgeChanged_judged (owned b (List.mem_cons_self ..)) window
    rw [forEach_cons]
    refine first.cons hb (ih distinct (fun c hc => ?_) ?_)
    · rw [first.moves.owner]
      exact owned c (List.mem_cons_of_mem b hc)
    · rwa [first.moves.keeps Channel.adoption]

end Judged

end Sys2Proof.Machine

namespace Sys2Proof.Machine
open Sys2Proof

set_option Elab.async false

/-! ### The adopted lamps of a standing-down channel are put out (05, R85; log 17) -/

section PutOutAdopted

variable {s t u v w old : State} {ch : ChanId} {b c : BankId} {x y z : Lamp} {k l m : LampId} {f : Frame}

/-- A lamp put out if it is LIT by an adoption. -/
def Lamp.adoptedOut (x : Lamp) : Lamp := if x.state = .lit ∧ x.adopted = true then x.quenched else x

def putOutAdopted (l : LampId) (s : State) : State := if s.adoptedLit l then putOutLit l s else s

theorem putOutAdopted_eq (hx : s.lamp l = some x) : putOutAdopted l s = s.lampActs l x x.adoptedOut := by
  have lit : s.adoptedLit l = true ↔ x.state = .lit ∧ x.adopted = true := by simp [State.adoptedLit, hx]
  unfold putOutAdopted Lamp.adoptedOut
  split
  · next out => rw [if_pos (lit.mp out), putOutLit_eq hx]
  · next stays => rw [if_neg (mt lit.mpr stays), lampActs_same hx]

theorem Lamp.adoptedOut_full (x : Lamp) (h : x.cmd ≠ none) : x.adoptedOut.cmd ≠ none := by
  unfold Lamp.adoptedOut
  split
  · exact Option.some_ne_none _
  · exact h

theorem Lamp.adoptedOut_bank (x : Lamp) : x.adoptedOut.bank = x.bank := by
  unfold Lamp.adoptedOut
  split <;> rfl

/-- A lamp LIT otherwise than by an adoption. -/
def Lamp.struckLit (x : Lamp) : Bool := x.state = .lit && !x.adopted

theorem Lamp.adoptedOut_lit (x : Lamp) : (x.adoptedOut.state = .lit) ↔ x.struckLit = true := by
  unfold Lamp.adoptedOut Lamp.struckLit
  split
  · next out => simp [out, Lamp.quenched]
  · next stays =>
    rw [Bool.and_eq_true, decide_eq_true_iff, Bool.not_eq_true', ← Bool.not_eq_true]
    exact ⟨fun lit => ⟨lit, fun adopted => stays ⟨lit, adopted⟩⟩, And.left⟩

/-- The channel's adopted lamps out, the banks not judged yet. -/
def putOutLamps (ch : ChanId) (u : State) : State := forEach (u.channelLamps ch) putOutAdopted u

theorem putOutChannel_eq (ch : ChanId) (u : State) :
    putOutChannel ch u = forEach (u.ownedBanks ch) (judgeChanged u) (putOutLamps ch u) := rfl

theorem putOutLamps_acted (ch : ChanId) (u : State) : u.lampsOnly (putOutLamps ch u) ∧
    u.actedBy (putOutLamps ch u) fun _ x => if (u.bank x.bank).owner = some ch then x.adoptedOut else x :=
  channelLamps_acted u ch (fun _ _ _ _ hx => putOutAdopted_eq hx) Lamp.adoptedOut_full

theorem putOutLamps_moves (ch : ChanId) (u : State) : u.moves (putOutLamps ch u) :=
  .each (fun l _ h => by
    unfold putOutAdopted
    split
    · exact h.putOutLit l
    · exact h) _ .refl

/-- After it the lit lamps of a bank of the channel are those that no adoption lit. -/
theorem putOutLamps_litCount (owner : (u.bank b).owner = some ch) : (putOutLamps ch u).litCount b = u.struckLit b := by
  refine State.countLamps_congr fun k => ?_
  rw [(putOutLamps_acted ch u).2.lamp]
  cases u.lamp k with
  | none => rfl
  | some y =>
    rw [Option.map_some]
    by_cases here : y.bank = b
    · subst here
      have lit := y.adoptedOut_lit
      unfold Lamp.struckLit at lit
      simp only [countsIn, if_pos owner, y.adoptedOut_bank, lit, decide_true, Bool.true_and, Bool.decide_eq_true]
    · have bank : (if (u.bank y.bank).owner = some ch then y.adoptedOut else y).bank ≠ b := by
        split
        · rwa [y.adoptedOut_bank]
        · exact here
      simp [countsIn, bank, here]

theorem State.countLamps_split (s : State) (b : BankId) (q p : Lamp → Bool) : s.countLamps b q =
    (s.countLamps b fun x => q x && p x) + s.countLamps b fun x => q x && !p x := by
  have parts := List.countP_eq_countP_filter_add (List.finRange 64) (fun l => countsIn b q (s.lamp l))
    fun l => countsIn b p (s.lamp l)
  rw [List.countP_filter, List.countP_filter] at parts
  rw [State.countLamps_eq, State.countLamps_eq, State.countLamps_eq, parts]
  refine congrArg₂ (· + ·) (List.countP_congr fun l _ => ?_) (List.countP_congr fun l _ => ?_)
  · cases s.lamp l with
    | none => rfl
    | some x => by_cases here : x.bank = b <;> simp [countsIn, here]
  · cases s.lamp l with
    | none => rfl
    | some x => by_cases here : x.bank = b <;> simp [countsIn, here]

theorem State.countLamps_pos_iff (s : State) (b : BankId) (q : Lamp → Bool) : 0 < s.countLamps b q ↔
    ∃ m y, s.lamp m = some y ∧ y.bank = b ∧ q y = true := by
  rw [State.countLamps_eq, List.countP_pos_iff]
  constructor
  · rintro ⟨m, _, counts⟩
    cases hy : s.lamp m with
    | none =>
      rw [hy] at counts
      cases counts
    | some y =>
      rw [hy, countsIn, Bool.and_eq_true, decide_eq_true_iff] at counts
      exact ⟨m, y, hy, counts⟩
  · rintro ⟨m, y, hy, here, counts⟩
    refine ⟨m, List.mem_finRange m, ?_⟩
    rw [hy, countsIn, Bool.and_eq_true, decide_eq_true_iff]
    exact ⟨here, counts⟩

/-- The count changes where a lamp was LIT by an adoption. -/
theorem struckLit_ne_iff (u : State) (b : BankId) : u.struckLit b ≠ u.litCount b ↔
    ∃ m y, u.lamp m = some y ∧ y.bank = b ∧ y.state = .lit ∧ y.adopted = true := by
  have parts : u.litCount b = (u.countLamps b fun x => x.state = .lit && x.adopted) + u.struckLit b :=
    u.countLamps_split b (fun x => x.state = .lit) fun x => x.adopted
  have some := u.countLamps_pos_iff b fun x => x.state = .lit && x.adopted
  simp only [Bool.and_eq_true, decide_eq_true_iff] at some
  rw [← some]
  omega

/-! #### A channel put out in the window (05, R85) -/

/-- Between `u` and `t` the channel's adopted lamps were put out, and each bank whose count this changed was judged. -/
structure State.ChannelPutOut (u t : State) (ch : ChanId) : Prop where
  moves : u.moves t
  acted : u.actedBy t fun _ y =>
    if (u.bank y.bank).owner = some ch then
      (if (putOutLamps ch u).dueShort u y.bank = true then u.flagged false y.adoptedOut else y.adoptedOut)
    else y
  short : ∀ b, (u.bank b).owner = some ch → (putOutLamps ch u).dueShort u b = true →
    t.bank b = (u.bank b).faultedAt u.now
  runs  : ∀ b, (u.bank b).owner = some ch → (putOutLamps ch u).dueRun u b = true →
    (t.bank b).state = .run ∧ (t.bank b).warmTimer = none
  same  : ∀ b, ((u.bank b).owner = some ch →
    (putOutLamps ch u).dueShort u b = false ∧ (putOutLamps ch u).dueRun u b = false) → t.bank b = u.bank b

theorem putOutChannel_putOut (window : (u.chan ch).adoption ≠ none) : u.ChannelPutOut (putOutChannel ch u) ch := by
  obtain ⟨only, out⟩ := putOutLamps_acted ch u
  have moves := putOutLamps_moves ch u
  have banks : ∀ b, (putOutLamps ch u).bank b = u.bank b := fun b => by
    obtain ⟨_, _, e⟩ := only
    rw [e]
    rfl
  have judged : State.JudgedBanks u (putOutLamps ch u) (putOutChannel ch u) (u.ownedBanks ch) := by
    rw [putOutChannel_eq]
    refine judgeChanged_all (ch := ch) (u.ownedBanks_nodup ch) (fun b hb => ?_) ?_
    · rw [banks]
      exact (u.mem_ownedBanks ch b).mp hb
    · rwa [moves.keeps Channel.adoption]
  refine ⟨moves.trans judged.moves, ?_, fun b own due => ?_, fun b own due => ?_, fun b calm => ?_⟩
  · refine (out.trans judged.acted).congr fun k y _ => ?_
    by_cases own : (u.bank y.bank).owner = some ch
    · simp only [own, if_true, y.adoptedOut_bank, u.mem_ownedBanks, true_and, moves.ground.flagged]
    · simp only [own, u.mem_ownedBanks, false_and, if_false]
  · rw [judged.short b ((u.mem_ownedBanks ch b).mpr own) due, banks, moves.ground.now]
  · exact judged.runs b ((u.mem_ownedBanks ch b).mpr own) due
  · rw [judged.same b fun listed => calm ((u.mem_ownedBanks ch b).mp listed), banks]

/-! #### The lamp whose adoption put them out (05, R85; log 17) -/

theorem adopting_other (hm : m ≠ l) : (s.adopting ch l x).lamp m = s.lamp m :=
  (State.setLamp_lamp s l m _).trans (if_neg hm)

theorem adopting_struckLit (hx : s.lamp l = some x) (off : x.state = .off) (b : BankId) :
    (s.adopting ch l x).struckLit b = s.struckLit b := by
  refine State.countLamps_congr fun k => ?_
  by_cases e : k = l
  · rw [e, adopting_lamp, hx]
    simp [countsIn, State.litAs, off]
  · rw [adopting_other e]

theorem adopting_reaches (hx : s.lamp l = some x) (away : b ≠ x.bank) :
    (∃ m y, (s.adopting ch l x).lamp m = some y ∧ y.bank = b ∧ y.state = .lit ∧ y.adopted = true) ↔
      ∃ m y, s.lamp m = some y ∧ y.bank = b ∧ y.state = .lit ∧ y.adopted = true := by
  refine exists_congr fun m => exists_congr fun y => ?_
  by_cases e : m = l
  · subst e
    rw [adopting_lamp, hx]
    refine ⟨fun ⟨same, here, _⟩ => ?_, fun ⟨same, here, _⟩ => ?_⟩
    · exact absurd (here.symm.trans (congrArg Lamp.bank (Option.some.inj same)).symm) away
    · exact absurd (here.symm.trans (congrArg Lamp.bank (Option.some.inj same)).symm) away
  · rw [adopting_other e]

theorem putOutLamps_bank (u : State) (b : BankId) : (putOutLamps ch u).bank b = u.bank b := by
  obtain ⟨_, _, e⟩ := (putOutLamps_acted ch u).1
  rw [e]
  rfl

/-- The banks judged are those that R85's putting out reaches. -/
theorem dueShort_adopting (hx : s.lamp l = some x) (off : x.state = .off) (dark : (s.bank x.bank).state = .dark)
    (own : (s.bank b).owner = some ch) :
    (putOutLamps ch (s.adopting ch l x)).dueShort (s.adopting ch l x) b = true ↔ s.leftShort ch b := by
  have own' : ((s.adopting ch l x).bank b).owner = some ch := own
  rw [State.dueShort_iff, putOutLamps_litCount own', struckLit_ne_iff, putOutLamps_bank, adopting_same.bank,
    adopting_struckLit hx off, State.leftShort, State.putOutReaches]
  by_cases here : b = x.bank
  · rw [here, dark]
    exact ⟨fun due => BankState.noConfusion due.2.1, fun due => BankState.noConfusion due.2.1⟩
  · rw [adopting_reaches hx here, own, and_iff_right rfl]

theorem dueRun_adopting (hx : s.lamp l = some x) (off : x.state = .off) (dark : (s.bank x.bank).state = .dark)
    (own : (s.bank b).owner = some ch) :
    (putOutLamps ch (s.adopting ch l x)).dueRun (s.adopting ch l x) b = true ↔ s.leftWarm ch b := by
  have own' : ((s.adopting ch l x).bank b).owner = some ch := own
  rw [State.dueRun_iff, putOutLamps_litCount own', struckLit_ne_iff, putOutLamps_bank, adopting_same.bank,
    adopting_struckLit hx off, State.leftWarm, State.putOutReaches]
  by_cases here : b = x.bank
  · rw [here, dark]
    exact ⟨fun due => BankState.noConfusion due.2.1, fun due => BankState.noConfusion due.2.1⟩
  · rw [adopting_reaches hx here, own, and_iff_right rfl]

namespace State.Heard

/-- The status is taken as the channel's adopted lamps are put out. -/
theorem putsOut_turn (h : s.Heard l x ch f) (off : x.state = .off) (met : x.unconfirmed = true ∨ x.wanted = true)
    (window : (s.chan ch).adoption ≠ none) (down : (s.chan ch).effMode = .standdown)
    (dark : (s.bank x.bank).state = .dark) (enough : (s.bank x.bank).get .minLampsLit ≤ s.litCount x.bank + 1) :
    lampStatus l .lit s = putOutChannel ch (s.adopting ch l x) := by
  have owner : ((s.adopting ch l x).bank x.bank).owner = some ch := h.owner
  have live : ((s.adopting ch l x).chan ch).dormant = false := h.live
  have judged : judgeLit x.bank (s.adopting ch l x) = putOutChannel ch (s.adopting ch l x) := by
    rw [judgeLit_live owner live, if_pos ((adopting_same.reachesLit ch x.bank).mpr
      ⟨dark, window, by rwa [h.adopting_count off]⟩), if_pos ((adopting_same.standingDown ch).mpr ⟨window, down⟩)]
  have out := putOutChannel_putOut (u := s.adopting ch l x) (ch := ch) window
  have calm : (putOutLamps ch (s.adopting ch l x)).dueShort (s.adopting ch l x) x.bank = false := by
    rw [Bool.eq_false_iff, ne_eq, dueShort_adopting h.lamp off dark h.owner]
    exact fun short => by cases dark.symm.trans short.2.1
  refine (h.adoption_turn off met (.inr ⟨dark, window, enough⟩) (z := (s.litAs ch true x.heard).adoptedOut) ?_
    (.inr rfl)).trans judged
  rw [judged, out.acted.lamp, adopting_lamp, Option.map_some]
  exact congrArg some ((if_pos owner).trans (if_neg (Bool.eq_false_iff.mp calm)))

end State.Heard

end PutOutAdopted

end Sys2Proof.Machine

namespace Sys2Proof.Machine
open Sys2Proof

set_option Elab.async false

/-! ### An adoption in a standing-down window puts out its channel's adopted lamps (05, R85, R95, R96; log 17) -/

section StandingDown

variable {s t : State} {ch : ChanId} {b : BankId} {x y z : Lamp} {k l m : LampId} {f : Frame}

/-- A lamp put out already loses no more with its flag. -/
theorem flagged_adoptedOut (s : State) (out : y.state = .lit ∧ y.adopted = true) :
    s.flagged false y.adoptedOut = y.adoptedOut ∧ y.adoptedOut = y.quenched := by
  have quenched : y.adoptedOut = y.quenched := if_pos out
  rw [quenched]
  exact ⟨if_pos rfl, rfl⟩

/-- What a putting out that its channel's banks take in makes of a bank (05, R85, R95, R96). -/
theorem State.ChannelPutOut.bank (h : (s.adopting ch l x).ChannelPutOut t ch) (hx : s.lamp l = some x)
    (off : x.state = .off) (dark : (s.bank x.bank).state = .dark) (b : BankId) :
    (s.leftShort ch b → (t.bank b).state = .faulted ∧
        (t.bank b).faultTimer = some (s.now + 1000 * (s.bank b).get .faultRest)) ∧
      (s.leftWarm ch b → (t.bank b).state = .run ∧ (t.bank b).warmTimer = none) ∧
      (¬ s.leftShort ch b → ¬ s.leftWarm ch b → t.bank b = s.bank b) := by
  refine ⟨fun short => ?_, fun warm => ?_, fun long cold => ?_⟩
  · obtain ⟨⟨own, _⟩, _⟩ := id short
    rw [h.short b own ((dueShort_adopting hx off dark own).mpr short)]
    exact ⟨Bank.entered_state _ _, rfl⟩
  · obtain ⟨⟨own, _⟩, _⟩ := id warm
    exact h.runs b own ((dueRun_adopting hx off dark own).mpr warm)
  · refine h.same b fun own => ⟨?_, ?_⟩
    · exact Bool.eq_false_iff.mpr (mt (dueShort_adopting hx off dark own).mp long)
    · exact Bool.eq_false_iff.mpr (mt (dueRun_adopting hx off dark own).mp cold)

namespace State.Heard

theorem putsOut (h : s.Heard l x ch f) (off : x.state = .off) (met : x.unconfirmed = true ∨ x.wanted = true)
    (window : (s.chan ch).adoption ≠ none) (down : (s.chan ch).effMode = .standdown)
    (dark : (s.bank x.bank).state = .dark) (enough : (s.bank x.bank).get .minLampsLit ≤ s.litCount x.bank + 1) :
    (∀ b, (s.leftShort ch b → ((s.afterStatus l .lit f).bank b).state = .faulted ∧
          ((s.afterStatus l .lit f).bank b).faultTimer = some (s.now + 1000 * (s.bank b).get .faultRest)) ∧
        (s.leftWarm ch b → ((s.afterStatus l .lit f).bank b).state = .run ∧
          ((s.afterStatus l .lit f).bank b).warmTimer = none) ∧
        (¬ s.leftShort ch b → ¬ s.leftWarm ch b → (s.afterStatus l .lit f).bank b = s.bank b)) ∧
      (∃ z, (s.afterStatus l .lit f).lamp l = some z ∧ s.putOut (s.afterStatus l .lit f)
        { x with unconfirmed := false, adopted := true, attempts := 0, sets := 0, strikeTimer := none } z) ∧
      ∀ m y, m ≠ l → s.lamp m = some y →
        ((s.bank y.bank).owner = some ch ∧ y.state = .lit ∧ y.adopted = true →
          ∃ z, (s.afterStatus l .lit f).lamp m = some z ∧ s.putOut (s.afterStatus l .lit f) y z) ∧
        (¬ ((s.bank y.bank).owner = some ch ∧ y.state = .lit ∧ y.adopted = true) →
          (¬ s.leftShort ch y.bank → (s.afterStatus l .lit f).lamp m = some y) ∧
          (s.leftShort ch y.bank → ∃ z, (s.afterStatus l .lit f).lamp m = some z ∧
            s.flagBecame (s.afterStatus l .lit f) false y z)) := by
  have turn := h.putsOut_turn off met window down dark enough
  have out := putOutChannel_putOut (u := s.adopting ch l x) (ch := ch) window
  have rest : (s.adopting ch l x).atRest := h.rest.of_eq rfl rfl
  have quiet : ∀ k, lampPos k ∉ (s.adopting ch l x).slotsMade := fun k => by rw [rest.2]; exact List.not_mem_nil
  have sound := (State.notesSound.atRest rest).moves out.moves
  have ground : s.sameGround (putOutChannel ch (s.adopting ch l x)) := (sameGround_setLamp s l _).trans out.moves.ground
  have onward := passOn_hasPassedOn (f := f) (endEvent_leavesRest (putOutChannel ch (s.adopting ch l x)))
  have owner : ((s.adopting ch l x).bank x.bank).owner = some ch := h.owner
  have calm : (putOutLamps ch (s.adopting ch l x)).dueShort (s.adopting ch l x) x.bank ≠ true := fun due => by
    have short := (dueShort_adopting h.lamp off dark h.owner).mp due
    cases dark.symm.trans short.2.1
  rw [State.afterStatus, turn]
  refine ⟨fun b => ?_, ?_, fun m y hm hy => ?_⟩
  · rw [onward.bank, out.acted.bank rest.2 sound]
    exact out.bank h.lamp off dark b
  · obtain ⟨z, hz, put⟩ := out.acted.putOut (y := s.litAs ch true x.heard) quiet sound ground adopting_lamp
      ((if_pos owner).trans (if_neg calm)) rfl rfl
    rw [onward.lamp]
    exact ⟨z, hz, State.putOut_onward put onward⟩
  · have there : (s.adopting ch l x).lamp m = some y := (adopting_other hm).trans hy
    rw [onward.lamp]
    by_cases own : (s.bank y.bank).owner = some ch
    · have own' : ((s.adopting ch l x).bank y.bank).owner = some ch := own
      have due := dueShort_adopting h.lamp off dark own
      by_cases adopted : y.state = .lit ∧ y.adopted = true
      · obtain ⟨kept, quenched⟩ := flagged_adoptedOut (s.adopting ch l x) adopted
        refine ⟨fun _ => ?_, fun other => absurd ⟨own, adopted⟩ other⟩
        obtain ⟨z, hz, put⟩ := out.acted.putOut (y := y) quiet sound ground there
          ((if_pos own').trans (by rw [kept, ite_self, quenched])) rfl rfl
        exact ⟨z, hz, State.putOut_onward put onward⟩
      · have stays : y.adoptedOut = y := if_neg adopted
        refine ⟨fun other => absurd other.2 adopted, fun _ => ⟨fun long => ?_, fun short => ?_⟩⟩
        · exact out.acted.stays quiet sound ground there
            ((if_pos own').trans ((if_neg (mt due.mp long)).trans stays)) rfl
        · obtain ⟨z, hz, flag⟩ := out.acted.flag (w := false) quiet sound ground there
            ((if_pos own').trans ((if_pos (due.mpr short)).trans (by rw [stays, adopting_flagged])))
          exact ⟨z, hz, State.flagBecame_onward flag onward⟩
    · refine ⟨fun other => absurd other.1 own, fun _ => ⟨fun _ => ?_, fun short => absurd short.1.1 own⟩⟩
      exact out.acted.stays quiet sound ground there (if_neg own) rfl

end State.Heard

end StandingDown

end Sys2Proof.Machine

namespace Sys2Proof.Machine
open Sys2Proof

set_option Elab.async false

/-! ### The frames of an event with a tapped frame, and O22 (08, R139, R143) -/

section StatusFrames

variable {s t u v : State} {ch : ChanId} {x y z : Lamp} {l m : LampId} {f : Frame} {st : LampStatus}
  {dst src code : Byte}

/-- ALERT frames go north, and after them the frame as the queue allows; commands go south. -/
theorem onward_frames (rest : s.atRest) (moves : s.moves v) (f : Frame) :
    (∃ made, s.areAlerts made ∧ (passOn .south f (endEvent v)).north.queue =
        s.north.queue ++ made ++ s.goingOn f made.length) ∧
      ∃ made, s.areCommands made ∧ (passOn .south f (endEvent v)).south.queue = s.south.queue ++ made := by
  obtain ⟨⟨before, alerts, queue⟩, cmds, commands, south⟩ :=
    moves.event.sends (endEvent_ends ((State.notesSound.atRest rest).moves moves))
  have onward := passOn_hasPassedOn (f := f) (endEvent_leavesRest v)
  obtain ⟨after, late, queue'⟩ := onward.north
  have same : (endEvent v).areAlerts after = s.areAlerts after ∧ (endEvent v).address = s.address := by
    obtain ⟨_, _, _, _, _, frames⟩ := endEvent_framesOnly v
    obtain ⟨_, _, _, _, _, _, _, event⟩ := moves.event
    rw [frames, event]
    exact ⟨rfl, rfl⟩
  rw [same.1] at late
  refine ⟨⟨before ++ after, fun q hq => (List.mem_append.mp hq).elim (alerts q) (late q), ?_⟩, cmds, commands, ?_⟩
  · rw [queue', State.goingOn, State.goingOn, queue, same.2, List.length_append, List.length_append, Nat.add_assoc,
      List.append_assoc s.north.queue]
  · rw [onward.south, south]

/-- A status that reaches no machine (07, R127). -/
theorem tapStatus_none (payload : List Byte) {n : Nat} (h : ∀ m y, s.lamp m = some y → y.station ≠ n) :
    tapStatus n payload s = s := by
  unfold tapStatus
  rw [State.lampOfStation_none h]
  split
  · next e => cases e
  · rfl

/-- A status that reaches the machine of its station. -/
theorem tapStatus_some {n : Nat} (status : statusOf [code] = some st) (hx : s.lamp l = some x) (station : x.station = n)
    (alone : ∀ m y, s.lamp m = some y → y.station = x.station → m = l) : tapStatus n [code] s = lampStatus l st s := by
  unfold tapStatus
  rw [status, State.lampOfStation_some hx station alone]

/-- A lamp of no live channel is only confirmed. -/
theorem freeStatus_onward (rest : s.atRest) (hx : s.lamp l = some x) (free : s.bankGoverned x.bank = false)
    (away : stationOf f.dst ≠ s.address) (room : s.north.queue.length < 16) :
    s.afterStatus l st f = (s.setLamp l (some { x with unconfirmed := false })).modPort .north fun ps =>
      { ps with queue := ps.queue ++ [⟨f, false, false⟩] } := by
  have still : (s.setLamp l (some x.heard)).atRest := rest.of_eq rfl rfl
  rw [State.afterStatus, lampStatus_free hx free, endEvent_atRest still, passOn_room still away room]
  rfl

/-- Every code of 1 to 5 is a status. -/
theorem statusOf_code (low : 1 ≤ code.toNat) (high : code.toNat ≤ 5) : ∃ st, statusOf [code] = some st ∧
    (code = 1 ↔ st = .lit) ∧ (code = 2 ↔ st = .dark) ∧ (code = 3 ↔ st = .strikeFail) ∧
      (code = 4 ↔ st = .dropout) ∧
      (code = 5 ↔ st = .overtemp) := by
  have codes : code = 1 ∨ code = 2 ∨ code = 3 ∨ code = 4 ∨ code = 5 := by bv_omega
  rcases codes with rfl | rfl | rfl | rfl | rfl
  · exact ⟨.lit, rfl, by decide⟩
  · exact ⟨.dark, rfl, by decide⟩
  · exact ⟨.strikeFail, rfl, by decide⟩
  · exact ⟨.dropout, rfl, by decide⟩
  · exact ⟨.overtemp, rfl, by decide⟩

end StatusFrames

/-- Settles O22: the lamp takes its turn, the bank is judged by the count that this leaves, and the frame goes on
behind what the event made. -/
theorem lampStatusReachesItsLamp : Obligations.LampStatusReachesItsLamp := by
  intro dst src code l x f s rest normal away room low high hf
  subst hf
  refine ⟨fun nobody => ?_, fun hx station alone => ?_⟩
  · rw [exec_lampStatusFrame normal, tapStatus_none _ nobody, endEvent_atRest rest, passOn_room rest away room]
  obtain ⟨st, status, lit, dark, fail, drop, hot⟩ := statusOf_code low high
  have row : exec (.lampStatusFrame dst src [code]) s = .next (s.afterStatus l st ⟨dst, src, 0x02, [code]⟩) := by
    rw [exec_lampStatusFrame normal, tapStatus_some status hx station alone]
    rfl
  refine ⟨fun free => ?_, fun ch owner => ⟨fun dormant => ?_, fun live => ?_⟩⟩
  · rw [row, freeStatus_onward rest hx (by simp [State.bankGoverned, free]) away room]
  · rw [row, freeStatus_onward rest hx (by simp [State.bankGoverned, owner, dormant]) away room]
  have h : s.Heard l x ch ⟨dst, src, 0x02, [code]⟩ := ⟨rest, hx, owner, live, away, room⟩
  obtain ⟨north, south⟩ := onward_frames rest (State.moves.refl.lampStatus l st) ⟨dst, src, 0x02, [code]⟩
  have lost : code = 2 ∨ code = 4 → st = .dark ∨ st = .dropout := Or.imp dark.mp drop.mp
  have one : code = 1 → st = .lit := lit.mp
  refine ⟨_, row, north, south, fun c striking known quiet => ?_, fun c burns warming warm enough out => ?_,
    fun c off met out quiet => ?_, fun c off met window up still enough => ?_, fun c off met window down few => ?_,
    fun c off met window down still enough => ?_, fun c burning => ?_, fun c waiting known => ?_,
    fun c burning known few quiet => ?_, fun c burning known limited third quiet => ?_, fun c striking known => ?_,
    fun c out known => ?_, fun c cold => ?_, fun c burning known run short => ?_, fun only => ?_,
    fun c off met => ?_⟩
  · obtain rfl := one c
    obtain ⟨frame, still, lamp⟩ := h.success striking known quiet
    exact ⟨frame, still, lamp⟩
  · obtain rfl := one c
    exact h.runs burns warming warm enough out
  · obtain rfl := one c
    obtain ⟨frame, still, lamp⟩ := h.adoption off met out quiet
    exact ⟨frame, still, lamp⟩
  · obtain rfl := one c
    exact h.adoptsBank off met window up still enough
  · obtain rfl := one c
    exact h.adoptedOut off met window down few
  · obtain rfl := one c
    exact h.putsOut off met window down still enough
  · obtain rfl := one c
    exact h.unwelcome burning
  · obtain rfl := one c
    exact h.burnsInWait waiting known
  · exact h.dropout (lost c) burning known few quiet
  · obtain ⟨raised, banks, others, commanded⟩ := h.lastDropout (lost c) burning known limited third quiet
    exact ⟨raised, others, banks, commanded⟩
  · obtain rfl := fail.mp c
    exact h.failure striking known
  · obtain rfl := hot.mp c
    exact h.overtemp out known
  · obtain rfl := hot.mp c
    exact h.overtempCold cold
  · have gone : (st = .dark ∨ st = .dropout) ∨ st = .overtemp := by
      rcases c with c | c | c
      · exact .inl (lost (.inl c))
      · exact .inl (lost (.inr c))
      · exact .inr (hot.mp c)
    have short' := h.leftShort gone burning known run short
    simp only [ne_eq, ← hot] at short' ⊢
    exact short'
  · rcases only with ⟨c, burning⟩ | ⟨c, idle, on⟩ | ⟨c, unlit, on⟩
    · obtain rfl := one c
      exact h.confirmedOnly (by unfold statusActs statusLit; rw [burning]) (by rw [burning]; decide)
    · obtain rfl := fail.mp c
      exact h.confirmedOnly (if_neg idle) on
    · refine h.confirmedOnly ?_ on
      rcases lost c with rfl | rfl <;> exact if_neg unlit
  · have other : st ≠ .lit := by
      rintro rfl
      have c1 := lit.mpr rfl
      rw [c1] at c
      revert c
      decide
    obtain ⟨frame, tried, quiet⟩ := h.confirmedOff other off
    refine ⟨frame, ?_⟩
    rintro y rfl
    simp only [hot]
    exact ⟨tried, quiet⟩

end Sys2Proof.Machine
